-- ==== Sys2Proof/Word.lean ====
section
/-! DEFINITION. The words of the NP-256: the byte that travels on a port, and the 32-bit check. -/

namespace Sys2Proof

/-- One byte of a message (R161). -/
abbrev Byte := BitVec 8

/-- A 32-bit check or digest (R180). -/
abbrev Word32 := BitVec 32

end Sys2Proof
end

