-- ==== Sys2Proof/Syntax.lean ====
section
/-! DEFINITION. The commands of the NP-256: one constructor per row of spec/opcode_table.json, with the row's operands. A
request carries its port, its seq and its payload bytes as they arrive (R161), so that the common check order (R182) and the
well-formedness of payloads (R183) belong to the command's meaning. -/

namespace Sys2Proof

/-- The two ports (00 section 1.2). -/
inductive Port where
  | A | B
  deriving DecidableEq, Repr

/-- The two sources of a framing error (Table 9.4): a length above 640 on either port (R162), or a port B character whose stop
bit is low (R165). -/
inductive FramingFault where
  | lengthOver (p : Port)
  | stopBitLow
  deriving DecidableEq, Repr

/-- How a sector erase and its verify end (R94): the verify passes and the erase count is programmed; the verify fails; or the
verify passes and the program of the erase count fails its own verify (R80; log 6). -/
inductive EraseResult where
  | clean
  | verifyFail
  | countFail
  deriving DecidableEq, Repr

/-- The commands, in the order of the table. Operands beyond the message fields are inputs from outside: `run` is the level on
the RUN pin when it is read (R53, R186; log 5), `arrayOk`, `ok`, `mapOk` and `result` are the outcomes of the array's verifies
(R80, R98; log 6), `vdd` is the supply in mV (R121; log 5), `taken` the bytes received before NSS_A rose (R163; log 19). -/
inductive Instr where
  | describe (p : Port) (seq : Byte) (payload : List Byte)
  | status (p : Port) (seq : Byte) (payload : List Byte) (run : Bool)
  | linkReset (p : Port) (seq : Byte) (payload : List Byte)
  | restart (p : Port) (seq : Byte) (payload : List Byte) (arrayOk : Bool)
  | define (p : Port) (seq : Byte) (payload : List Byte)
  | setup (p : Port) (seq : Byte) (payload : List Byte)
  | seal (p : Port) (seq : Byte) (payload : List Byte)
  | wipe (p : Port) (seq : Byte) (payload : List Byte)
  | beginFrame (p : Port) (seq : Byte) (payload : List Byte)
  | set (p : Port) (seq : Byte) (payload : List Byte)
  | get (p : Port) (seq : Byte) (payload : List Byte)
  | rollback (p : Port) (seq : Byte) (payload : List Byte)
  | merge (p : Port) (seq : Byte) (payload : List Byte)
  | abandon (p : Port) (seq : Byte) (payload : List Byte)
  | commit (p : Port) (seq : Byte) (payload : List Byte) (run : Bool)
  | bulkRead (p : Port) (seq : Byte) (payload : List Byte)
  | bulkWrite (p : Port) (seq : Byte) (payload : List Byte)
  | bulkAbort (p : Port) (seq : Byte) (payload : List Byte)
  | watch (p : Port) (seq : Byte) (payload : List Byte)
  | unwatch (p : Port) (seq : Byte) (payload : List Byte)
  | unknownKind (p : Port) (seq : Byte) (kind : Byte) (payload : List Byte)
  | block (p : Port) (payload : List Byte)
  | hold (p : Port)
  | go (p : Port)
  | checkError (p : Port)
  | framingError (f : FramingFault)
  | cutMessage (taken : List Byte)
  | breakStart
  | messageSentA
  | messageSentB
  | data (p : Port)
  | credit (p : Port)
  | bulkDone (p : Port)
  | notice (p : Port)
  | blockProcessing (p : Port)
  | leaseExpiry (p : Port)
  | warnCrossing
  | normalCrossing
  | cutoff
  | pinReset
  | powerOnReset
  | heldExit (vdd : Nat)
  | scanEnd
  | replayEnd
  | cleanupEnd
  | slotProgramDone (ok : Bool) (mapOk : Bool)
  | sectorEraseDone (result : EraseResult) (mapOk : Bool)
  | breakEnd
  deriving DecidableEq, Repr

end Sys2Proof
end

