-- ==== Sys2Proof/Decode.lean ====
section
/-! DEFINITION. The decoder over the rows of the opcode table that give bits. No row of the table gives any: the commands are
messages, pin events and events of the part's own units, and how messages are coded in bytes stands in Machine/Wire.lean,
Machine/Operands.lean and Machine/Receiver.lean. -/

namespace Sys2Proof

/-- The command that a word spells by the table's bits: none, since no row of the table gives bits. -/
def decodeTableWord (_nbits _w : Nat) : Option Instr := none

end Sys2Proof
end

