-- ==== Sys2Proof/Machine/Crc.lean ====
section
/-! DEFINITION. The two cyclic redundancy checks of R180. -/

namespace Sys2Proof.Machine

open Sys2Proof

/-- One bit of the CRC-16: polynomial 1021h, most significant bit first (R180). -/
def crc16Bit (c : BitVec 16) : BitVec 16 := if c.msb then (c <<< 1) ^^^ 0x1021#16 else c <<< 1

/-- One byte of the CRC-16. -/
def crc16Byte (c : BitVec 16) (b : Byte) : BitVec 16 :=
  crc16Bit (crc16Bit (crc16Bit (crc16Bit (crc16Bit (crc16Bit (crc16Bit (crc16Bit
    (c ^^^ (b.setWidth 16 <<< 8)))))))))

/-- The message check (R161, R180): initial value FFFFh, not reflected, not inverted. -/
def crc16 (bytes : List Byte) : BitVec 16 := bytes.foldl crc16Byte 0xFFFF#16

/-- One bit of the CRC-32: polynomial 04C11DB7h, reflected, so least significant bit first (R180). -/
def crc32Bit (c : Word32) : Word32 := if c.getLsbD 0 then (c >>> 1) ^^^ 0xEDB88320#32 else c >>> 1

/-- One byte of the CRC-32. -/
def crc32Byte (c : Word32) (b : Byte) : Word32 :=
  crc32Bit (crc32Bit (crc32Bit (crc32Bit (crc32Bit (crc32Bit (crc32Bit (crc32Bit
    (c ^^^ b.setWidth 32))))))))

/-- The register of the CRC-32 before any byte (R180; the initial value of a running check, R136). -/
def crc32Init : Word32 := 0xFFFFFFFF#32

/-- The register after further bytes. -/
def crc32Update (c : Word32) (bytes : List Byte) : Word32 := bytes.foldl crc32Byte c

/-- The check a register stands for: the final inversion (R180). -/
def crc32Final (c : Word32) : Word32 := ~~~ c

/-- The CRC-32 of a run of bytes (R180). -/
def crc32 (bytes : List Byte) : Word32 := crc32Final (crc32Update crc32Init bytes)

end Sys2Proof.Machine
end

