-- ==== Sys2Proof/Config.lean ====
section
/-! DEFINITION. The capacities and limits that the manual fixes (Table 0.2, Tables 6.6, 9.9, 10.5). What the manual
leaves open of the array's contents after an operation that did not end well is the free value `residue` (log 10, log 12, log 31). -/

namespace Sys2Proof.Config

/-- Catalog entries (R1). -/
def maxEntries : Nat := 256
/-- Staging frame depth (R24). -/
def maxDepth : Nat := 8
/-- Undo records of the pool (R28). -/
def poolSize : Nat := 192
/-- Outstanding requests of a port (R170). -/
def windowSize : Nat := 2
/-- Messages of an outbound queue (R172). -/
def outboundSize : Nat := 4
/-- Entries of a reply cache (R169). -/
def cacheSize : Nat := 4
/-- Notices of a notice queue (R150). -/
def noticeSize : Nat := 32
/-- Ranges of a watch filter (R156). -/
def watchSize : Nat := 4
/-- Notices in one NOTICE message (R155). -/
def noticesPerMessage : Nat := 8
/-- Items in one bulk block (R130). -/
def itemsPerBlock : Nat := 16
/-- Blocks of the write buffer, and credits of a bulk write (R137). -/
def bufferBlocks : Nat := 2
/-- Largest payload length of a message (R161). -/
def maxPayload : Nat := 640
/-- Largest value of an error counter and of a lost count (R178, R153). -/
def counterMax : Nat := 65535
/-- The count of versions, which wraps (R6). -/
def versionModulus : Nat := 65536
/-- The durable commit number at which a COMMIT is refused (R52, R62). -/
def commitMax : Nat := 4294967295
/-- Slots of a sector, header included (R80). -/
def sectorSlots : Nat := 256
/-- Content slots of a sector (R80). -/
def contentSlots : Nat := 255
/-- Slots for definitions in the catalog area (R17). -/
def areaSlots : Nat := 1018
/-- Erase limit of a sector (R94). -/
def eraseLimit : Nat := 100000
/-- The ring sectors in order (R80). -/
def ringNumbers : List Nat := [4, 5, 6, 7, 8, 9, 10, 11, 12, 13, 14, 15]
/-- Release level in mV (Table 6.6). -/
def releaseLevel : Nat := 2700
/-- NORMAL level in mV (Table 6.6). -/
def normalLevel : Nat := 2950
/-- Lowest and highest identifier of an entry (00 section 3, R11). -/
def idMax : Nat := 65534

/-- FREE VALUE (log 10, log 12, log 31): what the `draw`-th array operation that did not end well left, where the manual
leaves it open. Bit 0: the erase count of a partly erased ring sector, or the content of a partly erased sector of the
catalog area, still reads as before. Bit 1: that content reads as erased. Bit 2: the slot or header in progress when an
image was abandoned is programmed. Bit `k` from 4 on: the retire map's field for ring sector `k` still reads as programmed
after an erase, or was programmed by a program of the map. -/
opaque residue (draw bit : Nat) : Bool

end Sys2Proof.Config
end

