-- ==== Sys2Proof/Machine/State.lean ====
section
/-! DEFINITION. The state of the NP-256 as plain data: every piece of state the spec gives the part (INVENTORY.md lists each
with its rule), the queue of waiting commands, and the reset state. -/

namespace Sys2Proof.Machine

open Sys2Proof

/-- No rule of the manual stops the part: a damaged message is dropped, a bad request is refused by a message, an array fault
is handled by the store. So no meaning faults and there is no constructor (safe: nothing is stopped). -/
inductive Fault where
  deriving DecidableEq, Repr

/-- Why the model gives no meaning to a command. -/
inductive Refusal where
  /-- Raised by `exec` alone, for a row that has no meaning yet (safe: the model stops). No row is refused now. -/
  | notModelled (mnemonic : String)
  deriving DecidableEq, Repr

/-! ### Codes -/

/-- Refusal codes (Table 10.7). -/
inductive RefuseCode where
  | unknownKind | malformed | windowFull | starting | wrongState | notPermitted | noSuchId | outOfRange | notAChoice
  | tooLong | constant | notOwner | ownedByOther | stackFull | stackEmpty | nestedOpen | poolFull | commitPending
  | runActive | linkViolation | supplyLow | storeReadOnly | storeFault | catalogFull | duplicateId | badDefinition
  | linkInvalid | linkCycle | catalogTooLarge | bulkActive | noBulk | watchFull
  deriving DecidableEq, Repr

/-- Port B mode of the setup record (Table 1.5). -/
inductive PortBMode where
  | observe | tune | full
  deriving DecidableEq, Repr

/-- Bit rates of port B (Table 1.5). -/
inductive Rate where
  | r9600 | r19200 | r57600 | r115200 | r460800 | r921600
  deriving DecidableEq, Repr

/-- Supply state (R121). -/
inductive Supply where
  | normal | warn
  deriving DecidableEq, Repr

/-! ### Catalog (chapter 1) -/

/-- A parameter value (R2): a whole number or a byte string. -/
inductive Value where
  | num (n : Int)
  | text (bytes : List Byte)
  deriving DecidableEq, Repr

/-- A value field as it travels (R181): four bytes that are read by the kind of the entry, or a text. -/
inductive WireValue where
  | number (raw : Word32)
  | text (bytes : List Byte)
  deriving DecidableEq, Repr

/-- Kind, width and range of an entry (R2, R3). -/
inductive Shape where
  | unsigned (width : Nat) (lower upper : Int)
  | signed (width : Nat) (lower upper : Int)
  | choice (choices : List Int)
  | text (maxLength : Nat)
  deriving DecidableEq, Repr

/-- The definition of one parameter (Table 1.1). `link` is the upper link, 0 for none. -/
structure Definition where
  id : Nat
  shape : Shape
  link : Nat
  default : Value
  persistent : Bool
  stopOnly : Bool
  constant : Bool
  deriving DecidableEq, Repr

/-- What an entry holds in a SEALED catalog beside its definition (R6). -/
structure Live where
  working : Value
  committed : Value
  version : Nat
  deriving DecidableEq, Repr

/-- One entry of the catalog: values are present in SEALED only (Table 1.1). -/
structure Entry where
  defn : Definition
  live : Option Live
  deriving DecidableEq, Repr

/-- Catalog states (R8). -/
inductive CatState where
  | empty | building | sealing | sealed | wiping
  deriving DecidableEq, Repr

/-- The setup record (R13); lease periods in tenths of a second. -/
structure Setup where
  leaseA : Nat
  leaseB : Nat
  mode : PortBMode
  rate : Rate
  deriving DecidableEq, Repr

/-- The setup record's defaults (Table 1.5). -/
def Setup.defaults : Setup := { leaseA := 20, leaseB := 20, mode := .observe, rate := .r115200 }

/-- The Catalog. `request` is the seq of the SEAL or WIPE whose answer is still owed (R18, R21), none once a LINK_RESET has
purged it (R171). -/
structure Catalog where
  state : CatState
  entries : List Entry
  setup : Setup
  digest : Word32
  request : Option Byte
  deriving DecidableEq, Repr

/-! ### Frame Stack (chapter 2) -/

/-- An undo record (R27). -/
structure Undo where
  id : Nat
  prior : Value
  deriving DecidableEq, Repr

/-- A staging frame (R25); its level is its position in the stack. The undo list is in order of first write (R26). -/
structure Frame where
  label : Option (List Byte)
  undo : List Undo
  deriving DecidableEq, Repr

/-- The Frame Stack with its Undo Pool (R24, R28): the top frame is the head, `free` counts the free records. -/
structure Stack where
  frames : List Frame
  owner : Option Port
  free : Nat
  deriving DecidableEq, Repr

/-! ### Commit Unit (chapter 3) -/

/-- One entry of a change list (Table 3.1). -/
structure Change where
  id : Nat
  value : Value
  version : Nat
  deriving DecidableEq, Repr

/-- The commit-in-flight record (Table 3.1), with the RUN level sampled for it (R53). -/
structure InFlight where
  port : Port
  seq : Byte
  number : Nat
  changes : List Change
  persistentCount : Nat
  suppressed : Bool
  runSample : Bool
  deriving DecidableEq, Repr

/-! ### Nonvolatile array (R80, R81): described by contents -/

/-- A field of a header (R111): not programmed, not well formed, or well formed. -/
inductive Field where
  | blank
  | torn
  | val (n : Nat)
  deriving DecidableEq, Repr

/-- Kinds of journal group (R85). -/
inductive GroupKind where
  | commit | image
  deriving DecidableEq, Repr

/-- The content of a programmed slot of the ring (R85, R86). -/
inductive Slot where
  | openMark (kind : GroupKind) (number : Nat)
  | numEntry (id : Nat) (value : Int) (version : Nat)
  | textEntry (id length version : Nat)
  | textBytes (bytes : List Byte)
  | closeMark (count : Nat) (check : Word32)
  /-- partly programmed or failed its verify (R80, R105) -/
  | damaged
  deriving DecidableEq, Repr

/-- The content of a programmed slot of the catalog area (R17, R102). -/
inductive AreaSlot where
  | openMark (setup : Setup) (base : Nat)
  | definition (d : Definition)
  /-- a further slot of the definition before it (Table 1.6) -/
  | more
  | closeMark (count : Nat) (check : Word32)
  | damaged
  deriving DecidableEq, Repr

/-- A ring sector (R81). `content` lists the slots programmed since the erase, from slot 1 on; later slots are erased. -/
structure RingSector where
  sector : Nat
  eraseCount : Field
  generation : Field
  restart : Bool
  content : List Slot
  deriving DecidableEq, Repr

/-- A sector of the catalog area: its header's place field and its content slots. -/
structure AreaSector where
  sector : Nat
  place : Field
  content : List AreaSlot
  deriving DecidableEq, Repr

/-- The nonvolatile array. `retireMap` names the ring sectors whose field of the retire map is programmed, in whole or in part
(R81, R110). -/
structure NonVol where
  area : List AreaSector
  retireMap : List Nat
  ring : List RingSector
  deriving DecidableEq, Repr

/-! ### Journal Store (chapter 5) -/

/-- Sector roles (Table 5.1). -/
inductive Role where
  | free | filling | full | stale | erasing | retired
  deriving DecidableEq, Repr

/-- A record of the sector table (R82). -/
structure SectorRec where
  sector : Nat
  role : Role
  generation : Option Nat
  eraseCount : Option Nat
  used : Nat
  deriving DecidableEq, Repr

/-- Store operations (R87). -/
inductive Operation where
  | idle | appending | compacting | erasing | catalogWrite | wipeErase
  deriving DecidableEq, Repr

/-- Attempt numbers of a group (R87, R96). -/
inductive Attempt where
  | first | second
  deriving DecidableEq, Repr

/-- The pending COMMIT group (R87): its commit number and its change entries (R57). -/
structure PendingAppend where
  number : Nat
  entries : List Change
  attempt : Attempt
  deriving DecidableEq, Repr

/-- Compaction (R87). -/
inductive Compaction where
  | none
  | requested (attempt : Attempt)
  | running (attempt : Attempt)
  deriving DecidableEq, Repr

/-- Store mode (R87). -/
inductive StoreMode where
  | writable | readOnly
  deriving DecidableEq, Repr

/-- Where a group began (R92, R100): the sector, its generation, and whether it already held earlier groups. -/
structure GroupStart where
  sector : Nat
  generation : Option Nat
  shared : Bool
  deriving DecidableEq, Repr

/-- The group being programmed: the slots still to program, the one in progress first; the sectors it has been given (R96). -/
structure GroupWrite where
  kind : GroupKind
  attempt : Attempt
  remaining : List Slot
  begun : Option GroupStart
  sectors : List Nat
  deriving DecidableEq, Repr

/-- The operation on the array in progress (R80): one slot program or one sector erase. -/
inductive ArrayOp where
  | none
  /-- programs generation and restart flag of a ring sector being opened (R83) -/
  | header (sector generation : Nat) (restart : Bool)
  | slot (sector : Nat) (content : Slot)
  | erase (sector : Nat)
  | areaHeader (sector : Nat)
  | areaSlot (sector : Nat) (content : AreaSlot)
  /-- programs the retire map after a wipe erase (R104) -/
  | retireMap
  deriving DecidableEq, Repr

/-- The steps still to do of a catalog write (R102) or a wipe erase (R104). -/
inductive Task where
  | erase (sector : Nat)
  /-- step 3 of the catalog write begins -/
  | programArea
  | areaHeader (sector : Nat)
  | areaSlot (sector : Nat) (content : AreaSlot)
  /-- step 5: the initial image -/
  | image (attempt : Attempt)
  | retireMap
  deriving DecidableEq, Repr

/-- The Journal Store (R82, R87) with the progress of its work. `imageOwed`: no image has closed since a start with NO_IMAGE, so no
COMMIT group starts (R118). -/
structure Store where
  table : List SectorRec
  operation : Operation
  pend : Option PendingAppend
  compaction : Compaction
  mode : StoreMode
  durable : Nat
  reserve : Nat
  restartNote : Bool
  openedLast : Option Nat
  writing : Option GroupWrite
  arrayOp : ArrayOp
  tasks : List Task
  wipeFault : Bool
  imageOwed : Bool
  deriving DecidableEq, Repr

/-! ### Start-up Controller and Supply Monitor (chapter 6) -/

/-- Reset causes (R105). -/
inductive ResetCause where
  | powerOn | brownOut | pin | command
  deriving DecidableEq, Repr

/-- Start states (Table 6.2). -/
inductive StartState where
  | held | scanning | replaying | cleanup | ready
  deriving DecidableEq, Repr

/-- Replay outcomes (Table 6.4). -/
inductive ReplayOutcome where
  | none | clean | tornTail | truncated | noImage
  deriving DecidableEq, Repr

/-- What the replay walk hands over (R116) and cleanup uses (R117): the generation of the sector that holds the newest image's
open mark, the sector of the end point, the sectors after it in the stream, the sectors whose content was wholly skipped, and
whether a slot is programmed after the end point. -/
structure ReplayResult where
  outcome : ReplayOutcome
  groups : Nat
  imageGeneration : Option Nat
  endSector : Option Nat
  later : List Nat
  skipped : List Nat
  tail : Bool
  deriving DecidableEq, Repr

/-- The Start-up Controller and the Supply Monitor's state. A cause of none is a lost cause (R107). -/
structure Controller where
  start : StartState
  cause : Option ResetCause
  replay : Option ReplayResult
  supply : Supply
  deriving DecidableEq, Repr

/-! ### Bulk Engine (chapter 7) -/

/-- The view of a bulk read (R129). -/
inductive View where
  | committed | working
  deriving DecidableEq, Repr

/-- First errors of a bulk write (R144). -/
inductive BulkError where
  | item (code : RefuseCode)
  | blockOrder
  | overrun
  | transferCheck
  deriving DecidableEq, Repr

/-- A first error with where it was recorded (R126). -/
structure FirstError where
  error : BulkError
  block : Nat
  item : Nat
  deriving DecidableEq, Repr

/-- A BLOCK in the write buffer: the three header bytes of R189 and the bytes after them. -/
structure Block where
  index : Nat
  count : Nat
  checkPresent : Byte
  body : List Byte
  deriving DecidableEq, Repr

/-- The fields of a read context (R126). -/
structure ReadCtx where
  view : View
  items : List Nat
  next : Nat
  sent : Nat
  firstNumber : Option Nat
  lastNumber : Option Nat
  deriving DecidableEq, Repr

/-- The fields of a write context (R126). `running` is the register of the running CRC-32. -/
structure WriteCtx where
  declared : Nat
  blocks : Nat
  expected : Nat
  received : Nat
  applied : Nat
  creditsOpen : Nat
  creditsPending : Nat
  buffer : List Block
  firstError : Option FirstError
  running : Word32
  deriving DecidableEq, Repr

/-- Transfer kinds (Table 10.8). -/
inductive TransferKind where
  | read | write
  deriving DecidableEq, Repr

/-- Bulk ends (Table 10.8). -/
inductive BulkEnd where
  | complete | aborted | leaseExpired | linkReset
  deriving DecidableEq, Repr

/-- The contents of a BULK_DONE (R133, R144, Table 10.9). -/
structure DoneRec where
  kind : TransferKind
  ending : BulkEnd
  blocks : Nat
  items : Nat
  firstNumber : Nat
  lastNumber : Nat
  torn : Bool
  firstError : Option FirstError
  deriving DecidableEq, Repr

/-- A port's bulk context (R126). -/
inductive BulkCtx where
  | idle
  | reading (r : ReadCtx)
  | paused (r : ReadCtx)
  | writing (w : WriteCtx)
  | closing (d : DoneRec)
  deriving DecidableEq, Repr

/-! ### Notice Units (chapter 8) -/

/-- Notices (Table 8.1). -/
inductive Notice where
  | changed (id version number : Nat)
  | ownerChanged (owner : Option Port)
  | leaseExpired (depth : Nat)
  | supplyWarn
  | supplyOk
  | storeReadOnly (retired : Nat)
  | lost (count : Nat)
  deriving DecidableEq, Repr

/-- A range of a watch filter (R156). -/
structure IdRange where
  lo : Nat
  hi : Nat
  deriving DecidableEq, Repr

/-! ### Link Units (chapter 9) -/

/-- The head of a message being received: its length, seq and kind (R161). -/
structure MessageHead where
  length : Nat
  seq : Byte
  kind : Byte
  deriving DecidableEq, Repr

/-- Receiver states with the bytes held (R162). -/
inductive RxState where
  | hunt
  | sync
  | header (held : List Byte)
  | payload (head : MessageHead) (held : List Byte)
  | check (head : MessageHead) (body : List Byte) (held : List Byte)
  deriving DecidableEq, Repr

/-- Error counters (Table 9.4). -/
structure Counters where
  checkErrors : Nat
  framingErrors : Nat
  cutMessages : Nat
  breaks : Nat
  duplicates : Nat
  cacheAnswers : Nat
  windowFull : Nat
  noRoom : Nat
  strayStream : Nat
  deriving DecidableEq, Repr

/-- All counters 0, as after every reset (R178). -/
def Counters.zero : Counters :=
  { checkErrors := 0, framingErrors := 0, cutMessages := 0, breaks := 0, duplicates := 0, cacheAnswers := 0, windowFull := 0,
    noRoom := 0, strayStream := 0 }

/-- An entry of the outstanding request list (R170). -/
structure Outstanding where
  seq : Byte
  kind : Byte
  deriving DecidableEq, Repr

/-- The two that may contend for a place in an outbound queue (R173). -/
inductive Source where
  | bulk | notice
  deriving DecidableEq, Repr

/-- The Lease Timer (R69): RUNNING with the tenths of a second that remain. -/
inductive Lease where
  | stopped
  | running (remaining : Nat)
  deriving DecidableEq, Repr

/-- The fields of a DESCRIBE reply that vary (Table 10.5). -/
structure DescribeRec where
  catState : CatState
  entryCount : Nat
  digest : Word32
  reserve : Nat
  deriving DecidableEq, Repr

/-- The fields of a STATUS reply (Table 10.6). -/
structure StatusRec where
  catState : CatState
  depth : Nat
  owner : Option Port
  free : Nat
  topLength : Nat
  inFlight : Option Nat
  durable : Nat
  operation : Operation
  mode : StoreMode
  freeSectors : Nat
  filling : Nat
  full : Nat
  stale : Nat
  erasing : Nat
  retired : Nat
  highestErase : Nat
  supply : Supply
  run : Bool
  rate : Rate
  outbound : Nat
  noticeCount : Nat
  lost : Nat
  watch : List IdRange
  bulk : BulkCtx
  lastDone : Option DoneRec
  counters : Counters
  deriving DecidableEq, Repr

/-- The fields of the REPLY to each request, after the kind byte (Table 10.4). -/
inductive Reply where
  | define (count : Nat)
  | setup
  | seal (count reserve : Nat) (digest : Word32)
  | wipe
  | beginFrame (depth free : Nat)
  | set (taken : Bool) (free : Nat)
  | get (version : Nat) (staged : Bool) (value : Value)
  | rollback (depth returned : Nat) (label : Option (List Byte)) (free : Nat)
  | merge (depth moved returned : Nat) (label : Option (List Byte)) (free : Nat)
  | abandon (frames returned free : Nat)
  | commit (number changes persistent free : Nat)
  | bulkRead (items blocks : Nat)
  | bulkWrite (blocks credits depth free : Nat)
  | bulkAbort (kind : TransferKind)
  | watch (ranges : Nat)
  | unwatch (ranges : Nat)
  | describe (r : DescribeRec)
  | status (r : StatusRec)
  deriving DecidableEq, Repr

/-- The START record (Table 6.5). -/
structure StartRec where
  cause : ResetCause
  catState : CatState
  outcome : ReplayOutcome
  durable : Nat
  groups : Nat
  retired : Nat
  mode : StoreMode
  supply : Supply
  digest : Word32
  deriving DecidableEq, Repr

/-- The RESYNC record (Table 9.3). -/
structure ResyncRec where
  durable : Nat
  depth : Nat
  owner : Option Port
  catState : CatState
  mode : StoreMode
  supply : Supply
  deriving DecidableEq, Repr

/-- One item of a DATA block (R131). -/
structure DataItem where
  id : Nat
  version : Nat
  value : Value
  deriving DecidableEq, Repr

/-- What a message of the part carries (Tables 10.2, 10.4, 10.9; R184 to R189). `kept` is the place kept for START from the
reset until READY (R109), no message yet. -/
inductive Body where
  | kept
  | reply (kind : Byte) (r : Reply)
  | refuse (kind : Byte) (code : RefuseCode) (id : Nat)
  | start (r : StartRec)
  | resync (r : ResyncRec)
  | notice (ns : List Notice)
  | data (index number : Nat) (items : List DataItem)
  | credit (count : Nat)
  | bulkDone (d : DoneRec)
  deriving DecidableEq, Repr

/-- A message in an outbound queue: its seq (R174) and what it carries. -/
structure OutMsg where
  seq : Byte
  body : Body
  deriving DecidableEq, Repr

/-- An entry of the reply cache (R169). -/
structure CacheEntry where
  seq : Byte
  kind : Byte
  body : Body
  deriving DecidableEq, Repr

/-- All that a port holds: Link Unit, Lease Timer, bulk context, Notice Unit. `outPos` counts the bytes of the message at the head of
the outbound queue that have gone out (R163, R165). `sent` is the model's own: the bytes of the last message that left the port
(log 24). -/
structure PortState where
  rx : RxState
  outstanding : List Outstanding
  cache : List CacheEntry
  outbound : List OutMsg
  outCount : Nat
  nextGrant : Source
  counters : Counters
  lease : Lease
  bulk : BulkCtx
  lastDone : Option DoneRec
  notices : List Notice
  lost : Nat
  watch : List IdRange
  outPos : Nat
  sent : List Byte
  deriving DecidableEq, Repr

/-- A port after any reset (Table 6.7): everything empty but the place kept for START (R109). -/
def PortState.reset : PortState :=
  { rx := .hunt, outstanding := [], cache := [], outbound := [{ seq := 0, body := .kept }], outCount := 0, nextGrant := .bulk,
    counters := .zero, lease := .stopped, bulk := .idle, lastDone := none, notices := [], lost := 0, watch := [], outPos := 0, sent := [] }

/-- The state of the NP-256 and the queue of waiting commands. `breakLow` is set while RXD_B is held low in a taken break
(R166); `rateInUse` is port B's rate (R15). `draws` is the model's own: it picks the next free value of `Config.residue` (log 10,
log 12). -/
structure State where
  nv : NonVol
  catalog : Catalog
  stack : Stack
  commit : Option InFlight
  store : Store
  ctl : Controller
  portA : PortState
  portB : PortState
  breakLow : Bool
  rateInUse : Rate
  draws : Nat
  pending : List Instr
  deriving DecidableEq, Repr

/-- The record of a ring sector that start-up has not yet classified (log 7). -/
def SectorRec.unknown (k : Nat) : SectorRec :=
  { sector := k, role := .stale, generation := none, eraseCount := none, used := 1 }

/-- The store's RAM after any reset (R87). -/
def Store.reset : Store :=
  { table := Config.ringNumbers.map SectorRec.unknown, operation := .idle, pend := none, compaction := .none,
    mode := .writable, durable := 0, reserve := 0, restartNote := false, openedLast := none, writing := none,
    arrayOp := .none, tasks := [], wipeFault := false, imageOwed := false }

/-- The catalog's RAM after any reset, before the scan (R23). -/
def Catalog.reset : Catalog :=
  { state := .empty, entries := [], setup := .defaults, digest := 0, request := none }

/-- An empty stack with a full pool (R50). -/
def Stack.reset : Stack := { frames := [], owner := none, free := Config.poolSize }

/-- The part in HELD with its RAM lost (R50, R108, R125), over an array, a recorded cause, a supply state, the free values used so far
and a queue of waiting commands, none of which a reset touches. -/
def State.held (nv : NonVol) (cause : Option ResetCause) (supply : Supply) (draws : Nat) (pending : List Instr) : State :=
  { nv := nv, catalog := .reset, stack := .reset, commit := none, store := .reset,
    ctl := { start := .held, cause := cause, replay := none, supply := supply },
    portA := .reset, portB := .reset, breakLow := false, rateInUse := .r115200, draws := draws, pending := pending }

/-- A ring sector that nothing has programmed (log 7). -/
def RingSector.blank (k : Nat) : RingSector :=
  { sector := k, eraseCount := .blank, generation := .blank, restart := false, content := [] }

/-- A catalog-area sector that nothing has programmed (log 7). -/
def AreaSector.blank (k : Nat) : AreaSector := { sector := k, place := .blank, content := [] }

/-- The array before its first use: every slot erased (DESIGN CHOICE, log 7). -/
def NonVol.blank : NonVol :=
  { area := [0, 1, 2, 3].map AreaSector.blank, retireMap := [], ring := Config.ringNumbers.map RingSector.blank }

/-- The part right after reset: HELD, RAM at its reset values (Table 6.7), the array blank and the cause lost, as before the
first power-on (log 7, log 8). The queue is empty. -/
def State.reset : State := State.held .blank none .normal 0 []

end Sys2Proof.Machine
end

