-- ==== Sys2Proof/Machine/Wire.lean ====
section
/-! DEFINITION. The bytes of chapter 10: byte order, value fields, the codes of Tables 10.2, 10.7 and 10.8, the payloads of the
part's own messages, and the frame around a payload. -/

namespace Sys2Proof.Machine

open Sys2Proof

/-! ### Byte order (R180) -/

/-- A two-byte field, most significant byte first. -/
def be16 (a b : Byte) : Nat := a.toNat * 256 + b.toNat

/-- A four-byte field, most significant byte first. -/
def be32 (a b c d : Byte) : Word32 := a ++ b ++ c ++ d

/-- A count as a byte. -/
def put8 (n : Nat) : Byte := BitVec.ofNat 8 n

/-- A count in a byte that stops at 255 (R186, R189). -/
def put8sat (n : Nat) : Byte := BitVec.ofNat 8 (min n 255)

/-- A count as a two-byte field. -/
def put16 (n : Nat) : List Byte := [BitVec.ofNat 8 (n / 256), BitVec.ofNat 8 n]

/-- A 32-bit word as a four-byte field. -/
def put32 (w : Word32) : List Byte :=
  [w.extractLsb' 24 8, w.extractLsb' 16 8, w.extractLsb' 8 8, w.extractLsb' 0 8]

/-- A count as a four-byte field. -/
def putNat32 (n : Nat) : List Byte := put32 (BitVec.ofNat 32 n)

/-- A whole number as a four-byte field, two's complement when negative. -/
def putInt32 (n : Int) : List Byte := put32 (BitVec.ofInt 32 n)

/-- A yes or no byte. -/
def putBool (b : Bool) : Byte := if b then 1 else 0

/-! ### Value fields (R181) -/

/-- The value field the part sends for a value. -/
def valueField : Value → List Byte
  | .num n => 1 :: putInt32 n
  | .text bs => 2 :: put8 bs.length :: bs

/-- Four bytes of a NUMBER and what follows them. -/
def readNumber : List Byte → Option (WireValue × List Byte)
  | a :: b :: c :: d :: rest => some (.number (be32 a b c d), rest)
  | _ => none

/-- The length byte and the bytes of a TEXT and what follows them. -/
def readText : List Byte → Option (WireValue × List Byte)
  | n :: rest => if rest.length < n.toNat then none else some (.text (rest.take n.toNat), rest.drop n.toNat)
  | [] => none

/-- Reads a value field: form 01h or 02h, any other form is not well formed (R181). -/
def readValueField : List Byte → Option (WireValue × List Byte)
  | [] => none
  | form :: rest => if form = 1 then readNumber rest else if form = 2 then readText rest else none

/-! ### Kind codes (Table 10.2) -/

/-- DESCRIBE -/
def kDescribe : Byte := 0x01
/-- STATUS -/
def kStatus : Byte := 0x02
/-- LINK_RESET -/
def kLinkReset : Byte := 0x03
/-- RESTART -/
def kRestart : Byte := 0x04
/-- DEFINE -/
def kDefine : Byte := 0x10
/-- SETUP -/
def kSetup : Byte := 0x11
/-- SEAL -/
def kSeal : Byte := 0x12
/-- WIPE -/
def kWipe : Byte := 0x13
/-- BEGIN -/
def kBegin : Byte := 0x20
/-- SET -/
def kSet : Byte := 0x21
/-- GET -/
def kGet : Byte := 0x22
/-- ROLLBACK -/
def kRollback : Byte := 0x23
/-- MERGE -/
def kMerge : Byte := 0x24
/-- ABANDON -/
def kAbandon : Byte := 0x25
/-- COMMIT -/
def kCommit : Byte := 0x26
/-- BULK_READ -/
def kBulkRead : Byte := 0x30
/-- BULK_WRITE -/
def kBulkWrite : Byte := 0x31
/-- BLOCK -/
def kBlock : Byte := 0x32
/-- HOLD -/
def kHold : Byte := 0x33
/-- GO -/
def kGo : Byte := 0x34
/-- BULK_ABORT -/
def kBulkAbort : Byte := 0x35
/-- WATCH -/
def kWatch : Byte := 0x40
/-- UNWATCH -/
def kUnwatch : Byte := 0x41

/-- The kinds that name a request (Table 10.2). -/
def requestKinds : List Byte :=
  [kDescribe, kStatus, kLinkReset, kRestart, kDefine, kSetup, kSeal, kWipe, kBegin, kSet, kGet, kRollback, kMerge, kAbandon,
   kCommit, kBulkRead, kBulkWrite, kBulkAbort, kWatch, kUnwatch]

/-- The stream kinds (R167). -/
def streamKinds : List Byte := [kBlock, kHold, kGo]

/-! ### Codes (Tables 10.7 and 10.8) -/

/-- Table 10.7. -/
def RefuseCode.code : RefuseCode → Nat
  | .unknownKind => 1 | .malformed => 2 | .windowFull => 3 | .starting => 4 | .wrongState => 5 | .notPermitted => 6
  | .noSuchId => 7 | .outOfRange => 8 | .notAChoice => 9 | .tooLong => 10 | .constant => 11 | .notOwner => 12
  | .ownedByOther => 13 | .stackFull => 14 | .stackEmpty => 15 | .nestedOpen => 16 | .poolFull => 17
  | .commitPending => 18 | .runActive => 19 | .linkViolation => 20 | .supplyLow => 21 | .storeReadOnly => 22
  | .storeFault => 23 | .catalogFull => 24 | .duplicateId => 25 | .badDefinition => 26 | .linkInvalid => 27
  | .linkCycle => 28 | .catalogTooLarge => 29 | .bulkActive => 30 | .noBulk => 31 | .watchFull => 32

/-- Entry kind code. -/
def Shape.kindCode : Shape → Nat
  | .unsigned .. => 1 | .signed .. => 2 | .choice _ => 3 | .text _ => 4

/-- Width as it travels: 4 for CHOICE (R11). -/
def Shape.width : Shape → Nat
  | .unsigned w _ _ => w | .signed w _ _ => w | .choice _ => 4 | .text m => m

/-- Catalog state code. -/
def CatState.code : CatState → Nat
  | .empty => 0 | .building => 1 | .sealing => 2 | .sealed => 3 | .wiping => 4

/-- Owner code. -/
def ownerCode : Option Port → Nat
  | none => 0 | some .A => 1 | some .B => 2

/-- Port B mode code. -/
def PortBMode.code : PortBMode → Nat
  | .observe => 0 | .tune => 1 | .full => 2

/-- The mode a code names, if any (R14). -/
def modeOfCode (n : Nat) : Option PortBMode :=
  if n = 0 then some .observe else if n = 1 then some .tune else if n = 2 then some .full else none

/-- Rate code. -/
def Rate.code : Rate → Nat
  | .r9600 => 0 | .r19200 => 1 | .r57600 => 2 | .r115200 => 3 | .r460800 => 4 | .r921600 => 5

/-- The rate a code names, if any (R14). -/
def rateOfCode (n : Nat) : Option Rate :=
  if n = 0 then some .r9600 else if n = 1 then some .r19200 else if n = 2 then some .r57600
  else if n = 3 then some .r115200 else if n = 4 then some .r460800 else if n = 5 then some .r921600 else none

/-- View code. -/
def View.code : View → Nat
  | .committed => 0 | .working => 1

/-- Supply state code. -/
def Supply.code : Supply → Nat
  | .normal => 0 | .warn => 1

/-- Store mode code. -/
def StoreMode.code : StoreMode → Nat
  | .writable => 0 | .readOnly => 1

/-- Store operation code. -/
def Operation.code : Operation → Nat
  | .idle => 0 | .appending => 1 | .compacting => 2 | .erasing => 3 | .catalogWrite => 4 | .wipeErase => 5

/-- Reset cause code. -/
def ResetCause.code : ResetCause → Nat
  | .powerOn => 1 | .brownOut => 2 | .pin => 3 | .command => 4

/-- Replay outcome code. -/
def ReplayOutcome.code : ReplayOutcome → Nat
  | .none => 0 | .clean => 1 | .tornTail => 2 | .truncated => 3 | .noImage => 4

/-- Bulk context state code. -/
def BulkCtx.code : BulkCtx → Nat
  | .idle => 0 | .reading _ => 1 | .paused _ => 2 | .writing _ => 3 | .closing _ => 4

/-- Transfer kind code; 0 is none. -/
def TransferKind.code : TransferKind → Nat
  | .read => 1 | .write => 2

/-- Bulk end code. -/
def BulkEnd.code : BulkEnd → Nat
  | .complete => 0 | .aborted => 1 | .leaseExpired => 2 | .linkReset => 3

/-- First error code. -/
def BulkError.code : BulkError → Nat
  | .item c => c.code | .blockOrder => 64 | .overrun => 65 | .transferCheck => 66

/-- First error code, block index and item index, 0 with NONE (Table 10.9). -/
def firstErrorBytes : Option FirstError → List Byte
  | none => [0, 0, 0]
  | some e => [put8 e.error.code, put8 e.block, put8 e.item]

/-! ### Payloads of the part's messages -/

/-- A label field: a present byte and four bytes (R184). -/
def labelField : Option (List Byte) → List Byte
  | none => [0, 0, 0, 0, 0]
  | some l => 1 :: l

/-- The setup record as the SETUP payload (Table 10.3; second part of the digest, R190). -/
def Setup.bytes (u : Setup) : List Byte := [put8 u.leaseA, put8 u.leaseB, put8 u.mode.code, put8 u.rate.code]

/-- Table 10.5. -/
def DescribeRec.bytes (r : DescribeRec) : List Byte :=
  [0x26, 0x01, 0x10] ++ put16 Config.maxEntries ++
  [put8 Config.maxDepth, put8 Config.poolSize, put8 Config.windowSize, put8 Config.outboundSize, put8 Config.noticeSize,
   put8 Config.cacheSize, put8 Config.watchSize, put8 r.catState.code] ++
  put16 r.entryCount ++ put32 r.digest ++ [put8 r.reserve]

/-- Table 10.9. -/
def DoneRec.bytes (d : DoneRec) : List Byte :=
  [put8 d.kind.code, put8 d.ending.code, put8sat d.blocks] ++ put16 d.items ++ putNat32 d.firstNumber ++
  putNat32 d.lastNumber ++ [putBool d.torn] ++ firstErrorBytes d.firstError

/-- The 16 bytes of the bulk fields of Table 10.6: state, kind, view, items in set or declared, block count, next or expected, placed or
received, sent or applied, credits open, pending, buffer, first error. Fields not in force read 0 (R186; CLOSING: log 21). -/
def BulkCtx.bytes : BulkCtx → List Byte
  | .idle => List.replicate 16 0
  | .reading r => readBytes 1 r
  | .paused r => readBytes 2 r
  | .writing w =>
    [3, put8 TransferKind.write.code, 0] ++ put16 w.declared ++ [put8 w.blocks, put8 w.expected, put8sat w.received] ++
    put16 w.applied ++ [put8 w.creditsOpen, put8 w.creditsPending, put8 w.buffer.length] ++ firstErrorBytes w.firstError
  | .closing d => [4, put8 d.kind.code] ++ List.replicate 14 0
where
  readBytes (state : Byte) (r : ReadCtx) : List Byte :=
    [state, put8 TransferKind.read.code, put8 r.view.code] ++ put16 r.items.length ++
    [put8 ((r.items.length + 15) / 16), put8 r.next, put8sat r.next] ++ put16 r.sent ++ List.replicate 6 0

/-- The four range fields of STATUS, unused ranges 0 (Table 10.6). -/
def watchBytes (rs : List IdRange) : List Byte :=
  ((rs.flatMap fun (r : IdRange) => put16 r.lo ++ put16 r.hi) ++ List.replicate 16 0).take 16

/-- The error counters in the order of Table 9.4. -/
def Counters.bytes (c : Counters) : List Byte :=
  put16 c.checkErrors ++ put16 c.framingErrors ++ put16 c.cutMessages ++ put16 c.breaks ++ put16 c.duplicates ++
  put16 c.cacheAnswers ++ put16 c.windowFull ++ put16 c.noRoom ++ put16 c.strayStream

/-- The last outcome fields of Table 10.6. -/
def lastDoneBytes : Option DoneRec → List Byte
  | none => List.replicate 18 0
  | some d => 1 :: d.bytes

/-- Table 10.6, 102 bytes. The commit in flight byte is 01h while one is in flight, else 00h (DESIGN CHOICE, log 45). -/
def StatusRec.bytes (r : StatusRec) : List Byte :=
  [put8 r.catState.code, put8 r.depth, put8 (ownerCode r.owner), put8 r.free, put8 r.topLength,
   putBool r.inFlight.isSome] ++ putNat32 (r.inFlight.getD 0) ++ putNat32 r.durable ++
  [put8 r.operation.code, put8 r.mode.code, put8 r.freeSectors, put8 r.filling, put8 r.full, put8 r.stale, put8 r.erasing,
   put8 r.retired] ++ putNat32 r.highestErase ++
  [put8 r.supply.code, putBool r.run, put8 r.rate.code, put8 r.outbound, put8 r.noticeCount] ++ put16 r.lost ++
  [put8 r.watch.length] ++ watchBytes r.watch ++ r.bulk.bytes ++ lastDoneBytes r.lastDone ++ r.counters.bytes

/-- The fields after the kind byte of a REPLY (Table 10.4). The staged byte of GET is 01h for set, 00h for clear (DESIGN CHOICE,
log 45). -/
def Reply.bytes : Reply → List Byte
  | .define n => put16 n
  | .setup => []
  | .seal n r d => put16 n ++ [put8 r] ++ put32 d
  | .wipe => []
  | .beginFrame depth free => [put8 depth, put8 free]
  | .set taken free => [putBool taken, put8 free]
  | .get version staged v => put16 version ++ [putBool staged] ++ valueField v
  | .rollback depth returned l free => [put8 depth, put8 returned] ++ labelField l ++ [put8 free]
  | .merge depth moved returned l free => [put8 depth, put8 moved, put8 returned] ++ labelField l ++ [put8 free]
  | .abandon frames returned free => [put8 frames, put8 returned, put8 free]
  | .commit number changes persistent free => putNat32 number ++ put16 changes ++ put16 persistent ++ [put8 free]
  | .bulkRead items blocks => put16 items ++ [put8 blocks]
  | .bulkWrite blocks credits depth free => [1, put8 blocks, put8 credits, put8 depth, put8 free]
  | .bulkAbort k => [put8 k.code]
  | .watch n => [put8 n]
  | .unwatch n => [put8 n]
  | .describe r => r.bytes
  | .status r => r.bytes

/-- A notice in a NOTICE message (R188). -/
def Notice.bytes : Notice → List Byte
  | .changed id version number => 1 :: (put16 id ++ put16 version ++ putNat32 number)
  | .ownerChanged o => [2, put8 (ownerCode o)]
  | .leaseExpired depth => [3, put8 depth]
  | .supplyWarn => [4]
  | .supplyOk => [5]
  | .storeReadOnly n => [6, put8 n]
  | .lost n => 7 :: put16 n

/-- START (R187). -/
def StartRec.bytes (r : StartRec) : List Byte :=
  [put8 r.cause.code, put8 r.catState.code, put8 r.outcome.code] ++ putNat32 r.durable ++ put16 r.groups ++
  [put8 r.retired, put8 r.mode.code, put8 r.supply.code] ++ put32 r.digest

/-- RESYNC (R187). -/
def ResyncRec.bytes (r : ResyncRec) : List Byte :=
  putNat32 r.durable ++ [put8 r.depth, put8 (ownerCode r.owner), put8 r.catState.code, put8 r.mode.code, put8 r.supply.code]

/-- One item of DATA (R189). -/
def DataItem.bytes (i : DataItem) : List Byte := put16 i.id ++ put16 i.version ++ valueField i.value

/-- The kind byte of a message of the part (Table 10.2). -/
def Body.kindCode : Body → Byte
  | .kept => 0x82 | .reply .. => 0x80 | .refuse .. => 0x81 | .start _ => 0x82 | .resync _ => 0x83 | .notice _ => 0x84
  | .data .. => 0x85 | .credit _ => 0x86 | .bulkDone _ => 0x87

/-- The payload of a message of the part (R184, R187 to R189). -/
def Body.payload : Body → List Byte
  | .kept => []
  | .reply k r => k :: r.bytes
  | .refuse k c id => [k, put8 c.code] ++ put16 id
  | .start r => r.bytes
  | .resync r => r.bytes
  | .notice ns => put8 ns.length :: ns.flatMap Notice.bytes
  | .data index number items => [put8 index, put8 items.length] ++ putNat32 number ++ items.flatMap DataItem.bytes
  | .credit n => [put8 n]
  | .bulkDone d => d.bytes

/-! ### The message frame (R161, Table 10.1) -/

/-- The fields the check covers: length, seq, kind, payload. -/
def checkedFields (seq kind : Byte) (payload : List Byte) : List Byte := put16 payload.length ++ [seq, kind] ++ payload

/-- The check as it is sent, most significant byte first (R180). -/
def checkBytes (seq kind : Byte) (payload : List Byte) : List Byte := put16 (crc16 (checkedFields seq kind payload)).toNat

/-- A whole message on the wire. -/
def frame (seq kind : Byte) (payload : List Byte) : List Byte :=
  [0xC3, 0x3C] ++ checkedFields seq kind payload ++ checkBytes seq kind payload

/-- A message of the part as it leaves a port. -/
def OutMsg.wire (m : OutMsg) : List Byte := frame m.seq m.body.kindCode m.body.payload

/-! ### The encoding of a definition (R190) -/

/-- The attributes byte (R183), its unused bits 0. -/
def Definition.attributes (d : Definition) : Byte :=
  (if d.persistent then 1 else 0) ||| (if d.stopOnly then 2 else 0) ||| (if d.constant then 4 else 0)

/-- The fields that belong to the kind (R190). -/
def Shape.bytes : Shape → List Byte
  | .unsigned _ lo hi => putInt32 lo ++ putInt32 hi
  | .signed _ lo hi => putInt32 lo ++ putInt32 hi
  | .choice cs => put8 cs.length :: cs.flatMap putInt32
  | .text _ => []

/-- A definition as the digest reads it (R190). -/
def Definition.bytes (d : Definition) : List Byte :=
  put16 d.id ++ [put8 d.shape.kindCode, put8 d.shape.width, d.attributes] ++ put16 d.link ++ d.shape.bytes ++
  valueField d.default

/-- The catalog digest (R20, R190). -/
def catalogDigest (entries : List Entry) (setup : Setup) : Word32 :=
  crc32 (entries.flatMap (fun e => e.defn.bytes) ++ setup.bytes)

end Sys2Proof.Machine
end

