-- ==== Sys2Proof/Machine/Operands.lean ====
section
/-! DEFINITION. The operand forms: how the payload of each request is read (R183, Table 10.3) and how a BLOCK is read (R138,
R189). A reader answers none where the payload is not well formed. -/

namespace Sys2Proof.Machine

open Sys2Proof

/-- The empty payload of DESCRIBE, STATUS, LINK_RESET, RESTART, SEAL, WIPE, ABANDON, COMMIT, BULK_ABORT and UNWATCH. -/
def readEmpty : List Byte → Option Unit
  | [] => some ()
  | _ :: _ => none

/-- The optional label of BEGIN, ROLLBACK and MERGE. -/
def readLabel : List Byte → Option (Option (List Byte))
  | [] => some none
  | [a, b, c, d] => some (some [a, b, c, d])
  | _ => none

/-- The id of GET. -/
def readId : List Byte → Option Nat
  | [a, b] => some (be16 a b)
  | _ => none

/-- The declared count of BULK_WRITE. -/
def readCount : List Byte → Option Nat
  | [a, b] => some (be16 a b)
  | _ => none

/-- What SET carries: the id and the value field. -/
structure SetReq where
  id : Nat
  value : WireValue
  deriving DecidableEq, Repr

/-- The payload of SET. -/
def readSet : List Byte → Option SetReq
  | a :: b :: rest =>
    match readValueField rest with
    | some (v, []) => some { id := be16 a b, value := v }
    | _ => none
  | _ => none

/-- What SETUP carries, its codes as they arrive (R14). -/
structure SetupReq where
  leaseA : Nat
  leaseB : Nat
  modeCode : Nat
  rateCode : Nat
  deriving DecidableEq, Repr

/-- The payload of SETUP. -/
def readSetup : List Byte → Option SetupReq
  | [a, b, m, r] => some { leaseA := a.toNat, leaseB := b.toNat, modeCode := m.toNat, rateCode := r.toNat }
  | _ => none

/-- What DEFINE carries, bounds as raw words, since they are read by kind (R183). -/
structure DefineReq where
  id : Nat
  kindCode : Nat
  width : Nat
  persistent : Bool
  stopOnly : Bool
  constant : Bool
  link : Nat
  lower : Word32
  upper : Word32
  choices : List Int
  default : WireValue
  deriving DecidableEq, Repr

/-- A run of `n` choices, four bytes each, two's complement, and what follows them. -/
def readChoices : Nat → List Byte → Option (List Int × List Byte)
  | 0, rest => some ([], rest)
  | n + 1, a :: b :: c :: d :: rest =>
    match readChoices n rest with
    | some (cs, rest') => some ((be32 a b c d).toInt :: cs, rest')
    | none => none
  | _ + 1, _ => none

/-- The payload of DEFINE: 16 bytes, the choices (at most 16), the default. -/
def readDefine : List Byte → Option DefineReq
  | i1 :: i0 :: k :: w :: at0 :: l1 :: l0 :: a3 :: a2 :: a1 :: a0 :: b3 :: b2 :: b1 :: b0 :: n :: rest =>
    if 16 < n.toNat then none else
    match readChoices n.toNat rest with
    | none => none
    | some (cs, rest') =>
      match readValueField rest' with
      | some (v, []) =>
        some { id := be16 i1 i0, kindCode := k.toNat, width := w.toNat, persistent := at0.getLsbD 0,
               stopOnly := at0.getLsbD 1, constant := at0.getLsbD 2, link := be16 l1 l0, lower := be32 a3 a2 a1 a0,
               upper := be32 b3 b2 b1 b0, choices := cs, default := v }
      | _ => none
  | _ => none

/-- What BULK_READ carries. -/
structure BulkReadReq where
  lo : Nat
  hi : Nat
  view : View
  deriving DecidableEq, Repr

/-- The payload of BULK_READ: the view byte is 00h or 01h. -/
def readBulkRead : List Byte → Option BulkReadReq
  | [a, b, c, d, v] =>
    if v = 0 then some { lo := be16 a b, hi := be16 c d, view := .committed }
    else if v = 1 then some { lo := be16 a b, hi := be16 c d, view := .working }
    else none
  | _ => none

/-- The ranges of WATCH: exactly `n` of four bytes. -/
def readRanges : Nat → List Byte → Option (List IdRange)
  | 0, [] => some []
  | n + 1, a :: b :: c :: d :: rest =>
    match readRanges n rest with
    | some rs => some ({ lo := be16 a b, hi := be16 c d } :: rs)
    | none => none
  | _, _ => none

/-- The payload of WATCH. -/
def readWatch : List Byte → Option (List IdRange)
  | n :: rest => readRanges n.toNat rest
  | [] => none

/-! ### BLOCK (R137, R138, R189) -/

/-- The three header bytes of a BLOCK; none where the payload is shorter, or the index exceeds 15 (R189). -/
def readBlock : List Byte → Option Block
  | i :: n :: c :: body =>
    if 15 < i.toNat then none else some { index := i.toNat, count := n.toNat, checkPresent := c, body := body }
  | _ => none

/-- Reads `n` items and answers what follows them (R181). -/
def readItems : Nat → List Byte → Option (List SetReq × List Byte)
  | 0, rest => some ([], rest)
  | n + 1, a :: b :: rest =>
    match readValueField rest with
    | none => none
    | some (v, rest') =>
      match readItems n rest' with
      | some (is, rest'') => some ({ id := be16 a b, value := v } :: is, rest'')
      | none => none
  | _ + 1, _ => none

/-- A BLOCK encoded in full: its items, its item bytes and its transfer check if it carries one (R189). -/
structure FullBlock where
  items : List SetReq
  itemBytes : List Byte
  check : Option Word32
  deriving DecidableEq, Repr

/-- Reads a BLOCK that is encoded in full: its items end where the payload ends, or four bytes before with check present 01h;
any other check present byte is not known (R189). -/
def Block.full (b : Block) : Option FullBlock :=
  match readItems b.count b.body with
  | none => none
  | some (is, rest) =>
    if b.checkPresent = 0 then
      if rest = [] then some { items := is, itemBytes := b.body, check := none } else none
    else if b.checkPresent = 1 then
      match rest with
      | [x, y, z, w] => some { items := is, itemBytes := b.body.take (b.body.length - 4), check := some (be32 x y z w) }
      | _ => none
    else none

/-- The item bytes of a BLOCK: those of its items, or all bytes after the header when it is not encoded in full (R181, R189). -/
def Block.itemBytes (b : Block) : List Byte :=
  match b.full with
  | some f => f.itemBytes
  | none => b.body

end Sys2Proof.Machine
end

