-- ==== Sys2Proof/Machine/Flags.lean ====
section
/-! DEFINITION. Flags and views computed from the state: the port's state, the lock and activity of a bulk context, the
placement condition, ATTN_A, the staged flag, the write position and the tallies that STATUS reports. -/

namespace Sys2Proof.Machine

open Sys2Proof

/-- The other port. -/
def otherPort : Port → Port
  | .A => .B
  | .B => .A

/-- What a port holds. -/
def State.port (s : State) : Port → PortState
  | .A => s.portA
  | .B => s.portB

/-- The depth of the Frame Stack (R24). -/
def State.depth (s : State) : Nat := s.stack.frames.length

/-- The part takes requests (R119). -/
def State.ready (s : State) : Bool := s.ctl.start == .ready

/-- A port receives from SCANNING on (R109), but port B not while a taken break holds RXD_B low (R166). -/
def State.receives (s : State) (p : Port) : Bool := s.ctl.start != .held && !(p == .B && s.breakLow)

/-- ATTN_A: from READY on, high while port A's outbound queue holds a message that is not a kept place (R164). -/
def State.attnA (s : State) : Bool := s.ready && s.portA.outbound.any (fun m => m.body != .kept)

/-- An entry's working value; a definition without values offers its default, which no request can observe (R6, R9). -/
def Entry.working (e : Entry) : Value := match e.live with | some l => l.working | none => e.defn.default

/-- An entry's committed value, likewise. -/
def Entry.committed (e : Entry) : Value := match e.live with | some l => l.committed | none => e.defn.default

/-- An entry's version (R6). -/
def Entry.version (e : Entry) : Nat := match e.live with | some l => l.version | none => 0

/-- The staged flag (R41): the working value differs from the committed value. -/
def Entry.staged (e : Entry) : Bool := e.working != e.committed

/-- The entry of an id (R1). -/
def findEntry (es : List Entry) (id : Nat) : Option Entry := es.find? (fun e => e.defn.id == id)

/-- A bulk context in READING, PAUSED or WRITING is active (R126). -/
def BulkCtx.active : BulkCtx → Bool
  | .idle => false | .reading _ => true | .paused _ => true | .writing _ => true | .closing _ => false

/-- A bulk context that works on the staged values locks the stack (R35): a BULK_WRITE or a BULK_READ of the WORKING view. -/
def BulkCtx.locks : BulkCtx → Bool
  | .idle => false | .closing _ => false | .writing _ => true
  | .reading r => r.view == .working | .paused r => r.view == .working

/-- The kind of the transfer of an active context. -/
def BulkCtx.kind : BulkCtx → Option TransferKind
  | .idle => none | .closing _ => none | .writing _ => some .write | .reading _ => some .read | .paused _ => some .read

/-- DATA blocks of a read (R130). -/
def ReadCtx.blocks (r : ReadCtx) : Nat := (r.items.length + 15) / 16

/-- The last index of a write (R135). -/
def WriteCtx.lastIndex (w : WriteCtx) : Nat := w.blocks - 1

/-- The Bulk Engine waits for a place: a block to place, credits to return, or a BULK_DONE (R128, R140, R144). -/
def BulkCtx.waits : BulkCtx → Bool
  | .idle => false | .paused _ => false | .closing _ => true
  | .reading r => decide (r.next < r.blocks)
  | .writing w => decide (1 ≤ w.creditsPending)

/-- The Notice Unit waits for a place (R155). -/
def PortState.noticeWaits (x : PortState) : Bool := !x.notices.isEmpty

/-- The placement condition (R128). -/
def PortState.canPlace (x : PortState) : Bool := decide (x.outbound.length ≤ 1)

/-- Both wait for a place (R173). -/
def PortState.contested (x : PortState) : Bool := x.bulk.waits && x.noticeWaits

/-- The Link Unit grants the place to the Bulk Engine (R173). -/
def PortState.grantsBulk (x : PortState) : Bool := x.canPlace && x.bulk.waits && (!x.noticeWaits || x.nextGrant == .bulk)

/-- The Link Unit grants the place to the Notice Unit (R173). -/
def PortState.grantsNotice (x : PortState) : Bool := x.canPlace && x.noticeWaits && (!x.bulk.waits || x.nextGrant == .notice)

/-- Room for one more message beyond the reserved places (R170). -/
def PortState.hasRoom (x : PortState) : Bool := decide (x.outbound.length + x.outstanding.length ≤ 3)

/-- The torn flag of a read (R133). -/
def tornFlag (first last : Nat) : Bool := first != last

/-- A watch filter matches an id (R156). -/
def watchMatches (rs : List IdRange) (id : Nat) : Bool := rs.any (fun r => decide (r.lo ≤ id ∧ id ≤ r.hi))

/-- A notice is a LOST marker (R153). -/
def Notice.isLost : Notice → Bool
  | .lost _ => true
  | .changed .. => false | .ownerChanged _ => false | .leaseExpired _ => false | .supplyWarn => false | .supplyOk => false
  | .storeReadOnly _ => false

/-! ### The sector table (R82, R83, R89) -/

/-- Sectors of a role. -/
def Store.count (st : Store) (r : Role) : Nat := (st.table.filter (fun x => x.role == r)).length

/-- Ring sectors that are not RETIRED. -/
def Store.usable (st : Store) : Nat := (st.table.filter (fun x => x.role != .retired)).length

/-- The FILLING sector: its next slot is the write position (R83). -/
def Store.filling (st : Store) : Option SectorRec := st.table.find? (fun x => x.role == .filling)

/-- The write position: sector and slot, or none (R83). -/
def Store.writePosition (st : Store) : Option (Nat × Nat) := st.filling.map (fun x => (x.sector, x.used))

/-- Slots left from the write position on. -/
def Store.left (st : Store) : Nat := match st.filling with | some x => Config.sectorSlots - x.used | none => 0

/-- The free space of the ring (R89). -/
def Store.freeSpace (st : Store) : Nat := st.left + Config.contentSlots * st.count .free

/-- The highest erase count in the ring (R82, R94); where no sector has a count that reads, 0 (DESIGN CHOICE, log 44). -/
def Store.highestErase (st : Store) : Nat := st.table.foldl (fun m x => max m (x.eraseCount.getD 0)) 0

/-- The highest generation in the sector table (R83). -/
def Store.highestGeneration (st : Store) : Option Nat :=
  st.table.foldl (fun m x => match m, x.generation with
    | some a, some b => some (max a b)
    | some a, none => some a
    | none, g => g) none

/-- The threshold below which the store is READ_ONLY (R99). -/
def Store.readOnlyLimit (st : Store) : Nat := 2 * st.reserve + 4

/-- A compaction is REQUESTED (R87). -/
def Compaction.isRequested : Compaction → Bool
  | .requested _ => true | .none => false | .running _ => false

end Sys2Proof.Machine
end

