-- ==== Sys2Proof/Machine/Ops.lean ====
section
/-! DEFINITION. The named operations that the meanings share: a port's state, counters, notices, leases, ownership, the frames
and the pool. -/

namespace Sys2Proof.Machine

open Sys2Proof

/-! ### Ports and counters -/

/-- Replaces what a port holds. -/
def State.setPort (s : State) (p : Port) (x : PortState) : State :=
  match p with
  | .A => { s with portA := x }
  | .B => { s with portB := x }

/-- Changes what a port holds. -/
def State.modPort (s : State) (p : Port) (f : PortState → PortState) : State := s.setPort p (f (s.port p))

/-- One more, stopping at 65535 (R178, R153). -/
def bump (n : Nat) : Nat := if n < Config.counterMax then n + 1 else n

/-- Changes a port's error counters. -/
def State.counting (s : State) (p : Port) (f : Counters → Counters) : State :=
  s.modPort p (fun x => { x with counters := f x.counters })

/-- The stray stream counter of R149. -/
def State.stray (s : State) (p : Port) : State := s.counting p (fun c => { c with strayStream := bump c.strayStream })

/-! ### Notices (R152, R153) -/

/-- A LOST marker's count rises by one; other notices stay (R153). -/
def Notice.bumped : Notice → Notice
  | .lost n => .lost (bump n)
  | .changed a b c => .changed a b c
  | .ownerChanged o => .ownerChanged o
  | .leaseExpired d => .leaseExpired d
  | .supplyWarn => .supplyWarn
  | .supplyOk => .supplyOk
  | .storeReadOnly n => .storeReadOnly n

/-- A Notice Unit takes a notice: it joins the tail, or it is dropped and counted (R152, R153). -/
def PortState.takeNotice (x : PortState) (n : Notice) : PortState :=
  if x.notices.length < Config.noticeSize then { x with notices := x.notices ++ [n] }
  else if x.notices.any Notice.isLost then { x with notices := x.notices.map Notice.bumped }
  else { x with lost := bump x.lost }

/-- Hands a notice to one port's Notice Unit. -/
def State.noticeTo (s : State) (p : Port) (n : Notice) : State := s.modPort p (fun x => x.takeNotice n)

/-- Hands a notice to both Notice Units (R150). -/
def State.noticeBoth (s : State) (n : Notice) : State := (s.noticeTo .A n).noticeTo .B n

/-! ### Leases (R69 to R72) -/

/-- The lease period of a port (R69). -/
def State.leasePeriod (s : State) : Port → Nat
  | .A => s.catalog.setup.leaseA
  | .B => s.catalog.setup.leaseB

/-- The timer started with a full period; a period of 0 leaves it STOPPED (R72). -/
def leaseOf (period : Nat) : Lease := if period = 0 then .stopped else .running period

/-- Starts a port's timer with the full period (R70). -/
def State.startLease (s : State) (p : Port) : State := s.modPort p (fun x => { x with lease := leaseOf (s.leasePeriod p) })

/-- Stops a port's timer (R70). -/
def State.stopLease (s : State) (p : Port) : State := s.modPort p (fun x => { x with lease := .stopped })

/-- A RUNNING timer starts again with the full period, a STOPPED one stays (R71). -/
def Lease.restarted (period : Nat) : Lease → Lease
  | .stopped => .stopped
  | .running _ => leaseOf period

/-- The arrival of a good message at a port restarts its timer (R71). -/
def State.restartLease (s : State) (p : Port) : State :=
  s.modPort p (fun x => { x with lease := x.lease.restarted (s.leasePeriod p) })

/-! ### Ownership (R30, R31) -/

/-- The port takes ownership: its timer starts and OWNER_CHANGED goes to both ports (R30). -/
def State.takeOwnership (s : State) (p : Port) : State :=
  (({ s with stack := { s.stack with owner := some p } } : State).startLease p).noticeBoth (.ownerChanged (some p))

/-- The owner becomes none and its timer stops, without the notice (R63, R73). -/
def State.dropOwner (s : State) : State :=
  match s.stack.owner with
  | none => s
  | some p => ({ s with stack := { s.stack with owner := none } } : State).stopLease p

/-- Ownership is released with its notice (R31). -/
def State.release (s : State) : State := s.dropOwner.noticeBoth (.ownerChanged none)

/-- Ownership is released when the depth has returned to 0 (R31). -/
def State.releaseAtZero (s : State) : State := if s.stack.frames = [] then s.release else s

/-! ### Frames (R24 to R29, R45, R47) -/

/-- Sets one entry's working value. -/
def setWorking (es : List Entry) (id : Nat) (v : Value) : List Entry :=
  es.map (fun e => if e.defn.id = id then { e with live := e.live.map (fun l => { l with working := v }) } else e)

/-- Restores undo records newest first (R45): `us` is in list order, oldest first. -/
def restoreAll (us : List Undo) (es : List Entry) : List Entry := us.reverse.foldl (fun acc u => setWorking acc u.id u.prior) es

/-- Pushes a frame (R37, R136); at depth 0 the port takes ownership (R30). -/
def State.pushFrame (s : State) (p : Port) (label : Option (List Byte)) : State :=
  let s' : State := { s with stack := { s.stack with frames := { label := label, undo := [] } :: s.stack.frames } }
  if s.stack.frames = [] then s'.takeOwnership p else s'

/-- Rolls back the top frame and removes it, its records back to the pool (R45); ownership is not looked at here. -/
def State.rollbackTop (s : State) : State :=
  match s.stack.frames with
  | [] => s
  | f :: fs =>
    { s with
      catalog := { s.catalog with entries := restoreAll f.undo s.catalog.entries }
      stack := { s.stack with frames := fs, free := s.stack.free + f.undo.length } }

/-- A rollback as ROLLBACK does it, with the release at depth 0 (R45). -/
def State.rollbackFrame (s : State) : State := s.rollbackTop.releaseAtZero

/-- Rolls back `n` frames from the top down (R48). -/
def State.rollbackMany : Nat → State → State
  | 0, s => s
  | n + 1, s => State.rollbackMany n s.rollbackTop

/-- The records of a frame that move to its parent in a merge: those whose id the parent does not hold (R47). -/
def mergeMoved (top parent : List Undo) : List Undo := top.filter (fun u => !parent.any (fun v => v.id == u.id))

/-- Folds the top frame into its parent (R47). -/
def State.mergeTop (s : State) : State :=
  match s.stack.frames with
  | f :: g :: fs =>
    let moved := mergeMoved f.undo g.undo
    { s with stack :=
      { s.stack with
        frames := { g with undo := g.undo ++ moved } :: fs
        free := s.stack.free + (f.undo.length - moved.length) } }
  | _ => s

/-- A write to the id needs a record of the pool: the top frame holds none for it (R29, R39). -/
def State.needsRecord (s : State) (id : Nat) : Bool :=
  match s.stack.frames with
  | [] => false
  | f :: _ => !f.undo.any (fun u => u.id == id)

/-- Takes a record for an id into the top frame, with the current working value as prior value (R39). -/
def Stack.takeRecord (k : Stack) (id : Nat) (prior : Value) : Stack :=
  match k.frames with
  | [] => k
  | f :: fs => { k with frames := { f with undo := f.undo ++ [{ id := id, prior := prior }] } :: fs, free := k.free - 1 }

/-- Writes a working value within the top frame, with a record at the first write (R39). -/
def State.stage (s : State) (id : Nat) (v : Value) : State :=
  let prior := match findEntry s.catalog.entries id with | some e => e.working | none => v
  { s with
    catalog := { s.catalog with entries := setWorking s.catalog.entries id v }
    stack := if s.needsRecord id then s.stack.takeRecord id prior else s.stack }

/-! ### Requests of the owner (R33, R35) -/

/-- The port is the owner. -/
def State.owns (s : State) (p : Port) : Bool := s.stack.owner == some p

/-- A port other than this one owns the stack. -/
def State.ownedByOther (s : State) (p : Port) : Bool := s.stack.owner == some (otherPort p)

/-- The first check that fails gives the code (R36, R38, R43, R52, ...): each check is whether it passes, and its code. -/
def firstFail : List (Bool × RefuseCode) → Option RefuseCode
  | [] => none
  | (ok, c) :: rest => if ok then firstFail rest else some c

end Sys2Proof.Machine
end

