-- ==== Sys2Proof/Machine/Catalog.lean ====
section
/-! DEFINITION. The Catalog's checks: value domains, the value check, the consistency of a definition, the validation of SEAL,
the slot counts and the image reserve (chapter 1). -/

namespace Sys2Proof.Machine

open Sys2Proof

/-! ### Values (R2, R3, R7) -/

/-- The lowest number of an UNSIGNED or SIGNED domain of a width in bytes (Table 1.2). -/
def domainLow (signed : Bool) (width : Nat) : Int := if signed then -(2 ^ (8 * width - 1) : Nat) else 0

/-- The highest number of such a domain. -/
def domainHigh (signed : Bool) (width : Nat) : Int :=
  if signed then (2 ^ (8 * width - 1) : Nat) - 1 else (2 ^ (8 * width) : Nat) - 1

/-- A number lies in the width domain (Table 1.2). -/
def inDomain (signed : Bool) (width : Nat) (n : Int) : Bool :=
  decide (domainLow signed width ≤ n) && decide (n ≤ domainHigh signed width)

/-- A NUMBER is read by the kind of the entry it is offered to (R181). -/
def readByKind : Shape → Word32 → Int
  | .unsigned .. , w => w.toNat
  | .signed .., w => w.toInt
  | .choice _, w => w.toInt
  | .text _, w => w.toInt

/-- Step 3 of the value check: a number for a numeric kind, a byte string for TEXT (R7). -/
def valueOfForm : Shape → WireValue → Option Value
  | .text _, .text bs => some (.text bs)
  | .text _, .number _ => none
  | .unsigned w lo hi, .number raw => some (.num (readByKind (.unsigned w lo hi) raw))
  | .signed w lo hi, .number raw => some (.num (readByKind (.signed w lo hi) raw))
  | .choice cs, .number raw => some (.num (readByKind (.choice cs) raw))
  | .unsigned .., .text _ => none
  | .signed .., .text _ => none
  | .choice _, .text _ => none

/-- Step 4 of the value check, the kind's own test (R7). -/
def kindTest : Shape → Value → Option RefuseCode
  | .unsigned w lo hi, .num n =>
    if inDomain false w n && decide (lo ≤ n) && decide (n ≤ hi) then none else some .outOfRange
  | .signed w lo hi, .num n =>
    if inDomain true w n && decide (lo ≤ n) && decide (n ≤ hi) then none else some .outOfRange
  | .choice cs, .num n => if n ∈ cs then none else some .notAChoice
  | .text m, .text bs => if bs.length ≤ m then none else some .tooLong
  | .text _, .num _ => some .outOfRange
  | .unsigned .., .text _ => some .outOfRange
  | .signed .., .text _ => some .outOfRange
  | .choice _, .text _ => some .outOfRange

/-- A value is at most another as numbers (R4). Values that are not both numbers do not arise after SEAL's check 2 (log 26). -/
def Value.atMost : Value → Value → Bool
  | .num a, .num b => decide (a ≤ b)
  | .text _, _ => true
  | .num _, .text _ => true

/-- A value satisfies the upper link of a definition in a view (R4). -/
def linkSatisfied (es : List Entry) (view : Entry → Value) (d : Definition) (v : Value) : Bool :=
  if d.link = 0 then true
  else match findEntry es d.link with
    | some e => v.atMost (view e)
    | none => true

/-- The value check (R7): the value that passes, or the code of the first step that fails. -/
def valueCheck (es : List Entry) (view : Entry → Value) (id : Nat) (w : WireValue) : Except RefuseCode Value :=
  match findEntry es id with
  | none => .error .noSuchId
  | some e =>
    if e.defn.constant then .error .constant
    else match valueOfForm e.defn.shape w with
      | none => .error .outOfRange
      | some v =>
        match kindTest e.defn.shape v with
        | some c => .error c
        | none => if linkSatisfied es view e.defn v then .ok v else .error .linkViolation

/-! ### DEFINE (R10 to R12) -/

/-- The width is legal for a numeric kind (R11). -/
def numericWidth (w : Nat) : Bool := w == 1 || w == 2 || w == 4

/-- The shape a definition offers, if its kind, width, bounds and choices are consistent (R11). -/
def DefineReq.shape (r : DefineReq) : Option Shape :=
  if r.kindCode = 1 then
    let lo : Int := r.lower.toNat
    let hi : Int := r.upper.toNat
    if numericWidth r.width && inDomain false r.width lo && inDomain false r.width hi && decide (lo ≤ hi)
    then some (.unsigned r.width lo hi) else none
  else if r.kindCode = 2 then
    let lo := r.lower.toInt
    let hi := r.upper.toInt
    if numericWidth r.width && inDomain true r.width lo && inDomain true r.width hi && decide (lo ≤ hi)
    then some (.signed r.width lo hi) else none
  else if r.kindCode = 3 then
    if r.width = 4 ∧ 2 ≤ r.choices.length ∧ r.choices.length ≤ 16 ∧ r.choices.Nodup then some (.choice r.choices) else none
  else if r.kindCode = 4 then
    if 1 ≤ r.width ∧ r.width ≤ 32 then some (.text r.width) else none
  else none

/-- UNSIGNED or SIGNED. -/
def Shape.numeric : Shape → Bool
  | .unsigned .. => true | .signed .. => true | .choice _ => false | .text _ => false

/-- The definition a DEFINE offers, if it is consistent in itself (R11). -/
def DefineReq.definition (r : DefineReq) : Option Definition :=
  match r.shape with
  | none => none
  | some sh =>
    match valueOfForm sh r.default with
    | none => none
    | some v =>
      if 1 ≤ r.id ∧ r.id ≤ Config.idMax ∧ (r.link = 0 ∨ sh.numeric = true) ∧ r.link ≠ r.id ∧ kindTest sh v = none then
        some { id := r.id, shape := sh, link := r.link, default := v, persistent := r.persistent,
               stopOnly := r.stopOnly, constant := r.constant }
      else none

/-- An entry joins at the place its id takes in ascending order (R1). -/
def insertEntry (e : Entry) : List Entry → List Entry
  | [] => [e]
  | x :: xs => if e.defn.id < x.defn.id then e :: x :: xs else if e.defn.id = x.defn.id then x :: xs else x :: insertEntry e xs

/-! ### SEAL (R16 to R18) -/

/-- Slots of a definition in the catalog area (Table 1.6). -/
def Shape.areaSlots : Shape → Nat
  | .unsigned .. => 2
  | .signed .. => 2
  | .choice cs => 1 + (cs.length + 3) / 4
  | .text m => 1 + (m + 15) / 16

/-- Slots of a persistent entry that count for the image reserve (R18). -/
def Shape.imageSlots : Shape → Nat
  | .unsigned .. => 1
  | .signed .. => 1
  | .choice _ => 1
  | .text m => 1 + (m + 15) / 16

/-- The image slots of a catalog (R18). -/
def imageSlots (es : List Entry) : Nat :=
  2 + ((es.filter (fun e => e.defn.persistent)).map (fun e => e.defn.shape.imageSlots)).sum

/-- The image reserve R: ceil(image slots / 256) (R18). -/
def imageReserve (es : List Entry) : Nat := (imageSlots es + 255) / 256

/-- Check 2: the link names an entry of a numeric kind (R16). -/
def linkNamesNumeric (es : List Entry) (e : Entry) : Bool :=
  e.defn.link == 0 || (match findEntry es e.defn.link with | some t => t.defn.shape.numeric | none => false)

/-- Check 3: the entry and the one it names have the same persistent attribute (R16). -/
def linkSamePersistence (es : List Entry) (e : Entry) : Bool :=
  e.defn.link == 0 || (match findEntry es e.defn.link with | some t => t.defn.persistent == e.defn.persistent | none => true)

/-- Following links from an id for at most `n` steps reaches the target. -/
def chainReaches (es : List Entry) (target : Nat) : Nat → Nat → Bool
  | 0, _ => false
  | n + 1, at0 =>
    match findEntry es at0 with
    | none => false
    | some e =>
      if e.defn.link = 0 then false
      else if e.defn.link = target then true
      else chainReaches es target n e.defn.link

/-- The entry lies on a cycle of links (check 4, R16). -/
def onCycle (es : List Entry) (e : Entry) : Bool := chainReaches es e.defn.id es.length e.defn.id

/-- Check 5: the default is at most the default of the linked entry (R16). -/
def defaultsSatisfy (es : List Entry) (e : Entry) : Bool := linkSatisfied es (fun t => t.defn.default) e.defn e.defn.default

/-- Check 6: the first entry whose slots carry the running sum above 1018 (R17). -/
def firstTooLarge : Nat → List Entry → Option Nat
  | _, [] => none
  | sum, e :: rest =>
    if Config.areaSlots < sum + e.defn.shape.areaSlots then some e.defn.id else firstTooLarge (sum + e.defn.shape.areaSlots) rest

/-- The first entry in id order that fails a test. -/
def firstFailing (es : List Entry) (test : Entry → Bool) : Option Nat := (es.find? (fun e => !test e)).map (fun e => e.defn.id)

/-- Checks 2 to 6 of SEAL: the code and the offending id of the first failure (R16). -/
def sealValidation (es : List Entry) : Option (RefuseCode × Nat) :=
  match firstFailing es (linkNamesNumeric es) with
  | some id => some (.linkInvalid, id)
  | none =>
  match firstFailing es (linkSamePersistence es) with
  | some id => some (.linkInvalid, id)
  | none =>
  match firstFailing es (fun e => !onCycle es e) with
  | some id => some (.linkCycle, id)
  | none =>
  match firstFailing es (defaultsSatisfy es) with
  | some id => some (.linkViolation, id)
  | none =>
  match firstTooLarge 0 es with
  | some id => some (.catalogTooLarge, id)
  | none => none

/-- Every entry at its default with version 0 (R19, R116). -/
def atDefaults (es : List Entry) : List Entry :=
  es.map (fun e => { e with live := some { working := e.defn.default, committed := e.defn.default, version := 0 } })

end Sys2Proof.Machine
end

