-- ==== Sys2Proof/Machine/Link.lean ====
section
/-! DEFINITION. The Link Unit: placing messages, answering requests, the reply cache, the window and room tests, the port
permissions, and the common check order that every request passes (R168 to R175, R182). -/

namespace Sys2Proof.Machine

open Sys2Proof

/-! ### The outbound queue and the reply cache (R169, R172, R174) -/

/-- Places a message at the tail of a port's outbound queue (R172). -/
def PortState.place (x : PortState) (q : Byte) (b : Body) : PortState :=
  { x with outbound := x.outbound ++ [{ seq := q, body := b }] }

/-- Places one of the messages that carry the outbound count, and advances it modulo 256 (R174). -/
def PortState.placeCounted (x : PortState) (b : Body) : PortState :=
  { x.place (put8 x.outCount) b with outCount := (x.outCount + 1) % 256 }

/-- An answer joins the reply cache as the newest: an entry of the same seq leaves first, and of 5 the oldest leaves (R169). -/
def cacheInsert (c : List CacheEntry) (e : CacheEntry) : List CacheEntry :=
  let c' := c.filter (fun x => x.seq != e.seq) ++ [e]
  c'.drop (c'.length - Config.cacheSize)

/-- The answer to an outstanding request takes its reserved place, the request leaves the list, and the answer enters the cache
if `keep` (R169, R171). An answer whose request has left the list is discarded (R171). -/
def PortState.answer (x : PortState) (q : Byte) (b : Body) (keep : Bool) : PortState :=
  match x.outstanding.find? (fun o => o.seq == q) with
  | none => x
  | some o =>
    { x.place q b with
      outstanding := x.outstanding.filter (fun o => o.seq != q)
      cache := if keep then cacheInsert x.cache { seq := q, kind := o.kind, body := b } else x.cache }

/-- A REPLY to an outstanding request (R171, R184). -/
def State.reply (s : State) (p : Port) (q kind : Byte) (r : Reply) : State :=
  s.modPort p (fun x => x.answer q (.reply kind r) true)

/-- A REFUSE to an outstanding request that enters the reply cache. -/
def State.refuse (s : State) (p : Port) (q kind : Byte) (c : RefuseCode) (id : Nat) : State :=
  s.modPort p (fun x => x.answer q (.refuse kind c id) true)

/-- A REFUSE with UNKNOWN_KIND, MALFORMED or STARTING, which does not enter the cache (R169). -/
def State.refuseUncached (s : State) (p : Port) (q kind : Byte) (c : RefuseCode) : State :=
  s.modPort p (fun x => x.answer q (.refuse kind c 0) false)

/-! ### Port permissions (R175) -/

/-- The requests port A alone may make (Table 9.2). -/
def hostKinds : List Byte := [kDefine, kSetup, kSeal, kWipe, kRestart]

/-- The requests port B may make in TUNE and FULL only (Table 9.2). -/
def stagingKinds : List Byte := [kBegin, kSet, kRollback, kMerge, kAbandon, kCommit, kBulkWrite]

/-- The port B mode that acts: the setup record's in SEALED, else OBSERVE (R175). -/
def State.modeInForce (s : State) : PortBMode := if s.catalog.state = .sealed then s.catalog.setup.mode else .observe

/-- The port permission step (R175). -/
def State.permits (s : State) (p : Port) (kind : Byte) : Bool :=
  match p with
  | .A => true
  | .B =>
    if kind ∈ hostKinds then false
    else if kind ∈ stagingKinds then s.modeInForce != .observe
    else true

/-! ### The common check order (R182) -/

/-- What becomes of a request at steps 2 and 3 of the common check order (R168 to R170). -/
inductive Admission where
  | absorbed
  | fromCache (e : CacheEntry)
  | windowFull
  | noRoom
  | admitted
  deriving DecidableEq, Repr

/-- Steps 2 and 3 (R168, R169, R170). -/
def PortState.admission (x : PortState) (q kind : Byte) : Admission :=
  if x.outstanding.any (fun o => o.seq == q) then .absorbed
  else match x.cache.find? (fun e => e.seq == q && e.kind == kind) with
  | some e => if x.hasRoom then .fromCache e else .noRoom
  | none =>
    if Config.windowSize ≤ x.outstanding.length then (if x.hasRoom then .windowFull else .noRoom)
    else if x.hasRoom then .admitted else .noRoom

/-- A request joins the outstanding request list (R170). -/
def State.enlist (s : State) (p : Port) (q kind : Byte) : State :=
  s.modPort p (fun x => { x with outstanding := x.outstanding ++ [{ seq := q, kind := kind }] })

/-- A request up to its admission to the window; `next` is what follows for an admitted request. The arrival restarts the lease
first (R71). -/
def State.takeRequest (s : State) (p : Port) (q kind : Byte) (next : State → State) : State :=
  if s.receives p then
    let s := s.restartLease p
    match (s.port p).admission q kind with
    | .absorbed => s.counting p (fun c => { c with duplicates := bump c.duplicates })
    | .fromCache e =>
      (s.modPort p (fun x => x.place q e.body)).counting p (fun c => { c with cacheAnswers := bump c.cacheAnswers })
    | .windowFull =>
      (s.modPort p (fun x => x.place q (.refuse kind .windowFull 0))).counting p
        (fun c => { c with windowFull := bump c.windowFull })
    | .noRoom => s.counting p (fun c => { c with noRoom := bump c.noRoom })
    | .admitted => next (s.enlist p q kind)
  else s

/-- Steps 5 to 7 for an admitted request of a known kind, then its own block at step 8 (R182). -/
def State.checkRequest {α : Type} (s : State) (p : Port) (q kind : Byte) (fields : Option α) (own : α → State → State) : State :=
  match fields with
  | none => s.refuseUncached p q kind .malformed
  | some a =>
    if s.ready then
      if s.permits p kind then own a s else s.refuse p q kind .notPermitted 0
    else s.refuseUncached p q kind .starting

/-- A request of a known kind, from its arrival (R182). -/
def State.request {α : Type} (s : State) (p : Port) (q kind : Byte) (fields : Option α) (own : α → State → State) : State :=
  s.takeRequest p q kind (fun s => s.checkRequest p q kind fields own)

/-- A stream message leaves the common order after step 1 (R167): the lease restarts and the Bulk Engine takes it. -/
def State.streamMessage (s : State) (p : Port) (next : State → State) : State :=
  if s.receives p then next (s.restartLease p) else s

/-- The message at the head has been sent whole and leaves the queue, and the next is sent from its first byte (R163, R165); before
READY nothing is sent (R109). -/
def State.messageSent (s : State) (p : Port) : State :=
  if s.ready then
    match (s.port p).outbound with
    | [] => s
    | m :: rest => s.modPort p (fun x => { x with outbound := rest, outPos := 0, sent := m.wire })
  else s

end Sys2Proof.Machine
end

