-- ==== Sys2Proof/Machine/Bulk.lean ====
section
/-! DEFINITION. The Bulk Engine's shared operations: the checks of a staged item, the arrival and processing of a block, the
placing of its messages, and the end of a transfer (chapter 7). -/

namespace Sys2Proof.Machine

open Sys2Proof

/-! ### A staged value (steps 5 to 7 of R38; R139) -/

/-- The value that a SET or a bulk item may stage, or the code of the first of the value check, the port B TUNE check and the
pool check that fails (R38, R139). -/
def State.stageCheck (s : State) (p : Port) (r : SetReq) : Except RefuseCode Value :=
  match valueCheck s.catalog.entries Entry.working r.id r.value with
  | .error c => .error c
  | .ok v =>
    if p = .B ∧ s.modeInForce = .tune ∧ (findEntry s.catalog.entries r.id).any (fun e => e.defn.persistent) = true then
      .error .notPermitted
    else if s.needsRecord r.id = true ∧ s.stack.free = 0 then .error .poolFull
    else .ok v

/-- Applies items in order until one fails: the state, the items applied and the first failure (R138 step 4, R139). -/
def applyItems (p : Port) (blk : Nat) : Nat → List SetReq → State → State × Nat × Option FirstError
  | _, [], s => (s, 0, none)
  | i, r :: rs, s =>
    match s.stageCheck p r with
    | .error c => (s, 0, some { error := .item c, block := blk, item := i })
    | .ok v =>
      let (s', n, e) := applyItems p blk (i + 1) rs (s.stage r.id v)
      (s', n + 1, e)

/-! ### Placing (R128, R173) -/

/-- After a contested place, the next contested one goes to the other; an uncontested placement changes nothing (R173). -/
def PortState.afterGrant (x : PortState) (next : Source) : Source := if x.contested then next else x.nextGrant

/-- Places a message of the Bulk Engine in the place granted to it. -/
def PortState.placeBulk (x : PortState) (b : Body) : PortState := { x.placeCounted b with nextGrant := x.afterGrant .notice }

/-- Places a NOTICE in the place granted to the Notice Unit. -/
def PortState.placeNotice (x : PortState) (b : Body) : PortState := { x.placeCounted b with nextGrant := x.afterGrant .bulk }

/-! ### The end of a transfer (R127, R133, R141 to R147) -/

/-- The BULK_DONE of a read (R133). -/
def ReadCtx.done (r : ReadCtx) (e : BulkEnd) (durable : Nat) : DoneRec :=
  let first := r.firstNumber.getD durable
  let last := r.lastNumber.getD durable
  { kind := .read, ending := e, blocks := r.next, items := r.sent, firstNumber := first, lastNumber := last,
    torn := tornFlag first last, firstError := none }

/-- The BULK_DONE of a write (R144). -/
def WriteCtx.done (w : WriteCtx) (e : BulkEnd) (success : Bool) (durable : Nat) : DoneRec :=
  { kind := .write, ending := e, blocks := w.received, items := if success then w.applied else 0, firstNumber := durable,
    lastNumber := durable, torn := false, firstError := w.firstError }

/-- The context becomes CLOSING with its BULK_DONE, and the last outcome record is written (R127). -/
def State.closeBulk (s : State) (p : Port) (d : DoneRec) : State :=
  s.modPort p (fun x => { x with bulk := .closing d, lastDone := some d })

/-- An active transfer ends from outside: a read stops, a write fails and its bulk frame is rolled back (R145, R147). -/
def State.endBulk (s : State) (p : Port) (e : BulkEnd) : State :=
  match (s.port p).bulk with
  | .reading r => s.closeBulk p (r.done e s.store.durable)
  | .paused r => s.closeBulk p (r.done e s.store.durable)
  | .writing w => s.rollbackFrame.closeBulk p (w.done e false s.store.durable)
  | .idle => s
  | .closing _ => s

/-- At an expiry of the port's lease a write ends with its frame left on the stack, and a WORKING read ends (R74, R146). -/
def State.endBulkAtExpiry (s : State) (p : Port) : State :=
  match (s.port p).bulk with
  | .reading r => if r.view = .working then s.closeBulk p (r.done .leaseExpired s.store.durable) else s
  | .paused r => if r.view = .working then s.closeBulk p (r.done .leaseExpired s.store.durable) else s
  | .writing w => s.closeBulk p (w.done .leaseExpired false s.store.durable)
  | .idle => s
  | .closing _ => s

/-- A bulk write ends by its last block: merged or kept at a success, rolled back at a failure (R141 to R144). -/
def State.finishWrite (s : State) (p : Port) (w : WriteCtx) : State :=
  match w.firstError with
  | none => (if 2 ≤ s.depth then s.mergeTop else s).closeBulk p (w.done .complete true s.store.durable)
  | some _ => s.rollbackFrame.closeBulk p (w.done .complete false s.store.durable)

/-! ### Blocks (R137, R138) -/

/-- A first error is recorded only if none exists (R137, R138). -/
def recordError (old : Option FirstError) (e : BulkError) (blk item : Nat) : Option FirstError :=
  match old with
  | some x => some x
  | none => some { error := e, block := blk, item := item }

/-- A BLOCK at a WRITING context: it uses a credit and joins the buffer, or it is an overrun (R137). -/
def WriteCtx.arrive (w : WriteCtx) (b : Block) : WriteCtx :=
  if 1 ≤ w.creditsOpen then
    { w with received := w.received + 1, creditsOpen := w.creditsOpen - 1, buffer := w.buffer ++ [b] }
  else { w with received := w.received + 1, firstError := recordError w.firstError .overrun b.index 0 }

/-- The item count that a block of an index must carry (R138). -/
def WriteCtx.countOk (w : WriteCtx) (b : Block) : Bool :=
  if b.index < w.lastIndex then b.count == Config.itemsPerBlock
  else if b.index = w.lastIndex then b.count == w.declared - Config.itemsPerBlock * (w.blocks - 1)
  else decide (1 ≤ b.count ∧ b.count ≤ Config.itemsPerBlock)

/-- A block is consistent in itself (R138 step 2): the items it carries where it is, none where it is not. -/
def WriteCtx.consistent (w : WriteCtx) (b : Block) : Option FullBlock :=
  match b.full with
  | none => none
  | some f => if w.countOk b && (f.check.isSome == (b.index == w.lastIndex)) then some f else none

/-- The first error after steps 1 and 2 of R138. -/
def WriteCtx.blockError (w : WriteCtx) (b : Block) : Option FirstError :=
  let e1 := if b.index = w.expected then w.firstError else recordError w.firstError .blockOrder b.index 0
  if (w.consistent b).isSome then e1 else recordError e1 .transferCheck b.index 0

/-- The items that step 4 of R138 applies: those of a consistent block while no first error exists. -/
def WriteCtx.itemsToApply (w : WriteCtx) (b : Block) : List SetReq :=
  match w.blockError b, w.consistent b with
  | none, some f => f.items
  | _, _ => []

/-- The context after steps 3 to 5 of R138, given what step 4 applied. -/
def WriteCtx.afterBlock (w : WriteCtx) (b : Block) (applied : Nat) (itemError : Option FirstError) : WriteCtx :=
  { w with
    running := crc32Update w.running b.itemBytes
    firstError := match w.blockError b with | some e => some e | none => itemError
    applied := w.applied + applied
    expected := b.index + 1
    buffer := w.buffer.tail
    creditsPending := w.creditsPending + 1 }

/-- The transfer check is compared at the end if no first error exists (R141). -/
def WriteCtx.withTransferCheck (w : WriteCtx) (b : Block) : WriteCtx :=
  match w.firstError with
  | some _ => w
  | none =>
    if (b.full.bind (fun f => f.check)) = some (crc32Final w.running) then w
    else { w with firstError := recordError none .transferCheck b.index 0 }

/-- Processing the oldest block of a port's write buffer is one event (R138). -/
def State.processBlock (s : State) (p : Port) (w : WriteCtx) (b : Block) : State :=
  let (s', n, e) := applyItems p b.index 0 (w.itemsToApply b) s
  let w' := w.afterBlock b n e
  if b.index = w.lastIndex then s'.finishWrite p (w'.withTransferCheck b)
  else s'.modPort p (fun x => { x with bulk := .writing w' })

end Sys2Proof.Machine
end

