-- ==== Sys2Proof/Machine/StackRequests.lean ====
section
/-! DEFINITION. The requests of the Frame Stack: BEGIN, SET, GET, ROLLBACK, MERGE and ABANDON (chapter 2). -/

namespace Sys2Proof.Machine

open Sys2Proof

/-- A request passes its own checks and is accepted, or is refused with the first code and offending id 0 (R182 step 8). -/
def State.ownChecks (s : State) (p : Port) (q kind : Byte) (checks : List (Bool × RefuseCode)) (accept : State → State) : State :=
  match firstFail checks with
  | some c => s.refuse p q kind c 0
  | none => accept s

/-- The bulk context of the port does not lock the stack (R35). -/
def State.unlocked (s : State) (p : Port) : Bool := !(s.port p).bulk.locks

/-- The top frame's label. -/
def State.topLabel (s : State) : Option (List Byte) :=
  match s.stack.frames with
  | [] => none
  | f :: _ => f.label

/-- The top frame's undo list. -/
def State.topUndo (s : State) : List Undo :=
  match s.stack.frames with
  | [] => []
  | f :: _ => f.undo

/-- The label check of R43 and R46: an expected label must be the top frame's. -/
def State.labelMatches (s : State) (expected : Option (List Byte)) : Bool := expected.isNone || s.topLabel == expected

/-! ### BEGIN (R36, R37) -/

/-- The own checks of BEGIN (R36). -/
def State.beginChecks (s : State) (p : Port) : List (Bool × RefuseCode) :=
  [(s.catalog.state == .sealed, .wrongState), (!s.ownedByOther p, .ownedByOther), (decide (s.depth < Config.maxDepth), .stackFull),
   (s.commit.isNone, .commitPending), (s.unlocked p, .bulkActive)]

/-- An accepted BEGIN (R37). The REPLY is placed in this event and OWNER_CHANGED by a later NOTICE, so the REPLY leaves first (DESIGN
CHOICE, log 27). -/
def State.acceptBegin (s : State) (p : Port) (q : Byte) (label : Option (List Byte)) : State :=
  let s1 := s.pushFrame p label
  s1.reply p q kBegin (.beginFrame s1.depth s1.stack.free)

/-- BEGIN. -/
def execBeginFrame (p : Port) (q : Byte) (payload : List Byte) (s : State) : Host.Outcome State Fault Refusal :=
  .next (s.request p q kBegin (readLabel payload) (fun label s =>
    s.ownChecks p q kBegin (s.beginChecks p) (fun s => s.acceptBegin p q label)))

/-! ### SET (R38, R39) -/

/-- Checks 1 to 4 of SET (R38). -/
def State.setChecks (s : State) (p : Port) : List (Bool × RefuseCode) :=
  [(s.catalog.state == .sealed, .wrongState), (s.owns p, .notOwner), (s.commit.isNone, .commitPending), (s.unlocked p, .bulkActive)]

/-- All checks of SET in order: the value it stages, or the code of the first that fails (R38). -/
def State.setCheck (s : State) (p : Port) (r : SetReq) : Except RefuseCode Value :=
  match firstFail (s.setChecks p) with
  | some c => .error c
  | none => s.stageCheck p r

/-- An accepted SET (R39). -/
def State.acceptSet (s : State) (p : Port) (q : Byte) (id : Nat) (v : Value) : State :=
  let s1 := s.stage id v
  s1.reply p q kSet (.set (s.needsRecord id) s1.stack.free)

/-- SET; every refusal of its own checks carries the parameter id (R38). -/
def execSet (p : Port) (q : Byte) (payload : List Byte) (s : State) : Host.Outcome State Fault Refusal :=
  .next (s.request p q kSet (readSet payload) (fun r s =>
    match s.setCheck p r with
    | .error c => s.refuse p q kSet c r.id
    | .ok v => s.acceptSet p q r.id v))

/-! ### GET (R41) -/

/-- What a GET reports of an entry to a port: working value and staged flag to the owner, the committed value to the other
(R41). -/
def State.readEntry (s : State) (p : Port) (e : Entry) : Reply :=
  if s.owns p then .get e.version e.staged e.working else .get e.version false e.committed

/-- The own part of GET (R41). -/
def State.ownGet (s : State) (p : Port) (q : Byte) (id : Nat) : State :=
  if s.catalog.state = .sealed then
    match findEntry s.catalog.entries id with
    | some e => s.reply p q kGet (s.readEntry p e)
    | none => s.refuse p q kGet .noSuchId 0
  else s.refuse p q kGet .wrongState 0

/-- GET. -/
def execGet (p : Port) (q : Byte) (payload : List Byte) (s : State) : Host.Outcome State Fault Refusal :=
  .next (s.request p q kGet (readId payload) (fun id s => s.ownGet p q id))

/-! ### ROLLBACK (R43, R45) -/

/-- The own checks of ROLLBACK (R43). -/
def State.rollbackChecks (s : State) (p : Port) (expected : Option (List Byte)) : List (Bool × RefuseCode) :=
  [(s.catalog.state == .sealed, .wrongState), (decide (1 ≤ s.depth), .stackEmpty), (s.owns p, .notOwner),
   (s.commit.isNone, .commitPending), (s.unlocked p, .bulkActive), (s.labelMatches expected, .wrongState)]

/-- An accepted ROLLBACK (R45). The REPLY is placed in this event and OWNER_CHANGED by a later NOTICE, so the REPLY leaves first
(DESIGN CHOICE, log 27). -/
def State.acceptRollback (s : State) (p : Port) (q : Byte) : State :=
  let s1 := s.rollbackFrame
  s1.reply p q kRollback (.rollback s1.depth s.topUndo.length s.topLabel s1.stack.free)

/-- ROLLBACK. -/
def execRollback (p : Port) (q : Byte) (payload : List Byte) (s : State) : Host.Outcome State Fault Refusal :=
  .next (s.request p q kRollback (readLabel payload) (fun label s =>
    s.ownChecks p q kRollback (s.rollbackChecks p label) (fun s => s.acceptRollback p q)))

/-! ### MERGE (R46, R47) -/

/-- The own checks of MERGE (R46). -/
def State.mergeChecks (s : State) (p : Port) (expected : Option (List Byte)) : List (Bool × RefuseCode) :=
  [(s.catalog.state == .sealed, .wrongState), (decide (2 ≤ s.depth), .stackEmpty), (s.owns p, .notOwner),
   (s.commit.isNone, .commitPending), (s.unlocked p, .bulkActive), (s.labelMatches expected, .wrongState)]

/-- The records that a merge of the top frame moves to its parent (R47). -/
def State.mergeMoves (s : State) : List Undo :=
  match s.stack.frames with
  | f :: g :: _ => mergeMoved f.undo g.undo
  | _ => []

/-- An accepted MERGE (R47). -/
def State.acceptMerge (s : State) (p : Port) (q : Byte) : State :=
  let s1 := s.mergeTop
  s1.reply p q kMerge
    (.merge s1.depth s.mergeMoves.length (s.topUndo.length - s.mergeMoves.length) s.topLabel s1.stack.free)

/-- MERGE. -/
def execMerge (p : Port) (q : Byte) (payload : List Byte) (s : State) : Host.Outcome State Fault Refusal :=
  .next (s.request p q kMerge (readLabel payload) (fun label s =>
    s.ownChecks p q kMerge (s.mergeChecks p label) (fun s => s.acceptMerge p q)))

/-! ### ABANDON (R48, R49) -/

/-- The own checks of ABANDON (R49). -/
def State.abandonChecks (s : State) (p : Port) : List (Bool × RefuseCode) :=
  [(s.catalog.state == .sealed, .wrongState), (decide (1 ≤ s.depth), .stackEmpty), (s.owns p, .notOwner),
   (s.commit.isNone, .commitPending), (s.unlocked p, .bulkActive)]

/-- An accepted ABANDON: every frame is rolled back and ownership released (R48, R49). The REPLY leaves before OWNER_CHANGED (DESIGN
CHOICE, log 27). -/
def State.acceptAbandon (s : State) (p : Port) (q : Byte) : State :=
  let s1 := (State.rollbackMany s.depth s).release
  s1.reply p q kAbandon (.abandon s.depth (s1.stack.free - s.stack.free) s1.stack.free)

/-- ABANDON. -/
def execAbandon (p : Port) (q : Byte) (payload : List Byte) (s : State) : Host.Outcome State Fault Refusal :=
  .next (s.request p q kAbandon (readEmpty payload) (fun _ s =>
    s.ownChecks p q kAbandon (s.abandonChecks p) (fun s => s.acceptAbandon p q)))

end Sys2Proof.Machine
end

