-- ==== Sys2Proof/Machine/BulkRequests.lean ====
section
/-! DEFINITION. The requests and stream messages of the Bulk Engine: BULK_READ, BULK_WRITE, BULK_ABORT, BLOCK, HOLD and GO
(chapter 7). -/

namespace Sys2Proof.Machine

open Sys2Proof

/-- Replaces a port's bulk context. -/
def State.setBulk (s : State) (p : Port) (b : BulkCtx) : State := s.modPort p (fun x => { x with bulk := b })

/-- A new transfer is accepted: its context, and no last outcome record any more (R127). -/
def State.openBulk (s : State) (p : Port) (b : BulkCtx) : State := s.modPort p (fun x => { x with bulk := b, lastDone := none })

/-- The context is IDLE. -/
def BulkCtx.isIdle : BulkCtx → Bool
  | .idle => true | .reading _ => false | .paused _ => false | .writing _ => false | .closing _ => false

/-! ### BULK_READ (R129, R130) -/

/-- The own checks of BULK_READ (R129). -/
def State.bulkReadChecks (s : State) (p : Port) (r : BulkReadReq) : List (Bool × RefuseCode) :=
  [(s.catalog.state == .sealed, .wrongState),
   (decide (1 ≤ r.lo ∧ r.lo ≤ Config.idMax ∧ 1 ≤ r.hi ∧ r.lo ≤ r.hi), .outOfRange),
   ((s.port p).bulk.isIdle, .bulkActive), (r.view == .committed || s.owns p, .notOwner),
   (!s.owns p || s.commit.isNone, .commitPending)]

/-- The item set of a read: the ids in the range, ascending (R130). -/
def State.itemSet (s : State) (lo hi : Nat) : List Nat :=
  (s.catalog.entries.map (fun e => e.defn.id)).filter (fun id => decide (lo ≤ id ∧ id ≤ hi))

/-- The context of an accepted read (R130). -/
def State.readCtx (s : State) (r : BulkReadReq) : ReadCtx :=
  { view := r.view, items := s.itemSet r.lo r.hi, next := 0, sent := 0, firstNumber := none, lastNumber := none }

/-- An accepted BULK_READ; with an empty item set the read ends at once (R130, R133). -/
def State.acceptBulkRead (s : State) (p : Port) (q : Byte) (r : BulkReadReq) : State :=
  let c := s.readCtx r
  let s1 := (s.openBulk p (.reading c)).reply p q kBulkRead (.bulkRead c.items.length c.blocks)
  if c.items = [] then s1.closeBulk p (c.done .complete s.store.durable) else s1

/-- BULK_READ. -/
def execBulkRead (p : Port) (q : Byte) (payload : List Byte) (s : State) : Host.Outcome State Fault Refusal :=
  .next (s.request p q kBulkRead (readBulkRead payload) (fun r s =>
    s.ownChecks p q kBulkRead (s.bulkReadChecks p r) (fun s => s.acceptBulkRead p q r)))

/-! ### BULK_WRITE (R135, R136) -/

/-- The own checks of BULK_WRITE (R135). -/
def State.bulkWriteChecks (s : State) (p : Port) (count : Nat) : List (Bool × RefuseCode) :=
  [(s.catalog.state == .sealed, .wrongState), (decide (1 ≤ count ∧ count ≤ 256), .outOfRange),
   ((s.port p).bulk.isIdle, .bulkActive), (!s.ownedByOther p, .ownedByOther), (decide (s.depth < Config.maxDepth), .stackFull),
   (s.commit.isNone, .commitPending)]

/-- The context of an accepted bulk write (R136). -/
def writeCtx (count : Nat) : WriteCtx :=
  { declared := count, blocks := (count + 15) / 16, expected := 0, received := 0, applied := 0, creditsOpen := 2,
    creditsPending := 0, buffer := [], firstError := none, running := crc32Init }

/-- An accepted BULK_WRITE (R136). The REPLY leaves before OWNER_CHANGED (DESIGN CHOICE, log 27). -/
def State.acceptBulkWrite (s : State) (p : Port) (q : Byte) (count : Nat) : State :=
  let s1 := (s.pushFrame p none).openBulk p (.writing (writeCtx count))
  s1.reply p q kBulkWrite (.bulkWrite (writeCtx count).blocks 2 s1.depth s1.stack.free)

/-- BULK_WRITE. -/
def execBulkWrite (p : Port) (q : Byte) (payload : List Byte) (s : State) : Host.Outcome State Fault Refusal :=
  .next (s.request p q kBulkWrite (readCount payload) (fun count s =>
    s.ownChecks p q kBulkWrite (s.bulkWriteChecks p count) (fun s => s.acceptBulkWrite p q count)))

/-! ### BULK_ABORT (R145) -/

/-- The own part of BULK_ABORT: its REPLY, before the BULK_DONE that the ended transfer offers (R145), and before OWNER_CHANGED (DESIGN
CHOICE, log 27). -/
def State.ownBulkAbort (s : State) (p : Port) (q : Byte) : State :=
  if s.catalog.state = .sealed then
    match (s.port p).bulk.kind with
    | some k => (s.endBulk p .aborted).reply p q kBulkAbort (.bulkAbort k)
    | none => s.refuse p q kBulkAbort .noBulk 0
  else s.refuse p q kBulkAbort .wrongState 0

/-- BULK_ABORT. -/
def execBulkAbort (p : Port) (q : Byte) (payload : List Byte) (s : State) : Host.Outcome State Fault Refusal :=
  .next (s.request p q kBulkAbort (readEmpty payload) (fun _ s => s.ownBulkAbort p q))

/-! ### BLOCK, HOLD and GO (R132, R137, R149) -/

/-- A BLOCK at the Bulk Engine: taken by a WRITING context, else stray (R137, R149, R189). -/
def State.takeBlock (s : State) (p : Port) (payload : List Byte) : State :=
  match readBlock payload, (s.port p).bulk with
  | some b, .writing w => s.setBulk p (.writing (w.arrive b))
  | _, _ => s.stray p

/-- BLOCK. -/
def execBlock (p : Port) (payload : List Byte) (s : State) : Host.Outcome State Fault Refusal :=
  .next (s.streamMessage p (fun s => s.takeBlock p payload))

/-- A HOLD at the Bulk Engine (R132). -/
def State.takeHold (s : State) (p : Port) : State :=
  match (s.port p).bulk with
  | .reading r => s.setBulk p (.paused r)
  | .paused _ => s
  | .writing _ => s
  | .closing _ => s
  | .idle => s.stray p

/-- HOLD. -/
def execHold (p : Port) (s : State) : Host.Outcome State Fault Refusal := .next (s.streamMessage p (fun s => s.takeHold p))

/-- A GO at the Bulk Engine (R132). -/
def State.takeGo (s : State) (p : Port) : State :=
  match (s.port p).bulk with
  | .paused r => s.setBulk p (.reading r)
  | .reading _ => s
  | .writing _ => s
  | .closing _ => s
  | .idle => s.stray p

/-- GO. -/
def execGo (p : Port) (s : State) : Host.Outcome State Fault Refusal := .next (s.streamMessage p (fun s => s.takeGo p))

end Sys2Proof.Machine
end

