-- ==== Sys2Proof/Machine/CommitUnit.lean ====
section
/-! DEFINITION. The Commit Unit: the checks of COMMIT, the change list, the durability point and a failed append (chapter 3). -/

namespace Sys2Proof.Machine

open Sys2Proof

/-! ### Validation (R52 to R54) -/

/-- The entry has a record in the top frame; at depth 1 that is frame 1 (R53, R54, R56). -/
def State.recorded (s : State) (id : Nat) : Bool :=
  match s.stack.frames with
  | [] => false
  | f :: _ => f.undo.any (fun u => u.id == id)

/-- The run check (R53): with RUN asserted, the first stop-only entry of frame 1 whose working value differs. -/
def State.runFailure (s : State) (run : Bool) : Option Nat :=
  if run then
    (s.catalog.entries.find? (fun e => s.recorded e.defn.id && e.defn.stopOnly && e.staged)).map (fun e => e.defn.id)
  else none

/-- The check set of R54: entries with a record in frame 1, and entries whose upper link names one. -/
def State.inCheckSet (s : State) (e : Entry) : Bool :=
  s.recorded e.defn.id || (e.defn.link != 0 && s.recorded e.defn.link)

/-- The link check (R54): the first entry of the check set whose working value fails its link in the working view. -/
def State.linkFailure (s : State) : Option Nat :=
  (s.catalog.entries.find? (fun e =>
    s.inCheckSet e && !linkSatisfied s.catalog.entries Entry.working e.defn e.working)).map (fun e => e.defn.id)

/-- The checks of COMMIT in order, with the offending id for checks 6 and 7 (R52). -/
def State.commitCheck (s : State) (p : Port) (run : Bool) : Option (RefuseCode × Nat) :=
  match firstFail [(s.catalog.state == .sealed, .wrongState), (s.owns p, .notOwner), (s.depth == 1, .nestedOpen),
    (s.commit.isNone, .commitPending), (!(s.port p).bulk.active, .bulkActive)] with
  | some c => some (c, 0)
  | none =>
  match s.runFailure run with
  | some id => some (.runActive, id)
  | none =>
  match s.linkFailure with
  | some id => some (.linkViolation, id)
  | none =>
    if s.ctl.supply = .warn then some (.supplyLow, 0)
    else if s.store.mode = .readOnly ∨ Config.commitMax ≤ s.store.durable then some (.storeReadOnly, 0)
    else none

/-! ### Acceptance (R56, R57) -/

/-- The entries of frame 1 that differ, in ascending id order (R56). -/
def State.changedEntries (s : State) : List Entry :=
  s.catalog.entries.filter (fun e => s.recorded e.defn.id && e.staged)

/-- The change of one entry: its working value and its version plus one, wrapping (R56). -/
def Entry.change (e : Entry) : Change :=
  { id := e.defn.id, value := e.working, version := (e.version + 1) % Config.versionModulus }

/-- The commit-in-flight record of an accepted COMMIT (R56, Table 3.1). -/
def State.inFlightRecord (s : State) (p : Port) (q : Byte) (run : Bool) : InFlight :=
  { port := p, seq := q, number := s.store.durable + 1, changes := s.changedEntries.map Entry.change,
    persistentCount := (s.changedEntries.filter (fun e => e.defn.persistent)).length, suppressed := false, runSample := run }

/-- The group handed over: the persistent entries of the change list (R57). -/
def State.groupOf (s : State) : PendingAppend :=
  { number := s.store.durable + 1,
    entries := (s.changedEntries.filter (fun e => e.defn.persistent)).map Entry.change, attempt := .first }

/-! ### The durability point (R61 to R65) -/

/-- The committed value and version of each entry of the change list become its new ones (R61). -/
def applyCommit (es : List Entry) (cs : List Change) : List Entry :=
  es.map (fun e => match cs.find? (fun c => c.id == e.defn.id) with
    | some c => { e with live := e.live.map (fun l => { l with committed := c.value, version := c.version }) }
    | none => e)

/-- The CHANGED notices of a commit for one port, in ascending id order (R64). -/
def changedNotices (cs : List Change) (number : Nat) (rs : List IdRange) : List Notice :=
  (cs.filter (fun c => watchMatches rs c.id)).map (fun c => .changed c.id c.version number)

/-- Hands a run of notices to one port, one after another (R152). -/
def State.noticesTo (s : State) (p : Port) (ns : List Notice) : State :=
  s.modPort p (fun x => ns.foldl PortState.takeNotice x)

/-- Frame 1 is freed and its records return to the pool (R63). -/
def Stack.freeTop (k : Stack) : Stack :=
  match k.frames with
  | [] => k
  | f :: fs => { k with frames := fs, free := k.free + f.undo.length }

/-- The completion of the commit in flight, one event (R61 to R65). The REPLY leaves before the notices of the same event (DESIGN
CHOICE, log 27). -/
def State.durabilityPoint (s : State) : State :=
  match s.commit with
  | none => s
  | some c =>
    let s1 : State :=
      { s with
        catalog := { s.catalog with entries := applyCommit s.catalog.entries c.changes }
        store := { s.store with durable := c.number }
        stack := s.stack.freeTop
        commit := none }
    let s2 := s1.noticesTo .A (changedNotices c.changes c.number s1.portA.watch)
    let s3 := s2.noticesTo .B (changedNotices c.changes c.number s2.portB.watch)
    let s4 := s3.releaseAtZero
    if c.suppressed then s4
    else s4.reply c.port c.seq kCommit (.commit c.number c.changes.length c.persistentCount s4.stack.free)

/-! ### A failed append (R66) -/

/-- The commit in flight ends without effect: the lease starts again and the REFUSE is placed unless suppressed (R66). The REFUSE
leaves before a SUPPLY_WARN or STORE_READ_ONLY notice of the same event (DESIGN CHOICE, log 27). -/
def State.commitFails (s : State) (code : RefuseCode) : State :=
  match s.commit with
  | none => s
  | some c =>
    let s1 := ({ s with commit := none } : State).startLease c.port
    if c.suppressed then s1 else s1.refuse c.port c.seq kCommit code 0

end Sys2Proof.Machine
end

