-- ==== Sys2Proof/Machine/Journal.lean ====
section
/-! DEFINITION. Groups of the journal and the content of the catalog area: how a group is laid out in slots and read back (R85,
R86, R112), and how the catalog area is laid out and read back (R17, R102, R110). The bytes a check is computed over are the
model's (log 9): the manual gives contents only. -/

namespace Sys2Proof.Machine

open Sys2Proof

/-! ### Groups (R85, R86) -/

/-- Runs of at most 16 bytes; the fuel is the length. -/
def chunks16 : Nat → List Byte → List (List Byte)
  | 0, _ => []
  | _ + 1, [] => []
  | n + 1, b :: bs => (b :: bs).take 16 :: chunks16 n ((b :: bs).drop 16)

/-- The slots of a change entry: 1 for a number, 1 + ceil(length / 16) for a text (R86). -/
def Change.slots (c : Change) : List Slot :=
  match c.value with
  | .num n => [.numEntry c.id n c.version]
  | .text bs => .textEntry c.id bs.length c.version :: (chunks16 bs.length bs).map Slot.textBytes

/-- The kind of a group as a byte. -/
def GroupKind.code : GroupKind → Nat
  | .commit => 1 | .image => 2

/-- The bytes of a slot for the check of its group (log 9). -/
def Slot.bytes : Slot → List Byte
  | .openMark k n => [1, put8 k.code] ++ putNat32 n
  | .numEntry id v ver => [2] ++ put16 id ++ put16 ver ++ putInt32 v
  | .textEntry id len ver => [3] ++ put16 id ++ put16 ver ++ [put8 len]
  | .textBytes bs => 4 :: bs
  | .closeMark n _ => 5 :: put16 n
  | .damaged => [0]

/-- The check of a group over its open mark and entry slots (R85). -/
def groupCheck (slots : List Slot) : Word32 := crc32 (slots.flatMap Slot.bytes)

/-- The slots of a whole group: open mark, entries, close mark (R85). -/
def groupSlots (k : GroupKind) (number : Nat) (entries : List Change) : List Slot :=
  let body := Slot.openMark k number :: entries.flatMap Change.slots
  body ++ [.closeMark entries.length (groupCheck body)]

/-! ### Reading a group back (R112) -/

/-- What a group reads as: closed, with whether its check and count agree; without a close mark; or no group begins here. The
count is of the slots it takes. -/
inductive GroupRead where
  | closed (kind : GroupKind) (number : Nat) (entries : List Change) (good : Bool) (slots : Nat)
  | unclosed (slots : Nat)
  | noGroup
  deriving DecidableEq, Repr

/-- A text entry whose bytes are still being read. -/
structure OpenText where
  id : Nat
  length : Nat
  version : Nat
  got : List Byte
  deriving DecidableEq, Repr

/-- The entry a text becomes when its bytes are complete. -/
def OpenText.change (t : OpenText) : Change := { id := t.id, value := .text t.got, version := t.version }

/-- What the body of a group reads as up to its close mark: the close mark's fields, the entries, whether every slot was in its
place, and the slots taken. -/
structure BodyRead where
  close : Option (Nat × Word32)
  entries : List Change
  wellFormed : Bool
  slots : Nat
  deriving DecidableEq, Repr

/-- Reads entries up to a close mark (R112); a slot out of place makes the body not well formed, and reading goes on. -/
def readBody : List Slot → Option OpenText → List Change → Bool → Nat → BodyRead
  | [], _, acc, ok, n => { close := none, entries := acc, wellFormed := ok, slots := n }
  | .closeMark c k :: _, t, acc, ok, n =>
    { close := some (c, k), entries := acc, wellFormed := ok && t.isNone, slots := n + 1 }
  | .numEntry id v ver :: r, t, acc, ok, n =>
    readBody r none (acc ++ [{ id := id, value := .num v, version := ver }]) (ok && t.isNone) (n + 1)
  | .textEntry id len ver :: r, t, acc, ok, n =>
    if len = 0 then readBody r none (acc ++ [{ id := id, value := .text [], version := ver }]) (ok && t.isNone) (n + 1)
    else readBody r (some { id := id, length := len, version := ver, got := [] }) acc (ok && t.isNone) (n + 1)
  | .textBytes bs :: r, some t, acc, ok, n =>
    let t' : OpenText := { t with got := t.got ++ bs }
    if t'.got.length < t.length then readBody r (some t') acc ok (n + 1)
    else readBody r none (acc ++ [t'.change]) (ok && decide (t'.got.length = t.length)) (n + 1)
  | .textBytes _ :: r, none, acc, _, n => readBody r none acc false (n + 1)
  | .openMark .. :: r, _, acc, _, n => readBody r none acc false (n + 1)
  | .damaged :: r, _, acc, _, n => readBody r none acc false (n + 1)

/-- Reads the group that begins at the first slot (R112). A damaged slot where a group should begin is read as a group whose
open mark is not readable (R68, R124; log 11). -/
def readGroup : List Slot → GroupRead
  | .openMark k num :: r =>
    let b := readBody r none [] true 0
    match b.close with
    | none => .unclosed (b.slots + 1)
    | some (c, chk) =>
      .closed k num b.entries
        (b.wellFormed && c == b.entries.length && chk == groupCheck (.openMark k num :: r.take (b.slots - 1)))
        (b.slots + 1)
  | .damaged :: r =>
    let b := readBody r none [] false 0
    match b.close with
    | none => .unclosed (b.slots + 1)
    | some _ => .closed .commit 0 b.entries false (b.slots + 1)
  | .numEntry .. :: _ => .noGroup
  | .textEntry .. :: _ => .noGroup
  | .textBytes _ :: _ => .noGroup
  | .closeMark .. :: _ => .noGroup
  | [] => .noGroup

/-! ### The catalog area (R17, R102, R110) -/

/-- The bytes of the area's content for its check (log 9). -/
def areaCheck (setup : Setup) (base : Nat) (ds : List Definition) : Word32 :=
  crc32 (setup.bytes ++ putNat32 base ++ ds.flatMap Definition.bytes)

/-- The content of the catalog area: open mark, definitions in id order, close mark (R102). -/
def areaContent (setup : Setup) (base : Nat) (ds : List Definition) (slotsOf : Shape → Nat) : List AreaSlot :=
  .openMark setup base ::
    (ds.flatMap (fun d => AreaSlot.definition d :: List.replicate (slotsOf d.shape - 1) .more) ++
     [.closeMark ds.length (areaCheck setup base ds)])

/-- The definitions that stand before the close mark, and the close mark's fields, if the content reads so. -/
def readDefinitions : List AreaSlot → Option (List Definition × Nat × Word32)
  | [] => none
  | .closeMark c k :: _ => some ([], c, k)
  | .definition d :: r =>
    match readDefinitions r with
    | some (ds, x) => some (d :: ds, x)
    | none => none
  | .more :: r => readDefinitions r
  | .openMark .. :: _ => none
  | .damaged :: _ => none

/-- What a valid catalog area holds. -/
structure AreaRead where
  setup : Setup
  base : Nat
  definitions : List Definition
  deriving DecidableEq, Repr

/-- The whole content of the four sectors. -/
def NonVol.areaSlots (nv : NonVol) : List AreaSlot := nv.area.flatMap (fun x => x.content)

/-- The catalog area when it is VALID (R110): an open mark, definitions, a close mark whose count and check agree. -/
def NonVol.readArea (nv : NonVol) : Option AreaRead :=
  match nv.areaSlots with
  | .openMark setup base :: r =>
    match readDefinitions r with
    | some (ds, c, k) =>
      if c = ds.length ∧ k = areaCheck setup base ds then some { setup := setup, base := base, definitions := ds } else none
    | none => none
  | _ => none

/-- The generation base recorded in the catalog area (R102), 1 where no open mark stands. -/
def NonVol.base (nv : NonVol) : Nat :=
  match nv.areaSlots with
  | .openMark _ base :: _ => base
  | _ => 1

/-! ### Changing the array (R80) -/

/-- Changes one ring sector. -/
def NonVol.modRing (nv : NonVol) (k : Nat) (f : RingSector → RingSector) : NonVol :=
  { nv with ring := nv.ring.map (fun x => if x.sector = k then f x else x) }

/-- Changes one sector of the catalog area. -/
def NonVol.modArea (nv : NonVol) (k : Nat) (f : AreaSector → AreaSector) : NonVol :=
  { nv with area := nv.area.map (fun x => if x.sector = k then f x else x) }

/-- A ring sector's field of the retire map is programmed (R98). -/
def NonVol.mapRetired (nv : NonVol) (k : Nat) : NonVol :=
  { nv with retireMap := if k ∈ nv.retireMap then nv.retireMap else nv.retireMap ++ [k] }

/-- The retire map after the program that names the sectors of `retired` (R102, R104): whole, or, where the program was cut or failed
its verify, each field that was still erased is programmed or not, which is free (DESIGN CHOICE, log 31). -/
def NonVol.programMap (nv : NonVol) (retired : List Nat) (ok : Bool) (draw : Nat) : NonVol :=
  { nv with retireMap :=
      if ok then retired
      else nv.retireMap ++ retired.filter (fun k => !nv.retireMap.contains k && Config.residue draw k) }

/-- The header of a sector of the catalog area after its program (R102): its place, and in sector 0 the retire map. -/
def NonVol.programAreaHeader (nv : NonVol) (k : Nat) (retired : List Nat) (ok : Bool) (draw : Nat) : NonVol :=
  let nv' := nv.modArea k (fun x => { x with place := if ok then .val k else .torn })
  if k = 0 then nv'.programMap retired ok draw else nv'

/-- The ring sector of a number. -/
def NonVol.ringSector (nv : NonVol) (k : Nat) : Option RingSector := nv.ring.find? (fun x => x.sector == k)

/-- A well-formed field's value (R111). -/
def Field.value : Field → Option Nat
  | .val n => some n
  | .blank => none
  | .torn => none

/-- What an erase leaves in a ring sector before the erase count is programmed. -/
def RingSector.erased (x : RingSector) : RingSector :=
  { x with eraseCount := .blank, generation := .blank, restart := false, content := [] }

/-- What an erase that was cut leaves: a sector that Table 6.3 classes as half-erased. Whether its erase count still reads (`count`) is
free (R95, R105, R111; log 10). -/
def RingSector.partErased (count : Bool) (x : RingSector) : RingSector :=
  if count then { x with generation := .blank, restart := false, content := [.damaged] }
  else { x with eraseCount := .torn, generation := .torn, restart := false, content := if x.content = [] then [] else [.damaged] }

/-- What an erase that failed its verify leaves: half-erased too, with a slot that is not found erased (R80; log 10). -/
def RingSector.failedErase (count : Bool) (x : RingSector) : RingSector := { x.partErased count with content := [.damaged] }

/-- What an erase leaves in a sector of the catalog area. -/
def AreaSector.erased (x : AreaSector) : AreaSector := { x with place := .blank, content := [] }

/-- What an erase that failed its verify leaves in a sector of the catalog area: the area is INVALID (R22). -/
def AreaSector.failedErase (x : AreaSector) : AreaSector := { x with place := .torn, content := [.damaged] }

/-- What a cut erase leaves in a sector of the catalog area: it reads as before (`whole`), as erased (`blank`), or as neither, which
of them is free (R22; log 10). -/
def AreaSector.partErased (whole blank : Bool) (x : AreaSector) : AreaSector :=
  if whole then x
  else if blank then x.erased
  else { x with place := .torn, content := if x.content = [] then [] else [.damaged] }

/-- The retire map after an erase of sector `k` that did not end well: in the header of sector 0 each field still reads as programmed
or does not, which is free (log 10). -/
def NonVol.cutMap (nv : NonVol) (k draw : Nat) : NonVol :=
  if k = 0 then { nv with retireMap := nv.retireMap.filter (fun j => Config.residue draw j) } else nv

/-- The array after an erase of sector `k` that was cut (R22, R95, R105; log 10). -/
def NonVol.cutErase (nv : NonVol) (k draw : Nat) : NonVol :=
  if k < 4 then (nv.modArea k (AreaSector.partErased (Config.residue draw 0) (Config.residue draw 1))).cutMap k draw
  else nv.modRing k (RingSector.partErased (Config.residue draw 0))

/-- The array after an erase of sector `k` that failed its verify (R22, R80; log 10). -/
def NonVol.failedErase (nv : NonVol) (k draw : Nat) : NonVol :=
  if k < 4 then (nv.modArea k AreaSector.failedErase).cutMap k draw
  else nv.modRing k (RingSector.failedErase (Config.residue draw 0))

end Sys2Proof.Machine
end

