-- ==== Sys2Proof/Machine/Store.lean ====
section
/-! DEFINITION. The Journal Store: opening sectors, programming groups, appends, compactions, erases, faults and retirement,
READ_ONLY, the catalog write and the wipe erase, and its order of work (chapter 5). -/

namespace Sys2Proof.Machine

open Sys2Proof

/-! ### The sector table and the array (R80 to R84) -/

/-- Changes one record of the sector table. -/
def Store.modRec (st : Store) (k : Nat) (f : SectorRec → SectorRec) : Store :=
  { st with table := st.table.map (fun x => if x.sector = k then f x else x) }

/-- The record of a ring sector. -/
def Store.rec? (st : Store) (k : Nat) : Option SectorRec := st.table.find? (fun x => x.sector == k)

/-- Ring sectors in the order R83 looks for a FREE one: after the sector opened last, from sector 4 when none was. -/
def ringOrderAfter : Option Nat → List Nat
  | none => Config.ringNumbers
  | some k => Config.ringNumbers.filter (fun j => decide (k < j)) ++ Config.ringNumbers.filter (fun j => decide (j ≤ k))

/-- The sector that is opened next (R83). -/
def Store.nextFree (st : Store) : Option Nat :=
  (ringOrderAfter st.openedLast).find? (fun k => (st.rec? k).any (fun x => x.role == .free))

/-- A FILLING sector is closed off as FULL; the write position becomes none (R84). -/
def Store.closeOff (st : Store) : Store :=
  { st with table := st.table.map (fun x => if x.role = .filling then { x with role := .full } else x) }

/-- No sector is STALE or ERASING (R88). -/
def Store.noStale (st : Store) : Bool := !st.table.any (fun x => x.role == .stale || x.role == .erasing)

/-- The ring sectors that are RETIRED. -/
def Store.retiredNumbers (st : Store) : List Nat := (st.table.filter (fun x => x.role == .retired)).map (fun x => x.sector)

/-- The generation of the next sector opened (R83). -/
def State.nextGeneration (s : State) : Nat :=
  match s.store.highestGeneration with
  | some g => g + 1
  | none => s.nv.base

/-- Changes the store. -/
def State.modStore (s : State) (f : Store → Store) : State := { s with store := f s.store }

/-- Opens a sector for the group being programmed (R83): its record, the sector opened last, the restart flag of the note, and
the program of its header. The record is FILLING with its generation from here on (DESIGN CHOICE, log 23). -/
def State.openSector (s : State) (g : GroupWrite) (k : Nat) : State :=
  let gen := s.nextGeneration
  s.modStore (fun st =>
    { st.modRec k (fun x => { x with role := .filling, generation := some gen, used := 1 }) with
      openedLast := some k
      restartNote := false
      arrayOp := .header k gen st.restartNote
      writing := some { g with
        begun := some (g.begun.getD { sector := k, generation := some gen, shared := false })
        sectors := g.sectors ++ [k] } })

/-- Starts the program of the next slot of the group at the write position, or opens a sector for it (R83, R85). -/
def State.programNext (s : State) : State :=
  match s.store.writing with
  | none => s
  | some g =>
    match g.remaining with
    | [] => s
    | c :: _ =>
      match s.store.filling with
      | some x =>
        s.modStore (fun st =>
          { st with
            arrayOp := .slot x.sector c
            writing := some { g with
              begun := some (g.begun.getD { sector := x.sector, generation := x.generation, shared := decide (1 < x.used) })
              sectors := if x.sector ∈ g.sectors then g.sectors else g.sectors ++ [x.sector] } })
      | none =>
        match s.store.nextFree with
        | some k => s.openSector g k
        | none => s

/-- A group not yet begun. -/
def GroupWrite.fresh (kind : GroupKind) (attempt : Attempt) (slots : List Slot) : GroupWrite :=
  { kind := kind, attempt := attempt, remaining := slots, begun := none, sectors := [] }

/-! ### Appends (R89, R90) -/

/-- The slots of the pending COMMIT group. -/
def PendingAppend.slots (a : PendingAppend) : List Slot := groupSlots .commit a.number a.entries

/-- The pending group fits: attempt 1 in the free space, attempt 2 in newly opened sectors (R89). -/
def Store.appendFits (st : Store) (a : PendingAppend) : Bool :=
  match a.attempt with
  | .first => decide (a.slots.length ≤ st.freeSpace)
  | .second => decide (a.slots.length ≤ Config.contentSlots * st.count .free)

/-- Nothing in the ring keeps the pending append from starting: it fits (R89), and no image is owed since a start with NO_IMAGE, until
whose close no COMMIT group starts (R118). -/
def Store.appendMayStart (st : Store) (a : PendingAppend) : Bool := !st.imageOwed && st.appendFits a

/-- The pending append is admissible (R89, R118). -/
def State.admissible (s : State) (a : PendingAppend) : Bool :=
  s.store.mode == .writable && s.ctl.supply == .normal && s.store.appendMayStart a

/-- Where a COMMIT group begins (R89, R96): attempt 1 at the write position; a rewrite in a newly opened sector, so a sector that an
image has left FILLING in the meantime is closed off (DESIGN CHOICE, log 34). -/
def Store.beginPosition (st : Store) : Attempt → Store
  | .first => st
  | .second => st.closeOff

/-- The append of the pending group starts (R90, R96). -/
def State.startAppend (s : State) (a : PendingAppend) : State :=
  (s.modStore (fun st =>
    { st.beginPosition a.attempt with
      operation := .appending, writing := some (.fresh .commit a.attempt a.slots) })).programNext

/-- A pending append that lacks room asks for compaction (R89), and so does one that waits for an image that is owed (R118; DESIGN
CHOICE, log 36). -/
def State.requestRoom (s : State) : State :=
  match s.store.pend with
  | none => s
  | some a =>
    if s.store.mode = .writable ∧ s.ctl.supply = .normal ∧ s.store.appendMayStart a = false ∧ s.store.compaction = .none then
      s.modStore (fun st => { st with compaction := .requested .first })
    else s

/-- The pending append is ended unwritten and the cause reported to the Commit Unit (R89, R66). -/
def State.cancelAppend (s : State) (code : RefuseCode) : State :=
  match s.store.pend with
  | none => s
  | some _ => (s.modStore (fun st => { st with pend := none })).commitFails code

/-! ### Compaction (R91, R92) -/

/-- The change entries of an image: every persistent entry at its committed value and version (R86). -/
def imageChanges (es : List Entry) : List Change :=
  (es.filter (fun e => e.defn.persistent)).map (fun e => { id := e.defn.id, value := e.committed, version := e.version })

/-- The slots of an image of the catalog (R86). -/
def imageGroup (es : List Entry) (number : Nat) : List Slot := groupSlots .image number (imageChanges es)

/-- The image begins at the write position: attempt 1 and at least R slots left (R91). -/
def Store.imageAtPosition (st : Store) (a : Attempt) : Bool :=
  a == .first && st.filling.isSome && decide (st.reserve ≤ st.left)

/-- The image fits where it would begin (R91). -/
def State.imageFits (s : State) (a : Attempt) : Bool :=
  let n := (imageGroup s.catalog.entries s.store.durable).length
  if s.store.imageAtPosition a then decide (n ≤ s.store.freeSpace)
  else decide (n ≤ Config.contentSlots * s.store.count .free)

/-- A compaction starts (R92). -/
def State.startCompaction (s : State) (a : Attempt) : State :=
  (s.modStore (fun st =>
    { (if st.imageAtPosition a then st else st.closeOff) with
      operation := .compacting
      compaction := .running a
      writing := some (.fresh .image a (imageGroup s.catalog.entries st.durable)) })).programNext

/-- The compaction condition is tested (R91). -/
def State.compactionTest (s : State) : State :=
  if s.catalog.state = .sealed ∧ s.store.mode = .writable ∧ s.store.compaction = .none ∧
      s.store.count .free < s.store.reserve + 3 then
    s.modStore (fun st => { st with compaction := .requested .first })
  else s

/-- The image has closed: FULL sectors of an older generation than its first sector become STALE (R92). -/
def Store.supersede (st : Store) (g : Nat) : Store :=
  { st with table := st.table.map (fun x =>
      if x.role = .full ∧ x.generation.any (fun h => decide (h < g)) = true then { x with role := .stale } else x) }

/-! ### READ_ONLY (R99) -/

/-- A REQUESTED compaction becomes none (R99, R100). -/
def Store.dropRequest (st : Store) : Store :=
  { st with compaction := if st.compaction.isRequested then .none else st.compaction }

/-- The store enters READ_ONLY (R99): a pending append that has not started is ended, a requested compaction becomes none, the
notice goes to both ports. -/
def State.enterReadOnly (s : State) : State :=
  let s1 := (s.modStore (fun st => { st with mode := .readOnly })).noticeBoth (.storeReadOnly (s.store.count .retired))
  let s2 := s1.modStore Store.dropRequest
  if s2.store.operation = .appending then s2 else s2.cancelAppend .storeReadOnly

/-- The READ_ONLY test after a retirement (R98, R99). -/
def State.readOnlyTest (s : State) : State :=
  if s.store.mode = .writable ∧ s.store.usable < s.store.readOnlyLimit then s.enterReadOnly else s

/-- Retires a ring sector and programs its field of the retire map, which may fail unreported (R98). -/
def State.retire (s : State) (k : Nat) (mapOk : Bool) : State :=
  let s' := s.modStore (fun st => st.modRec k (fun x => { x with role := .retired }))
  if mapOk then { s' with nv := s'.nv.mapRetired k } else s'

/-! ### The order of work (R88) -/

/-- The STALE sector that is erased next: one without a generation first, the lowest number first; else the lowest generation
(R88). -/
def Store.nextStale (st : Store) : Option Nat :=
  let stale := st.table.filter (fun x => x.role == .stale)
  match stale.find? (fun x => x.generation.isNone) with
  | some x => some x.sector
  | none =>
    (stale.foldl (fun best x => match best with
      | none => some x
      | some y => if x.generation.getD 0 < y.generation.getD 0 then some x else some y) none).map (fun x => x.sector)

/-- The erase of a ring sector starts (R94). -/
def State.startErase (s : State) (k : Nat) : State :=
  s.modStore (fun st =>
    { st.modRec k (fun x => { x with role := .erasing }) with operation := .erasing, arrayOp := .erase k })

/-- Step 4 of R88: a requested image that does not fit into a ring with nothing left to erase (R93, R99). -/
def State.reclaim (s : State) : State :=
  match s.store.compaction with
  | .requested a =>
    if s.imageFits a = false ∧ s.store.noStale = true then
      (s.modStore (fun st => { st with compaction := .none })).enterReadOnly
    else s
  | .none => s
  | .running _ => s

/-- Steps 3 and 4 of R88. -/
def State.chooseErase (s : State) : State :=
  if s.ctl.supply = .normal then
    match s.store.nextStale with
    | some k => s.startErase k
    | none => s.reclaim
  else s.reclaim

/-- Steps 2 to 5 of R88. -/
def State.chooseWork (s : State) : State :=
  match s.store.compaction with
  | .requested a =>
    if s.store.mode = .writable ∧ s.ctl.supply = .normal ∧ s.imageFits a = true then s.startCompaction a else s.chooseErase
  | .none => s.chooseErase
  | .running _ => s.chooseErase

/-- The store, IDLE in the SEALED catalog from READY on, chooses its next operation (R88, R119; log 15). -/
def State.choose (s : State) : State :=
  if s.store.operation = .idle ∧ s.catalog.state = .sealed ∧ s.ready = true then
    let s := if s.store.noStale then s.requestRoom else s
    match s.store.pend with
    | none => s.chooseWork
    | some a =>
      if s.admissible a = true ∧ s.store.compaction.isRequested = false ∧ s.store.noStale = true then s.startAppend a
      else s.chooseWork
  else s

/-! ### SEAL and WIPE (R102 to R104) -/

/-- SEAL fails with a store fault (R19, R103). -/
def State.sealFails (s : State) : State :=
  let s1 := s.modStore (fun st =>
    { st with
      table := st.table.map (fun x => if x.role = .retired ∨ x.role = .free then x else { x with role := .stale })
      operation := .idle, pend := none, compaction := .none, mode := .writable, durable := 0, reserve := 0
      writing := none, arrayOp := .none, tasks := [] })
  let s2 : State := { s1 with catalog := { s1.catalog with state := .building, request := none } }
  match s.catalog.request with
  | some q => s2.refuse .A q kSeal .storeFault 0
  | none => s2

/-- SEAL completes (R19), and the READ_ONLY test of R102 is made. -/
def State.sealCompletes (s : State) : State :=
  let s1 := s.modStore (fun st => { st with operation := .idle, compaction := .none, durable := 0, tasks := [] })
  let s2 : State :=
    { s1 with
      catalog := { s1.catalog with
        entries := atDefaults s1.catalog.entries
        digest := catalogDigest s1.catalog.entries s1.catalog.setup
        state := .sealed, request := none }
      rateInUse := s1.catalog.setup.rate }
  let s3 := match s.catalog.request with
    | some q => s2.reply .A q kSeal (.seal s2.catalog.entries.length s2.store.reserve s2.catalog.digest)
    | none => s2
  s3.readOnlyTest.choose

/-- The image of every persistent entry at its default with version 0 (R102 step 5). -/
def initialImage (es : List Entry) : List Slot := imageGroup (atDefaults es) 0

/-- The initial image fits into the FREE sectors (R103). -/
def State.initialFits (s : State) : Bool :=
  decide ((initialImage s.catalog.entries).length ≤ Config.contentSlots * s.store.count .free)

/-- Step 5 of the catalog write begins, or begins again (R102, R103). -/
def State.beginInitialImage (s : State) (a : Attempt) : State :=
  if s.initialFits then
    (s.modStore (fun st =>
      { st with tasks := [], writing := some (.fresh .image a (initialImage s.catalog.entries)) })).programNext
  else s.sealFails

/-- The generation base (R102): one more than the highest well-formed generation of a RETIRED sector's header, or 1. -/
def State.generationBase (s : State) : Nat :=
  (s.nv.ring.filter (fun x => decide (x.sector ∈ s.store.retiredNumbers))).foldl
    (fun m x => match x.generation with | .val g => max m (g + 1) | .blank => m | .torn => m) 1

/-- The slot programs of step 3 after the first header: the other headers, then the content, 255 slots to a sector (R17, R102). -/
def State.areaTasks (s : State) : List Task :=
  let content := areaContent s.catalog.setup s.generationBase (s.catalog.entries.map (fun e => e.defn)) Shape.areaSlots
  [.areaHeader 1, .areaHeader 2, .areaHeader 3] ++
    content.zipIdx.map (fun (c, i) => Task.areaSlot (i / Config.contentSlots) c) ++ [.image .first]

/-- The ring has been erased: the sector table holds FREE and RETIRED sectors only, with no generation (R102, R104), and nothing is left
of earlier groups, so the restart note is clear (DESIGN CHOICE, log 33). -/
def Store.ringErased (st : Store) : Store :=
  { st with table := st.table.map (fun x => { x with generation := none }), openedLast := none, restartNote := false, imageOwed := false }

/-- The wipe erase has ended (R22, R104). -/
def State.wipeCompletes (s : State) : State :=
  let fault := s.store.wipeFault
  let s1 := s.modStore (fun st =>
    { st.ringErased with
      operation := .idle, compaction := .none, mode := .writable, durable := 0, reserve := 0, tasks := [], wipeFault := false })
  let s2 : State :=
    { s1 with catalog := { s1.catalog with state := .empty, setup := .defaults, request := none }, rateInUse := .r115200 }
  match s.catalog.request with
  | some q => if fault then s2.refuse .A q kWipe .storeFault 0 else s2.reply .A q kWipe .wipe
  | none => s2

/-- The next step of a catalog write or wipe erase starts; an erase, step 3, the initial image and the last program of a wipe
wait while the supply is WARN (R100, R102, R104; log 13). -/
def State.runTasks (s : State) : State :=
  match s.store.tasks with
  | [] => s
  | .areaHeader k :: ts => s.modStore (fun st => { st with tasks := ts, arrayOp := .areaHeader k })
  | .areaSlot k c :: ts => s.modStore (fun st => { st with tasks := ts, arrayOp := .areaSlot k c })
  | .erase k :: ts =>
    if s.ctl.supply = .warn then s
    else s.modStore (fun st =>
      { st.modRec k (fun x => { x with role := .erasing }) with tasks := ts, arrayOp := .erase k })
  | .programArea :: _ =>
    if s.ctl.supply = .warn then s
    else
      let s1 := s.modStore Store.ringErased
      if s1.initialFits then s1.modStore (fun st => { st with tasks := s1.areaTasks, arrayOp := .areaHeader 0 })
      else s1.sealFails
  | .image a :: _ => if s.ctl.supply = .warn then s else s.beginInitialImage a
  | .retireMap :: ts =>
    if s.ctl.supply = .warn then s else s.modStore (fun st => { st with tasks := ts, arrayOp := .retireMap })

/-- The erases of steps 1 and 2 (R102), or of the wipe erase (R104): sectors 0 to 3, then the ring sectors not RETIRED. -/
def Store.eraseTasks (st : Store) : List Task :=
  ([0, 1, 2, 3] ++ Config.ringNumbers.filter (fun k => !(st.retiredNumbers.contains k))).map Task.erase

/-- The catalog write begins (R102). -/
def State.startCatalogWrite (s : State) : State :=
  (s.modStore (fun st => { st with operation := .catalogWrite, tasks := st.eraseTasks ++ [.programArea] })).runTasks

/-- The wipe erase begins (R104). -/
def State.startWipeErase (s : State) : State :=
  (s.modStore (fun st =>
    { st with operation := .wipeErase, wipeFault := false, tasks := st.eraseTasks ++ [.retireMap] })).runTasks

/-- An operation has ended: the store chooses again, or begins the wipe erase that waited for it (R88; log 14). -/
def State.operationEnded (s : State) : State :=
  if s.catalog.state = .wiping ∧ s.store.operation = .idle then s.startWipeErase else s.choose

/-! ### A slot program ends (R80, R85, R90, R96, R97) -/

/-- One more slot of a sector is in use; its last slot makes it FULL (R84). -/
def Store.useSlot (st : Store) (k : Nat) : Store :=
  st.modRec k (fun x =>
    { x with used := x.used + 1, role := if x.used + 1 = Config.sectorSlots ∧ x.role = .filling then .full else x.role })

/-- The array with a slot programmed at the end of a ring sector's content. -/
def NonVol.appendSlot (nv : NonVol) (k : Nat) (c : Slot) : NonVol := nv.modRing k (fun x => { x with content := x.content ++ [c] })

/-- The array with a slot programmed at the end of an area sector's content. -/
def NonVol.appendArea (nv : NonVol) (k : Nat) (c : AreaSlot) : NonVol :=
  nv.modArea k (fun x => { x with content := x.content ++ [c] })

/-- The array with generation and restart flag of a ring sector programmed (R83). -/
def NonVol.programHeader (nv : NonVol) (k : Nat) (g : Field) (flag : Bool) : NonVol :=
  nv.modRing k (fun x => { x with generation := g, restart := flag })

/-- The group has closed (R85, R90, R92, R19). -/
def State.groupClosed (s : State) (g : GroupWrite) : State :=
  let s1 := s.modStore (fun st => { st with writing := none, arrayOp := .none, restartNote := false })
  match s.store.operation with
  | .appending =>
    (s1.modStore (fun st => { st with operation := .idle, pend := none })).durabilityPoint.compactionTest.operationEnded
  | .compacting =>
    (s1.modStore (fun st =>
      { (match g.begun.bind (fun b => b.generation) with | some h => st.supersede h | none => st) with
        operation := .idle, compaction := .none, imageOwed := false })).operationEnded
  | .catalogWrite => s1.sealCompletes
  | .idle => s1
  | .erasing => s1
  | .wipeErase => s1

/-- A COMMIT group has met a program failure (R96). The READ_ONLY test comes first, so where the retirement makes the mode READ_ONLY
while the supply is WARN the cause reported is STORE_READ_ONLY (DESIGN CHOICE, log 28). -/
def State.appendFailed (s : State) (a : PendingAppend) : State :=
  match a.attempt with
  | .first =>
    let s1 := (s.modStore (fun st =>
      { st with operation := .idle, pend := some { a with attempt := .second } })).readOnlyTest
    match s1.store.pend with
    | none => s1.operationEnded
    | some b =>
      if s1.ctl.supply = .warn then (s1.cancelAppend .supplyLow).operationEnded
      else if s1.store.mode = .readOnly then (s1.cancelAppend .storeReadOnly).operationEnded
      else if s1.store.appendMayStart b then s1.startAppend b
      else s1.requestRoom.operationEnded
  | .second =>
    (((s.modStore (fun st => { st with operation := .idle, pend := none })).readOnlyTest).commitFails
      .storeFault).compactionTest.operationEnded

/-- An IMAGE group of a compaction has met a program failure (R96, R97). After a second failure compaction is requested again only for
a pending append that lacks room (DESIGN CHOICE, log 30). -/
def State.imageFailed (s : State) (a : Attempt) : State :=
  let s1 := (s.modStore (fun st => { st with operation := .idle, compaction := .none })).readOnlyTest
  if s1.store.mode = .readOnly ∨ s1.ctl.supply = .warn ∨ s1.catalog.state ≠ .sealed then s1.operationEnded
  else match a with
    | .first =>
      if s1.imageFits .second then s1.startCompaction .second
      else (s1.modStore (fun st => { st with compaction := .requested .second })).operationEnded
    | .second => s1.requestRoom.operationEnded

/-- A program verify failure in a ring sector (R96): the sector is retired, the group abandoned, its other sectors closed off. -/
def State.groupFailed (s : State) (g : GroupWrite) (k : Nat) (mapOk : Bool) : State :=
  let s1 := (s.retire k mapOk).modStore (fun st =>
    { st.closeOff with restartNote := true, writing := none, arrayOp := .none })
  match s.store.operation with
  | .appending =>
    match s.store.pend with
    | some a => s1.appendFailed a
    | none => (s1.modStore (fun st => { st with operation := .idle })).operationEnded
  | .compacting => s1.imageFailed g.attempt
  | .catalogWrite => match g.attempt with | .first => s1.beginInitialImage .second | .second => s1.sealFails
  | .idle => s1
  | .erasing => s1
  | .wipeErase => s1

/-- A slot of the group has been programmed and verified: the group closes after its last slot, else goes on. -/
def State.slotProgrammed (s : State) (g : GroupWrite) (k : Nat) (c : Slot) : State :=
  let s1 : State :=
    { s with
      nv := s.nv.appendSlot k c
      store := { s.store.useSlot k with arrayOp := .none, writing := some { g with remaining := g.remaining.tail } } }
  if g.remaining.tail = [] then s1.groupClosed g else s1.programNext

/-- The array after the program of the retire map at the end of a wipe erase (R104; log 31). -/
def State.mapProgrammed (s : State) (ok : Bool) : NonVol := s.nv.programMap s.store.retiredNumbers ok s.draws

/-- The array after the program of a catalog-area header (R102; log 31). -/
def State.headerProgrammed (s : State) (k : Nat) (ok : Bool) : NonVol :=
  s.nv.programAreaHeader k s.store.retiredNumbers ok s.draws

/-- A slot program and its verify end (R80): `ok` is the verify, `mapOk` whether the retire map field takes if a sector is
retired (R98). With no program in progress nothing happens (log 1). After a failed verify the generation of the header is not well formed, its
restart flag stands, and a slot does not read (DESIGN CHOICE, log 43). -/
def State.programEnds (s : State) (ok mapOk : Bool) : State :=
  match s.store.arrayOp with
  | .none => s
  | .erase _ => s
  | .header k g flag =>
    match s.store.writing with
    | none => s
    | some w =>
      if ok then
        (({ s with nv := s.nv.programHeader k (.val g) flag } : State).modStore (fun st => { st with arrayOp := .none })).programNext
      else ({ s with nv := s.nv.programHeader k .torn flag } : State).groupFailed w k mapOk
  | .slot k c =>
    match s.store.writing with
    | none => s
    | some w =>
      if ok then s.slotProgrammed w k c
      else ({ s with nv := s.nv.appendSlot k .damaged, store := s.store.useSlot k } : State).groupFailed w k mapOk
  | .areaHeader k =>
    if ok then (({ s with nv := s.headerProgrammed k true } : State).modStore (fun st => { st with arrayOp := .none })).runTasks
    else ({ s with nv := s.headerProgrammed k false, draws := s.draws + 1 } : State).sealFails
  | .areaSlot k c =>
    if ok then (({ s with nv := s.nv.appendArea k c } : State).modStore (fun st => { st with arrayOp := .none })).runTasks
    else ({ s with nv := s.nv.appendArea k .damaged } : State).sealFails
  | .retireMap =>
    (({ s with nv := s.mapProgrammed ok, draws := if ok then s.draws else s.draws + 1 } : State).modStore
      (fun st => { st with arrayOp := .none, wipeFault := st.wipeFault || !ok })).wipeCompletes

/-! ### A sector erase ends (R94, R97) -/

/-- The erase count that an erase programs: the previous count plus one, the highest count standing for an unreadable one (R94), and 0
where no count of the ring reads (DESIGN CHOICE, log 44). Where that highest count is 100000 already, a RETIRED sector's, the count
programmed is 100001 (DESIGN CHOICE, log 40). -/
def Store.nextEraseCount (st : Store) (k : Nat) : Nat := (((st.rec? k).bind (fun x => x.eraseCount)).getD st.highestErase) + 1

/-- A ring sector after its erase (R94, R97): FREE, or RETIRED at a failed verify, at a failed program of its count (log 6) or at
the erase limit. Retired by a failure, its record keeps the generation, the erase count and the slots in use from before the erase
until the next start (DESIGN CHOICE, log 41). -/
def State.ringEraseEnds (s : State) (k : Nat) (r : EraseResult) (mapOk : Bool) : State :=
  match r with
  | .clean =>
    let n := s.store.nextEraseCount k
    let s1 : State :=
      { s with
        nv := s.nv.modRing k (fun x => { x.erased with eraseCount := .val n })
        store := s.store.modRec k (fun x => { x with role := .free, generation := none, eraseCount := some n, used := 1 }) }
    if Config.eraseLimit ≤ n then s1.retire k mapOk else s1
  | .verifyFail => ({ s with nv := s.nv.failedErase k s.draws, draws := s.draws + 1 } : State).retire k mapOk
  | .countFail => ({ s with nv := s.nv.modRing k (fun x => { x.erased with eraseCount := .torn }) } : State).retire k mapOk

/-- A sector of the catalog area after its erase (R102, R104): erased, or with a fault. -/
def State.areaEraseEnds (s : State) (k : Nat) (r : EraseResult) : State :=
  match r with
  | .verifyFail =>
    let s1 : State := { s with nv := s.nv.failedErase k s.draws, draws := s.draws + 1 }
    if s.store.operation = .catalogWrite then s1.sealFails
    else (s1.modStore (fun st => { st with arrayOp := .none, wipeFault := true })).runTasks
  | .clean => erased s k
  | .countFail => erased s k
where
  /-- the verify has passed; the retire map stood in the header of sector 0 -/
  erased (s : State) (k : Nat) : State :=
    let nv := s.nv.modArea k AreaSector.erased
    (({ s with nv := if k = 0 then { nv with retireMap := [] } else nv } : State).modStore
      (fun st => { st with arrayOp := .none })).runTasks

/-- A sector erase ends (R94): what follows depends on the operation it belongs to. -/
def State.eraseEnds (s : State) (r : EraseResult) (mapOk : Bool) : State :=
  match s.store.arrayOp with
  | .erase k =>
    if k < 4 then s.areaEraseEnds k r
    else
      let s1 := (s.ringEraseEnds k r mapOk).modStore (fun st => { st with arrayOp := .none })
      if s.store.operation = .erasing then
        let s2 := s1.modStore (fun st => { st with operation := .idle })
        (if (s2.store.rec? k).any (fun x => x.role == .retired) then s2.readOnlyTest else s2).operationEnded
      else s1.runTasks
  | .none => s
  | .header .. => s
  | .slot .. => s
  | .areaHeader _ => s
  | .areaSlot .. => s
  | .retireMap => s

/-! ### Supply (R100, R101) -/

/-- The array when the slot program in progress is allowed to end (R105; at an abandoned image, log 12). A sector that fails its verify
there is not retired before the reset (DESIGN CHOICE, log 37). -/
def State.arraySettled (s : State) (ok : Bool) : NonVol :=
  match s.store.arrayOp with
  | .none => s.nv
  | .header k g flag => s.nv.programHeader k (if ok then .val g else .torn) flag
  | .slot k c => s.nv.appendSlot k (if ok then c else .damaged)
  | .erase k =>
    if ok then
      if k < 4 then
        let nv := s.nv.modArea k AreaSector.erased
        if k = 0 then { nv with retireMap := [] } else nv
      else s.nv.modRing k RingSector.erased
    else s.nv.failedErase k s.draws
  | .areaHeader k => s.headerProgrammed k ok
  | .areaSlot k c => s.nv.appendArea k (if ok then c else .damaged)
  | .retireMap => s.mapProgrammed ok

/-- The array when a BROWN_OUT or PIN reset cuts the operation in progress where it stands (R105; log 10). -/
def State.arrayCut (s : State) : NonVol :=
  match s.store.arrayOp with
  | .erase k => s.nv.cutErase k s.draws
  | .none => s.nv
  | .header .. => s.arraySettled false
  | .slot .. => s.arraySettled false
  | .areaHeader _ => s.arraySettled false
  | .areaSlot .. => s.arraySettled false
  | .retireMap => s.arraySettled false

/-- A sector of an abandoned image: STALE if it holds nothing but that image, else closed off as FULL (R100). The image is the attempt
in progress: sectors that a failed first attempt left FULL stay FULL (DESIGN CHOICE, log 32). -/
def GroupWrite.abandonedRole (g : GroupWrite) (x : SectorRec) : SectorRec :=
  if x.sector ∈ g.sectors then
    if g.begun.any (fun b => b.sector == x.sector && b.shared) then { x with role := .full } else { x with role := .stale }
  else x

/-- The slot being programmed is a close mark. -/
def ArrayOp.closes : ArrayOp → Bool
  | .slot _ (.closeMark ..) => true
  | .slot _ (.openMark ..) => false | .slot _ (.numEntry ..) => false | .slot _ (.textEntry ..) => false
  | .slot _ (.textBytes _) => false | .slot _ .damaged => false
  | .none => false | .header .. => false | .erase _ => false | .areaHeader _ => false | .areaSlot .. => false | .retireMap => false

/-- An IMAGE group is abandoned without a close mark (R100). Whether the slot or header in progress is programmed is free, but a close
mark is not (log 12). -/
def State.abandonImage (s : State) (g : GroupWrite) : State :=
  let nv := s.arraySettled (Config.residue s.draws 2 && !s.store.arrayOp.closes)
  let st := match s.store.arrayOp with
    | .slot k _ => s.store.useSlot k
    | .none => s.store | .header .. => s.store | .erase _ => s.store | .areaHeader _ => s.store | .areaSlot .. => s.store
    | .retireMap => s.store
  { s with
    nv := nv
    draws := s.draws + 1
    store := { st with table := st.table.map g.abandonedRole, restartNote := true, writing := none, arrayOp := .none } }

/-- The store's conduct when the supply falls to WARN (R100). The initial image is begun again with the attempt number it was
abandoned at (DESIGN CHOICE, log 29). -/
def State.storeWarned (s : State) : State :=
  match s.store.operation, s.store.writing with
  | .appending, _ => s.modStore Store.dropRequest
  | .compacting, some g =>
    (((s.abandonImage g).modStore (fun st => { st with operation := .idle, compaction := .none })).cancelAppend
      .supplyLow).operationEnded
  | .catalogWrite, some g => (s.abandonImage g).modStore (fun st => { st with tasks := [.image g.attempt] })
  | _, _ => (s.modStore Store.dropRequest).cancelAppend .supplyLow

/-- The store's conduct when the supply returns to NORMAL (R101): the compaction test and the next choice, or the next step of a
SEAL or WIPE that waits. -/
def State.storeRestored (s : State) : State :=
  match s.store.operation with
  | .idle => s.compactionTest.choose
  | .catalogWrite => if s.store.arrayOp = .none ∧ s.store.writing = none then s.runTasks else s
  | .wipeErase => if s.store.arrayOp = .none then s.runTasks else s
  | .appending => s.compactionTest
  | .compacting => s.compactionTest
  | .erasing => s.compactionTest

end Sys2Proof.Machine
end

