-- ==== Sys2Proof/Machine/CatalogRequests.lean ====
section
/-! DEFINITION. The requests of the Catalog: DEFINE, SETUP, SEAL and WIPE (R10 to R22). -/

namespace Sys2Proof.Machine

open Sys2Proof

/-! ### DEFINE (R10 to R12) -/

/-- The catalog takes definitions and setup records (R10, R14). -/
def CatState.takesDefinitions : CatState → Bool
  | .empty => true | .building => true | .sealing => false | .sealed => false | .wiping => false

/-- The own checks of DEFINE in order (R10): the definition that passes, or the code and the offending id. -/
def State.defineCheck (s : State) (r : DefineReq) : Except (RefuseCode × Nat) Definition :=
  match firstFail [(s.catalog.state.takesDefinitions, .wrongState), (decide (s.catalog.entries.length < Config.maxEntries), .catalogFull),
    ((findEntry s.catalog.entries r.id).isNone, .duplicateId)] with
  | some c => .error (c, 0)
  | none =>
    match r.definition with
    | none => .error (.badDefinition, r.id)
    | some d => .ok d

/-- An accepted DEFINE adds the entry, which holds no values (R12). -/
def State.addDefinition (s : State) (d : Definition) : State :=
  { s with catalog :=
    { s.catalog with entries := insertEntry { defn := d, live := none } s.catalog.entries, state := .building } }

/-- The own part of DEFINE. -/
def State.ownDefine (s : State) (p : Port) (q : Byte) (r : DefineReq) : State :=
  match s.defineCheck r with
  | .error (c, id) => s.refuse p q kDefine c id
  | .ok d =>
    let s1 := s.addDefinition d
    s1.reply p q kDefine (.define s1.catalog.entries.length)

/-- DEFINE. -/
def execDefine (p : Port) (q : Byte) (payload : List Byte) (s : State) : Host.Outcome State Fault Refusal :=
  .next (s.request p q kDefine (readDefine payload) (fun r s => s.ownDefine p q r))

/-! ### SETUP (R14) -/

/-- The setup record a SETUP carries, if its mode and rate codes name one (R14). -/
def SetupReq.record (r : SetupReq) : Option Setup :=
  match modeOfCode r.modeCode, rateOfCode r.rateCode with
  | some m, some k => some { leaseA := r.leaseA, leaseB := r.leaseB, mode := m, rate := k }
  | _, _ => none

/-- The own part of SETUP. -/
def State.ownSetup (s : State) (p : Port) (q : Byte) (r : SetupReq) : State :=
  if s.catalog.state.takesDefinitions then
    match r.record with
    | some u => ({ s with catalog := { s.catalog with setup := u } } : State).reply p q kSetup .setup
    | none => s.refuse p q kSetup .outOfRange 0
  else s.refuse p q kSetup .wrongState 0

/-- SETUP. -/
def execSetup (p : Port) (q : Byte) (payload : List Byte) (s : State) : Host.Outcome State Fault Refusal :=
  .next (s.request p q kSetup (readSetup payload) (fun r s => s.ownSetup p q r))

/-! ### SEAL (R16, R18) -/

/-- The own checks of SEAL (R16). -/
def State.sealCheck (s : State) : Option (RefuseCode × Nat) :=
  if s.catalog.state = .building then sealValidation s.catalog.entries else some (.wrongState, 0)

/-- An accepted SEAL: R is computed, the state becomes SEALING and the catalog write starts; the answer comes later (R18). -/
def State.acceptSeal (s : State) (q : Byte) : State :=
  ({ s with
      catalog := { s.catalog with state := .sealing, request := some q }
      store := { s.store with reserve := imageReserve s.catalog.entries } } : State).startCatalogWrite

/-- SEAL. -/
def execSeal (p : Port) (q : Byte) (payload : List Byte) (s : State) : Host.Outcome State Fault Refusal :=
  .next (s.request p q kSeal (readEmpty payload) (fun _ s =>
    match s.sealCheck with
    | some (c, id) => s.refuse p q kSeal c id
    | none => s.acceptSeal q))

/-! ### WIPE (R21) -/

/-- WIPE is taken: in EMPTY or BUILDING, or in SEALED at depth 0 with no active bulk context (R21). -/
def State.wipeAllowed (s : State) : Bool :=
  match s.catalog.state with
  | .empty => true
  | .building => true
  | .sealed => s.stack.frames.isEmpty && !s.portA.bulk.active && !s.portB.bulk.active
  | .sealing => false
  | .wiping => false

/-- An accepted WIPE clears the catalog's content and starts the wipe erase, or leaves it to the end of the store operation in
progress (R21; log 14). -/
def State.acceptWipe (s : State) (q : Byte) : State :=
  ({ s with
      catalog := { s.catalog with state := .wiping, entries := [], digest := 0, request := some q }
      store :=
        { s.store with
          reserve := 0, pend := none
          compaction := if s.store.compaction.isRequested then .none else s.store.compaction } } : State).operationEnded

/-- WIPE. -/
def execWipe (p : Port) (q : Byte) (payload : List Byte) (s : State) : Host.Outcome State Fault Refusal :=
  .next (s.request p q kWipe (readEmpty payload) (fun _ s =>
    if s.wipeAllowed then s.acceptWipe q else s.refuse p q kWipe .wrongState 0))

end Sys2Proof.Machine
end

