-- ==== Sys2Proof/Machine/CommitRequests.lean ====
section
/-! DEFINITION. COMMIT (R52, R56, R57). -/

namespace Sys2Proof.Machine

open Sys2Proof

/-- The accepted COMMIT at the Commit Unit: the record is filled, the owner's timer stops and the group is handed over (R56,
R57, R89). -/
def State.handOver (s : State) (p : Port) (q : Byte) (run : Bool) : State :=
  ({ s with
      commit := some (s.inFlightRecord p q run)
      store := { s.store with pend := some s.groupOf } } : State).stopLease p

/-- An accepted COMMIT: the group is pending, and the store chooses its work (R56, R88, R89; log 15). -/
def State.acceptCommit (s : State) (p : Port) (q : Byte) (run : Bool) : State := (s.handOver p q run).requestRoom.choose

/-- COMMIT; `run` is the level on the RUN pin, read at check 6 (R53). -/
def execCommit (p : Port) (q : Byte) (payload : List Byte) (run : Bool) (s : State) : Host.Outcome State Fault Refusal :=
  .next (s.request p q kCommit (readEmpty payload) (fun _ s =>
    match s.commitCheck p run with
    | some (c, id) => s.refuse p q kCommit c id
    | none => s.acceptCommit p q run))

end Sys2Proof.Machine
end

