-- ==== Sys2Proof/Machine/LeaseEvents.lean ====
section
/-! DEFINITION. The expiry of a Lease Timer (R73, R74, R146). -/

namespace Sys2Proof.Machine

open Sys2Proof

/-- A timer runs. -/
def Lease.isRunning : Lease → Bool
  | .stopped => false
  | .running _ => true

/-- The timer of the owning port has run out: its bulk context ends as R74 states, the stack is abandoned, ownership is released,
and LEASE_EXPIRED precedes OWNER_CHANGED (R73). -/
def State.expire (s : State) (p : Port) : State :=
  let s1 := (s.stopLease p).endBulkAtExpiry p
  let s2 := (State.rollbackMany s1.depth s1).dropOwner
  (s2.noticeTo p (.leaseExpired s.depth)).noticeBoth (.ownerChanged none)

/-- LEASE_EXPIRY. -/
def execLeaseExpiry (p : Port) (s : State) : Host.Outcome State Fault Refusal :=
  .next (if s.owns p && (s.port p).lease.isRunning then s.expire p else s)

end Sys2Proof.Machine
end

