-- ==== Sys2Proof/Machine/LinkRequests.lean ====
section
/-! DEFINITION. The requests that the Link Unit, the Catalog and the Start-up Controller answer about the part as a whole:
DESCRIBE, STATUS, LINK_RESET, RESTART, and a request of unknown kind (R106, R167, R176, R177, R185, R186). -/

namespace Sys2Proof.Machine

open Sys2Proof

/-! ### DESCRIBE and STATUS (R185, R186) -/

/-- The varying fields of a DESCRIBE reply as they stand (Table 10.5). -/
def State.describeRec (s : State) : DescribeRec :=
  { catState := s.catalog.state, entryCount := s.catalog.entries.length, digest := s.catalog.digest, reserve := s.store.reserve }

/-- The length of the top frame's list, 0 at depth 0 (Table 10.6). -/
def State.topLength (s : State) : Nat :=
  match s.stack.frames with
  | [] => 0
  | f :: _ => f.undo.length

/-- The fields of a STATUS reply to a port as they stand, with the level on RUN (Table 10.6). -/
def State.statusRec (s : State) (p : Port) (run : Bool) : StatusRec :=
  let x := s.port p
  { catState := s.catalog.state, depth := s.depth, owner := s.stack.owner, free := s.stack.free, topLength := s.topLength,
    inFlight := s.commit.map (fun c => c.number), durable := s.store.durable, operation := s.store.operation,
    mode := s.store.mode, freeSectors := s.store.count .free, filling := s.store.count .filling, full := s.store.count .full,
    stale := s.store.count .stale, erasing := s.store.count .erasing, retired := s.store.count .retired,
    highestErase := s.store.highestErase, supply := s.ctl.supply, run := run, rate := s.rateInUse,
    outbound := x.outbound.length, noticeCount := x.notices.length, lost := x.lost, watch := x.watch, bulk := x.bulk,
    lastDone := x.lastDone, counters := x.counters }

/-- DESCRIBE (R185). -/
def execDescribe (p : Port) (q : Byte) (payload : List Byte) (s : State) : Host.Outcome State Fault Refusal :=
  .next (s.request p q kDescribe (readEmpty payload) (fun _ s => s.reply p q kDescribe (.describe s.describeRec)))

/-- STATUS (R186). -/
def execStatus (p : Port) (q : Byte) (payload : List Byte) (run : Bool) (s : State) : Host.Outcome State Fault Refusal :=
  .next (s.request p q kStatus (readEmpty payload) (fun _ s => s.reply p q kStatus (.status (s.statusRec p run))))

/-! ### LINK_RESET (R176, R177) -/

/-- The RESYNC record as it stands (Table 9.3). -/
def State.resyncRec (s : State) : ResyncRec :=
  { durable := s.store.durable, depth := s.depth, owner := s.stack.owner, catState := s.catalog.state, mode := s.store.mode,
    supply := s.ctl.supply }

/-- Step 2 of R176: a commit in flight from the port loses its reply (R60). -/
def State.suppressReply (s : State) (p : Port) : State :=
  { s with commit := s.commit.map (fun c => if c.port = p then { c with suppressed := true } else c) }

/-- Step 4 of R176 at the Catalog: the answer owed to a purged SEAL or WIPE will be discarded (R171). Both come from port A. -/
def State.disownRequest (s : State) (p : Port) : State :=
  match p with
  | .A => { s with catalog := { s.catalog with request := none } }
  | .B => s

/-- Steps 3 to 6 of R176 at the Link Unit: everything is purged and the RESYNC stands alone in the queue, none of it
sent. -/
def PortState.purged (x : PortState) (q : Byte) (r : ResyncRec) : PortState :=
  { x with rx := .hunt, outstanding := [], cache := [], outbound := [{ seq := q, body := .resync r }], outCount := 0,
           nextGrant := .bulk, outPos := 0 }

/-- A LINK_RESET of a port, one event (R176); the seq is that of the request, or 0 for a break. -/
def State.linkReset (s : State) (p : Port) (q : Byte) : State :=
  let s1 := ((s.endBulk p .linkReset).suppressReply p).disownRequest p
  s1.modPort p (fun x => x.purged q s1.resyncRec)

/-- LINK_RESET as a request (R176). -/
def execLinkReset (p : Port) (q : Byte) (payload : List Byte) (s : State) : Host.Outcome State Fault Refusal :=
  .next (s.request p q kLinkReset (readEmpty payload) (fun _ s => s.linkReset p q))

/-! ### RESTART (R105, R106) -/

/-- Every block loses its RAM state and the part enters HELD, over what the array holds and the recorded cause (R105, R107). The
commands that wait come after the reset; the free values that its array operation may have used are not used again (log 10). -/
def State.resetTo (s : State) (nv : NonVol) (cause : Option ResetCause) : State :=
  State.held nv cause s.ctl.supply (s.draws + 1) s.pending

/-- RESTART: a COMMAND reset that lets the array operation in progress end (R105, R106). -/
def execRestart (p : Port) (q : Byte) (payload : List Byte) (arrayOk : Bool) (s : State) : Host.Outcome State Fault Refusal :=
  .next (s.request p q kRestart (readEmpty payload) (fun _ s => s.resetTo (s.arraySettled arrayOk) (some .command)))

/-! ### A kind that names no request (R167, R182) -/

/-- A request of unknown kind: admitted, then refused with UNKNOWN_KIND (R182 step 4). -/
def execUnknownKind (p : Port) (q kind : Byte) (_payload : List Byte) (s : State) : Host.Outcome State Fault Refusal :=
  .next (s.takeRequest p q kind (fun s => s.refuseUncached p q kind .unknownKind))

end Sys2Proof.Machine
end

