-- ==== Sys2Proof/Machine/Receiver.lean ====
section
/-! DEFINITION. The receiver of a Link Unit (R161, R162): how the bytes of a port become messages, and how a message becomes a
command of the table (R167, Table 10.2). The table has no row for a byte, so this front end stands before the queue of waiting
commands (log 19). -/

namespace Sys2Proof.Machine

open Sys2Proof

/-- A message that has passed the message check (R161). -/
structure Message where
  seq : Byte
  kind : Byte
  payload : List Byte
  deriving DecidableEq, Repr

/-- What a byte can complete at a receiver (R162). -/
inductive RxEvent where
  | good (m : Message)
  | checkError
  | framingError
  deriving DecidableEq, Repr

/-- The state after the head is complete (Table 9.1): a length above 640 is a framing error. -/
def rxHead (h : MessageHead) : RxState × Option RxEvent :=
  if Config.maxPayload < h.length then (.hunt, some .framingError)
  else if h.length = 0 then (.check h [] [], none)
  else (.payload h [], none)

/-- The message check after the second check byte (R161, R162). -/
def rxCheck (h : MessageHead) (body held : List Byte) : RxEvent :=
  if held = checkBytes h.seq h.kind body then .good { seq := h.seq, kind := h.kind, payload := body } else .checkError

/-- One byte at a receiver (Table 9.1). -/
def rxByte (r : RxState) (b : Byte) : RxState × Option RxEvent :=
  match r with
  | .hunt => if b = 0xC3 then (.sync, none) else (.hunt, none)
  | .sync => if b = 0x3C then (.header [], none) else if b = 0xC3 then (.sync, none) else (.hunt, none)
  | .header [x, y, q] => rxHead { length := be16 x y, seq := q, kind := b }
  | .header held => (.header (held ++ [b]), none)
  | .payload h held => if held.length + 1 < h.length then (.payload h (held ++ [b]), none) else (.check h (held ++ [b]) [], none)
  | .check h body [] => (.check h body [b], none)
  | .check h body held => (.hunt, some (rxCheck h body (held ++ [b])))

/-- A run of bytes at a receiver: the state reached and what was completed, in order. -/
def rxRun (r : RxState) : List Byte → RxState × List RxEvent
  | [] => (r, [])
  | b :: bs =>
    let (r', e) := rxByte r b
    let (r'', es) := rxRun r' bs
    (r'', e.toList ++ es)

/-- Pin level and array outcome that the commands of a message need beside its bytes (log 5, log 6). -/
structure Levels where
  run : Bool
  arrayOk : Bool
  deriving DecidableEq, Repr

/-- The command a good message is (R167): a stream message, a request of a known kind, or a request of unknown kind. -/
def instrOfMessage (p : Port) (v : Levels) (m : Message) : Instr :=
  if m.kind = kDescribe then .describe p m.seq m.payload
  else if m.kind = kStatus then .status p m.seq m.payload v.run
  else if m.kind = kLinkReset then .linkReset p m.seq m.payload
  else if m.kind = kRestart then .restart p m.seq m.payload v.arrayOk
  else if m.kind = kDefine then .define p m.seq m.payload
  else if m.kind = kSetup then .setup p m.seq m.payload
  else if m.kind = kSeal then .seal p m.seq m.payload
  else if m.kind = kWipe then .wipe p m.seq m.payload
  else if m.kind = kBegin then .beginFrame p m.seq m.payload
  else if m.kind = kSet then .set p m.seq m.payload
  else if m.kind = kGet then .get p m.seq m.payload
  else if m.kind = kRollback then .rollback p m.seq m.payload
  else if m.kind = kMerge then .merge p m.seq m.payload
  else if m.kind = kAbandon then .abandon p m.seq m.payload
  else if m.kind = kCommit then .commit p m.seq m.payload v.run
  else if m.kind = kBulkRead then .bulkRead p m.seq m.payload
  else if m.kind = kBulkWrite then .bulkWrite p m.seq m.payload
  else if m.kind = kBulkAbort then .bulkAbort p m.seq m.payload
  else if m.kind = kWatch then .watch p m.seq m.payload
  else if m.kind = kUnwatch then .unwatch p m.seq m.payload
  else if m.kind = kBlock then .block p m.payload
  else if m.kind = kHold then .hold p
  else if m.kind = kGo then .go p
  else .unknownKind p m.seq m.kind m.payload

/-- The command of a completed receiver event. -/
def instrOfEvent (p : Port) (v : Levels) : RxEvent → Instr
  | .good m => instrOfMessage p v m
  | .checkError => .checkError p
  | .framingError => .framingError (.lengthOver p)

/-- The message that a host sends for a command, if it is one (Table 10.2). -/
def messageOfInstr : Instr → Option Message
  | .describe _ q b => some ⟨q, kDescribe, b⟩
  | .status _ q b _ => some ⟨q, kStatus, b⟩
  | .linkReset _ q b => some ⟨q, kLinkReset, b⟩
  | .restart _ q b _ => some ⟨q, kRestart, b⟩
  | .define _ q b => some ⟨q, kDefine, b⟩
  | .setup _ q b => some ⟨q, kSetup, b⟩
  | .seal _ q b => some ⟨q, kSeal, b⟩
  | .wipe _ q b => some ⟨q, kWipe, b⟩
  | .beginFrame _ q b => some ⟨q, kBegin, b⟩
  | .set _ q b => some ⟨q, kSet, b⟩
  | .get _ q b => some ⟨q, kGet, b⟩
  | .rollback _ q b => some ⟨q, kRollback, b⟩
  | .merge _ q b => some ⟨q, kMerge, b⟩
  | .abandon _ q b => some ⟨q, kAbandon, b⟩
  | .commit _ q b _ => some ⟨q, kCommit, b⟩
  | .bulkRead _ q b => some ⟨q, kBulkRead, b⟩
  | .bulkWrite _ q b => some ⟨q, kBulkWrite, b⟩
  | .bulkAbort _ q b => some ⟨q, kBulkAbort, b⟩
  | .watch _ q b => some ⟨q, kWatch, b⟩
  | .unwatch _ q b => some ⟨q, kUnwatch, b⟩
  | .unknownKind _ q k b => some ⟨q, k, b⟩
  | .block _ b => some ⟨0, kBlock, b⟩
  | .hold _ => some ⟨0, kHold, []⟩
  | .go _ => some ⟨0, kGo, []⟩
  | .checkError _ | .framingError _ | .cutMessage _ | .breakStart | .messageSentA | .messageSentB | .data _ | .credit _
  | .bulkDone _ | .notice _ | .blockProcessing _ | .leaseExpiry _ | .warnCrossing | .normalCrossing | .cutoff | .pinReset
  | .powerOnReset | .heldExit _ | .scanEnd | .replayEnd | .cleanupEnd | .slotProgramDone _ _ | .sectorEraseDone _ _
  | .breakEnd => none

/-- The bytes a host sends for a message (R161). -/
def Message.wire (m : Message) : List Byte := frame m.seq m.kind m.payload

end Sys2Proof.Machine
end

