-- ==== Sys2Proof/Machine/LinkEvents.lean ====
section
/-! DEFINITION. Events of the two links that are not messages: dropped and cut messages, the break of port B, and messages that
have been sent whole (R162 to R166). An event whose port does not receive changes nothing (R109, R166; log 1). -/

namespace Sys2Proof.Machine

open Sys2Proof

/-- A message fails the message check and is dropped (R162). -/
def execCheckError (p : Port) (s : State) : Host.Outcome State Fault Refusal :=
  .next (if s.receives p then s.counting p (fun c => { c with checkErrors := bump c.checkErrors }) else s)

/-- The port a framing fault arises on. -/
def faultPort : FramingFault → Port
  | .lengthOver p => p
  | .stopBitLow => .B

/-- A framing error is counted, and the receiver is in HUNT (R162, R165). -/
def State.framingFault (s : State) (p : Port) : State :=
  (s.counting p (fun c => { c with framingErrors := bump c.framingErrors })).modPort p (fun x => { x with rx := .hunt })

/-- FRAMING_ERROR. -/
def execFramingError (f : FramingFault) (s : State) : Host.Outcome State Fault Refusal :=
  .next (if s.receives (faultPort f) then s.framingFault (faultPort f) else s)

/-- NSS_A goes high: a message being received is discarded and counted; one being sent stays at the head and will be sent again from
its first byte (R163). Bytes that complete a message are commands of their own that come before the cut, so a cut that carries them is
no event of this state (log 1, log 19). -/
def State.cut (s : State) (taken : List Byte) : State :=
  let r := rxRun s.portA.rx taken
  if r.2 ≠ [] then s
  else
    let s1 : State := { s with portA := { s.portA with rx := .hunt, outPos := 0 } }
    if r.1 = .hunt then s1 else s1.counting .A (fun c => { c with cutMessages := bump c.cutMessages })

/-- CUT_MESSAGE; `taken` are the bytes the receiver took since it last stood where State holds it (log 19). -/
def execCutMessage (taken : List Byte) (s : State) : Host.Outcome State Fault Refusal :=
  .next (if s.receives .A then s.cut taken else s)

/-- A break is taken: it is counted, and is a LINK_RESET of port B with seq 0 (R166, R174, R176). -/
def State.takeBreak (s : State) : State :=
  (({ s with breakLow := true } : State).counting .B (fun c => { c with breaks := bump c.breaks })).linkReset .B 0

/-- BREAK; before READY it is ignored, and one break counts once however long it lasts (R166). -/
def execBreakStart (s : State) : Host.Outcome State Fault Refusal := .next (if s.ready && !s.breakLow then s.takeBreak else s)

/-- BREAK_END: RXD_B is high again and port B receives (R166). -/
def execBreakEnd (s : State) : Host.Outcome State Fault Refusal := .next { s with breakLow := false }

/-- MESSAGE_SENT_PORT_A (R163). -/
def execMessageSentA (s : State) : Host.Outcome State Fault Refusal := .next (s.messageSent .A)

/-- MESSAGE_SENT_PORT_B (R165). -/
def execMessageSentB (s : State) : Host.Outcome State Fault Refusal := .next (s.messageSent .B)

end Sys2Proof.Machine
end

