-- ==== Sys2Proof/Machine/NoticeRequests.lean ====
section
/-! DEFINITION. The requests of the Notice Unit: WATCH and UNWATCH (R156 to R158). -/

namespace Sys2Proof.Machine

open Sys2Proof

/-- Replaces a port's watch filter (R157). -/
def State.setWatch (s : State) (p : Port) (rs : List IdRange) : State := s.modPort p (fun x => { x with watch := rs })

/-- The catalog is neither SEALING nor WIPING (R157, R158). -/
def CatState.takesWatch : CatState → Bool
  | .empty => true | .building => true | .sealing => false | .sealed => true | .wiping => false

/-- A range of a watch filter that may stand (R156). A bound of two bytes is at most 65535. -/
def IdRange.legal (r : IdRange) : Bool := decide (1 ≤ r.lo ∧ r.lo ≤ Config.idMax ∧ 1 ≤ r.hi ∧ r.lo ≤ r.hi)

/-- The own checks of WATCH (R157). -/
def State.watchChecks (s : State) (rs : List IdRange) : List (Bool × RefuseCode) :=
  [(s.catalog.state.takesWatch, .wrongState), (decide (rs.length ≤ Config.watchSize), .watchFull),
   (decide (1 ≤ rs.length) && rs.all IdRange.legal, .outOfRange)]

/-- The own part of WATCH. -/
def State.ownWatch (s : State) (p : Port) (q : Byte) (rs : List IdRange) : State :=
  match firstFail (s.watchChecks rs) with
  | some c => s.refuse p q kWatch c 0
  | none => (s.setWatch p rs).reply p q kWatch (.watch rs.length)

/-- WATCH. -/
def execWatch (p : Port) (q : Byte) (payload : List Byte) (s : State) : Host.Outcome State Fault Refusal :=
  .next (s.request p q kWatch (readWatch payload) (fun rs s => s.ownWatch p q rs))

/-- The own part of UNWATCH (R158). -/
def State.ownUnwatch (s : State) (p : Port) (q : Byte) : State :=
  if s.catalog.state.takesWatch then (s.setWatch p []).reply p q kUnwatch (.unwatch 0) else s.refuse p q kUnwatch .wrongState 0

/-- UNWATCH. -/
def execUnwatch (p : Port) (q : Byte) (payload : List Byte) (s : State) : Host.Outcome State Fault Refusal :=
  .next (s.request p q kUnwatch (readEmpty payload) (fun _ s => s.ownUnwatch p q))

end Sys2Proof.Machine
end

