-- ==== Sys2Proof/Machine/PlacementEvents.lean ====
section
/-! DEFINITION. What the part does of itself at a port: DATA, CREDIT, BULK_DONE and NOTICE placed where the Link Unit grants a
place, and the processing of a buffered block (R128, R131, R138, R140, R144, R154, R155, R173). Where its condition does not
hold the event changes nothing (log 1). -/

namespace Sys2Proof.Machine

open Sys2Proof

/-! ### DATA (R131, R133) -/

/-- One item of a DATA block in the view of the read (R131). -/
def dataItem (es : List Entry) (view : View) (id : Nat) : Option DataItem :=
  (findEntry es id).map (fun e =>
    { id := id, version := e.version, value := match view with | .working => e.working | .committed => e.committed })

/-- The ids of the next block (R130). -/
def ReadCtx.blockIds (r : ReadCtx) : List Nat := (r.items.drop (16 * r.next)).take Config.itemsPerBlock

/-- The items of the next block, taken together (R131). -/
def State.blockItems (s : State) (r : ReadCtx) : List DataItem := r.blockIds.filterMap (dataItem s.catalog.entries r.view)

/-- The context after its next block has been placed (R131). -/
def ReadCtx.advance (r : ReadCtx) (durable : Nat) : ReadCtx :=
  { r with
    next := r.next + 1
    sent := r.sent + r.blockIds.length
    firstNumber := if r.next = 0 then some durable else r.firstNumber
    lastNumber := some durable }

/-- The next DATA block is built and placed; after the last one the read ends (R131, R133). -/
def State.placeData (s : State) (p : Port) (r : ReadCtx) : State :=
  let n := s.store.durable
  let r' := r.advance n
  let s1 := s.modPort p (fun x => { x.placeBulk (.data r.next n (s.blockItems r)) with bulk := .reading r' })
  if r'.next < r'.blocks then s1 else s1.closeBulk p (r'.done .complete n)

/-- DATA. -/
def execData (p : Port) (s : State) : Host.Outcome State Fault Refusal :=
  .next (match (s.port p).bulk with
    | .reading r => if s.ready && (s.port p).grantsBulk then s.placeData p r else s
    | .idle => s
    | .paused _ => s
    | .writing _ => s
    | .closing _ => s)

/-! ### CREDIT (R140) -/

/-- A CREDIT is placed, and its credits become open (R140). -/
def State.placeCredit (s : State) (p : Port) (w : WriteCtx) : State :=
  s.modPort p (fun x =>
    { x.placeBulk (.credit w.creditsPending) with
      bulk := .writing { w with creditsOpen := w.creditsOpen + w.creditsPending, creditsPending := 0 } })

/-- CREDIT. -/
def execCredit (p : Port) (s : State) : Host.Outcome State Fault Refusal :=
  .next (match (s.port p).bulk with
    | .writing w => if s.ready && (s.port p).grantsBulk then s.placeCredit p w else s
    | .idle => s
    | .reading _ => s
    | .paused _ => s
    | .closing _ => s)

/-! ### BULK_DONE (R127, R133, R144) -/

/-- A BULK_DONE is placed and the context becomes IDLE (R127). -/
def State.placeDone (s : State) (p : Port) (d : DoneRec) : State :=
  s.modPort p (fun x => { x.placeBulk (.bulkDone d) with bulk := .idle })

/-- BULK_DONE. -/
def execBulkDone (p : Port) (s : State) : Host.Outcome State Fault Refusal :=
  .next (match (s.port p).bulk with
    | .closing d => if s.ready && (s.port p).grantsBulk then s.placeDone p d else s
    | .idle => s
    | .reading _ => s
    | .paused _ => s
    | .writing _ => s)

/-! ### NOTICE (R154, R155) -/

/-- The notice queue and lost count after up to 8 notices have left: a LOST marker takes the first place freed (R154). -/
def PortState.drained (x : PortState) : PortState :=
  if 1 ≤ x.lost then { x with notices := x.notices.drop Config.noticesPerMessage ++ [.lost x.lost], lost := 0 }
  else { x with notices := x.notices.drop Config.noticesPerMessage }

/-- A NOTICE is built and placed (R155). -/
def PortState.sendNotices (x : PortState) : PortState :=
  (x.placeNotice (.notice (x.notices.take Config.noticesPerMessage))).drained

/-- NOTICE. -/
def execNotice (p : Port) (s : State) : Host.Outcome State Fault Refusal :=
  .next (if s.ready && (s.port p).grantsNotice then s.modPort p PortState.sendNotices else s)

/-! ### BLOCK_PROCESSING (R138) -/

/-- BLOCK_PROCESSING: the oldest block of the buffer is processed. -/
def execBlockProcessing (p : Port) (s : State) : Host.Outcome State Fault Refusal :=
  .next (match (s.port p).bulk with
    | .writing w =>
      (match w.buffer with
      | [] => s
      | b :: _ => s.processBlock p w b)
    | .idle => s
    | .reading _ => s
    | .paused _ => s
    | .closing _ => s)

end Sys2Proof.Machine
end

