-- ==== Sys2Proof/Machine/Replay.lean ====
section
/-! DEFINITION. Start-up's reading of the array: the classification of ring sectors (R111), the replay stream (R112), the newest
image (R113), the walk (R114, R115) and the roles that cleanup gives (R117). -/

namespace Sys2Proof.Machine

open Sys2Proof

/-! ### Scan (R110, R111) -/

/-- Classes of ring sectors (Table 6.3). -/
inductive SectorClass where
  | retired | halfErased | free | halfOpened | opened
  deriving DecidableEq, Repr

/-- The class of a ring sector, the rows of Table 6.3 tried in order. -/
def NonVol.classify (nv : NonVol) (x : RingSector) : SectorClass :=
  if x.sector ∈ nv.retireMap ∨ x.eraseCount = .val Config.eraseLimit then .retired
  else match x.eraseCount with
  | .blank => .halfErased
  | .torn => .halfErased
  | .val _ =>
    match x.generation with
    | .blank => if x.content = [] then .free else .halfErased
    | .torn => .halfOpened
    | .val _ => .opened

/-! ### The replay stream (R112) -/

/-- A sector of the replay stream with its programmed slots. -/
structure StreamSector where
  sector : Nat
  generation : Nat
  flag : Bool
  slots : List Slot
  deriving DecidableEq, Repr

/-- A sector is full in the stream when its slot 255 is programmed (R112). -/
def StreamSector.isFull (x : StreamSector) : Bool := decide (Config.contentSlots ≤ x.slots.length)

/-- A ring sector's part in the stream: opened sectors, and retired ones with a generation and content; none below the
generation base (R112). -/
def NonVol.streamSector (nv : NonVol) (x : RingSector) : Option StreamSector :=
  match x.generation with
  | .blank => none
  | .torn => none
  | .val g =>
    let part := match nv.classify x with
      | .opened => true
      | .retired => !x.content.isEmpty
      | .halfErased => false
      | .free => false
      | .halfOpened => false
    if part && decide (nv.base ≤ g) then some { sector := x.sector, generation := g, flag := x.restart, slots := x.content }
    else none

/-- Inserts by ascending generation. -/
def insertStream (x : StreamSector) : List StreamSector → List StreamSector
  | [] => [x]
  | y :: ys => if x.generation < y.generation then x :: y :: ys else y :: insertStream x ys

/-- The replay stream: sectors in ascending order of generation (R112). -/
def NonVol.stream (nv : NonVol) : List StreamSector :=
  (nv.ring.filterMap nv.streamSector).foldl (fun acc x => insertStream x acc) []

/-- A place in the stream: the sector it stands in, the slots from it on in that sector, and the later sectors. -/
structure Cursor where
  at0 : StreamSector
  slots : List Slot
  rest : List StreamSector
  deriving DecidableEq, Repr

/-- The slots a group may be read from: it goes on into the next sector when its own is full and the next carries no restart
flag (R112). -/
def readable : List Slot → Bool → List StreamSector → List Slot
  | cur, _, [] => cur
  | cur, isFull, x :: rest => if isFull && !x.flag then cur ++ readable x.slots x.isFull rest else cur

/-- The slots readable from a place. -/
def Cursor.readable (c : Cursor) : List Slot := Sys2Proof.Machine.readable c.slots c.at0.isFull c.rest

/-- The place `n` slots on; after the last slot of a sector it stands at that sector's end. -/
def advance : Nat → StreamSector → List Slot → List StreamSector → Cursor
  | n, x, cur, [] => { at0 := x, slots := cur.drop n, rest := [] }
  | n, x, cur, y :: ys => if n ≤ cur.length then { at0 := x, slots := cur.drop n, rest := y :: ys } else advance (n - cur.length) y y.slots ys

/-- The place `n` slots on from a place. -/
def Cursor.advance (c : Cursor) (n : Nat) : Cursor := Sys2Proof.Machine.advance n c.at0 c.slots c.rest

/-- Some slot is programmed in the stream from a place on. -/
def Cursor.anyLeft (c : Cursor) : Bool := !c.slots.isEmpty || c.rest.any (fun x => !x.slots.isEmpty)

/-! ### Agreement with the catalog (R113, R114) -/

/-- A value has the form and lies in the range of its entry, and a constant entry's is its default (R113). -/
def valueAgrees (d : Definition) (v : Value) : Bool := (kindTest d.shape v == none) && (!d.constant || v == d.default)

/-- A change entry names a persistent entry with a value that agrees (R114). -/
def changeAgrees (es : List Entry) (c : Change) : Bool :=
  match findEntry es c.id with
  | some e => e.defn.persistent && valueAgrees e.defn c.value
  | none => false

/-- Ids stand in ascending order, none twice (R114). -/
def ascending : List Nat → Bool
  | [] => true
  | [_] => true
  | a :: b :: rest => decide (a < b) && ascending (b :: rest)

/-- A COMMIT group agrees with the catalog (R114). -/
def commitAgrees (es : List Entry) (cs : List Change) : Bool := ascending (cs.map (fun c => c.id)) && cs.all (changeAgrees es)

/-- An IMAGE group names every persistent entry once in ascending id order and no other, with values that agree (R113). -/
def imageAgrees (es : List Entry) (cs : List Change) : Bool :=
  (cs.map (fun c => c.id) == (es.filter (fun e => e.defn.persistent)).map (fun e => e.defn.id)) && cs.all (changeAgrees es)

/-- Replay sets the values and versions of the entries a group names (R113, R114); working equals committed (R116). -/
def applyChanges (es : List Entry) (cs : List Change) : List Entry :=
  es.map (fun e => match cs.find? (fun c => c.id == e.defn.id) with
    | some c => { e with live := some { working := c.value, committed := c.value, version := c.version } }
    | none => e)

/-! ### The newest image (R113) -/

/-- A valid image found in the stream: where it begins, the place after it, its number and entries. -/
structure ImageFound where
  generation : Nat
  after : Cursor
  number : Nat
  entries : List Change
  deriving DecidableEq, Repr

/-- The valid image that begins at a place, if one does (R113). -/
def imageAt (es : List Entry) (c : Cursor) : Option ImageFound :=
  match readGroup c.readable with
  | .closed .image number cs good n =>
    if good && imageAgrees es cs then
      some { generation := c.at0.generation, after := c.advance n, number := number, entries := cs }
    else none
  | .closed .commit _ _ _ _ => none
  | .unclosed _ => none
  | .noGroup => none

/-- Valid images that begin in the rest of one sector, in order. -/
def imagesInSector (es : List Entry) (x : StreamSector) (rest : List StreamSector) : List Slot → List ImageFound
  | [] => []
  | s :: ss => (imageAt es { at0 := x, slots := s :: ss, rest := rest }).toList ++ imagesInSector es x rest ss

/-- Valid images of the whole stream, in order: every open mark of kind IMAGE begins a candidate (R113). -/
def images (es : List Entry) : List StreamSector → List ImageFound
  | [] => []
  | x :: rest => imagesInSector es x rest x.slots ++ images es rest

/-- The newest image: the valid one that stands latest (R113). -/
def newestImage (es : List Entry) (stream : List StreamSector) : Option ImageFound := (images es stream).getLast?

/-! ### The walk (R114, R115) -/

/-- What the walk has reached: values, number, groups replayed, the end point, sectors wholly skipped, and how it ended. -/
structure Walk where
  entries : List Entry
  durable : Nat
  groups : Nat
  ending : Cursor
  skipped : List Nat
  outcome : ReplayOutcome
  deriving DecidableEq, Repr

/-- The sectors before the first that carries the restart flag, and the place at its slot 1 if there is one (R114). -/
def skipTo : List StreamSector → List Nat × Option Cursor
  | [] => ([], none)
  | x :: rest =>
    if x.flag then ([], some { at0 := x, slots := x.slots, rest := rest })
    else
      let (ks, c) := skipTo rest
      (x.sector :: ks, c)

/-- The sectors that a skip from a place passes over whole, up to the first that carries the restart flag (R114, R117): the place's own
only when it stands at slot 1. -/
def skippedFrom (c : Cursor) : List Nat :=
  (if c.slots = c.at0.slots then [c.at0.sector] else []) ++ (skipTo c.rest).1

/-- A fault at a place, whose group takes `n` slots (R114): the walk goes on at the first later sector with the restart flag, or
ends. `torn` says the group is unclosed. -/
def faultAt (c : Cursor) (n : Nat) (torn : Bool) (w : Walk) : Walk × Option Cursor :=
  let past := c.advance n
  match (skipTo past.rest).2 with
  | some target => ({ w with skipped := w.skipped ++ skippedFrom c }, some target)
  | none => ({ w with outcome := if torn && !past.anyLeft then .tornTail else .truncated }, none)

/-- One place of the walk (R114): the walk so far and where it goes on, none where it ends. -/
def walkStep (c : Cursor) (w : Walk) : Walk × Option Cursor :=
  match c.slots, c.rest with
  | [], [] => ({ w with outcome := .clean }, none)
  | [], x :: rest => (w, some { at0 := x, slots := x.slots, rest := rest })
  | _ :: _, _ =>
    match readGroup c.readable with
    | .closed .commit number cs good n =>
      if good && commitAgrees w.entries cs && number == w.durable + 1 then
        ({ w with entries := applyChanges w.entries cs, durable := number, groups := w.groups + 1, ending := c.advance n },
          some (c.advance n))
      else faultAt c n false w
    | .closed .image _ _ good n => if good then (w, some (c.advance n)) else faultAt c n false w
    | .unclosed n => faultAt c n true w
    | .noGroup => faultAt c 1 false w

/-- The walk; the fuel is one more than the slots and sectors of the stream, and each place uses at least one of them. -/
def walk : Nat → Cursor → Walk → Walk
  | 0, _, w => w
  | n + 1, c, w =>
    match walkStep c w with
    | (w', none) => w'
    | (w', some c') => walk n c' w'

/-- Slots and sectors of a stream, and one. -/
def streamFuel (stream : List StreamSector) : Nat := stream.length + (stream.map (fun x => x.slots.length)).sum + 1

/-- What replay hands over (R116): the entries, the durable commit number, the walk's results. -/
structure Replayed where
  entries : List Entry
  durable : Nat
  result : ReplayResult
  deriving DecidableEq, Repr

/-- Replay of a SEALED catalog (R112 to R116). -/
def replay (nv : NonVol) (entries : List Entry) : Replayed :=
  let es := atDefaults entries
  let stream := nv.stream
  match newestImage es stream with
  | none =>
    { entries := es, durable := 0,
      result := { outcome := .noImage, groups := 0, imageGeneration := none, endSector := none, later := [], skipped := [],
                  tail := stream.any (fun x => !x.slots.isEmpty) } }
  | some im =>
    let w := walk (streamFuel stream) im.after
      { entries := applyChanges es im.entries, durable := im.number, groups := 1, ending := im.after, skipped := [], outcome := .clean }
    { entries := w.entries, durable := w.durable,
      result := { outcome := w.outcome, groups := w.groups, imageGeneration := some im.generation,
                  endSector := some w.ending.at0.sector, later := w.ending.rest.map (fun x => x.sector), skipped := w.skipped,
                  tail := w.ending.anyLeft } }

/-- Replay with an EMPTY catalog passes at once (Table 6.2, R116). -/
def ReplayResult.nothing : ReplayResult :=
  { outcome := .none, groups := 0, imageGeneration := none, endSector := none, later := [], skipped := [], tail := false }

/-! ### Cleanup (R117) -/

/-- The role of an opened sector after a replay (R117, the rows in order). -/
def openedRole (r : ReplayResult) (k g : Nat) (content : List Slot) : Role :=
  match r.imageGeneration with
  | none => .stale
  | some ig =>
    if g < ig then .stale
    else if k ∈ r.skipped then .stale
    else if k ∈ r.later ∨ content = [] then .stale
    else .full

/-- The record of a ring sector after cleanup with a SEALED catalog (R117). -/
def NonVol.cleanRec (nv : NonVol) (r : ReplayResult) (x : RingSector) : SectorRec :=
  let base : SectorRec :=
    { sector := x.sector, role := .stale, generation := none, eraseCount := x.eraseCount.value, used := x.content.length + 1 }
  match nv.classify x with
  | .retired => { base with role := .retired, generation := x.generation.value }
  | .free => { base with role := .free }
  | .halfErased => base
  | .halfOpened => base
  | .opened =>
    match x.generation with
    | .val g => { base with role := openedRole r x.sector g x.content, generation := some g }
    | .blank => base
    | .torn => base

/-- The record of a ring sector with an EMPTY catalog: RETIRED, FREE or STALE (R111, R117). -/
def NonVol.emptyRec (nv : NonVol) (x : RingSector) : SectorRec :=
  let base : SectorRec :=
    { sector := x.sector, role := .stale, generation := x.generation.value, eraseCount := x.eraseCount.value,
      used := x.content.length + 1 }
  match nv.classify x with
  | .retired => { base with role := .retired }
  | .free => { base with role := .free }
  | .halfErased => { base with generation := none }
  | .halfOpened => { base with generation := none }
  | .opened => base

end Sys2Proof.Machine
end

