-- ==== Sys2Proof/Machine/StartEvents.lean ====
section
/-! DEFINITION. The ends of the start states: HELD, SCANNING, REPLAYING and CLEANUP (R108 to R121). -/

namespace Sys2Proof.Machine

open Sys2Proof

/-! ### HELD (R107, R108, R121) -/

/-- HELD is left: the supply state is set, and a lost cause is POWER_ON (R107, R121). -/
def State.leaveHeld (s : State) (vdd : Nat) : State :=
  { s with ctl :=
    { s.ctl with
      start := .scanning
      cause := some (s.ctl.cause.getD .powerOn)
      supply := if Config.normalLevel < vdd then .normal else .warn } }

/-- HELD_EXIT: NRST is high and VDD, `vdd` mV, is at or above the release level (R108). -/
def execHeldExit (vdd : Nat) (s : State) : Host.Outcome State Fault Refusal :=
  .next (if s.ctl.start = .held ∧ Config.releaseLevel ≤ vdd then s.leaveHeld vdd else s)

/-! ### SCANNING (R110, R23) -/

/-- The catalog loaded from a valid area: definitions, setup record and digest (R110). -/
def Catalog.loaded (a : AreaRead) : Catalog :=
  let es := a.definitions.foldl (fun es d => insertEntry { defn := d, live := none } es) []
  { state := .sealed, entries := es, setup := a.setup, digest := catalogDigest es a.setup, request := none }

/-- The scan has ended: the catalog is SEALED from a valid area, else EMPTY (R110, R23). -/
def State.scanned (s : State) : State :=
  match s.nv.readArea with
  | some a =>
    let c := Catalog.loaded a
    { s with catalog := c, store := { s.store with reserve := imageReserve c.entries }, ctl := { s.ctl with start := .replaying } }
  | none => { s with catalog := .reset, store := { s.store with reserve := 0 }, ctl := { s.ctl with start := .replaying } }

/-- SCAN_END. -/
def execScanEnd (s : State) : Host.Outcome State Fault Refusal := .next (if s.ctl.start = .scanning then s.scanned else s)

/-! ### REPLAYING (R112 to R116) -/

/-- Replay has ended: its results are handed over (R116); with an EMPTY catalog it passes with outcome NONE (Table 6.2). -/
def State.replayed (s : State) : State :=
  if s.catalog.state = .sealed then
    let r := replay s.nv s.catalog.entries
    { s with
      catalog := { s.catalog with entries := r.entries }
      store := { s.store with durable := r.durable }
      ctl := { s.ctl with start := .cleanup, replay := some r.result } }
  else { s with store := { s.store with durable := 0 }, ctl := { s.ctl with start := .cleanup, replay := some .nothing } }

/-- REPLAY_END. -/
def execReplayEnd (s : State) : Host.Outcome State Fault Refusal := .next (if s.ctl.start = .replaying then s.replayed else s)

/-! ### CLEANUP (R117, R118) -/

/-- The ring sector with the highest generation in the table, or none (R118). -/
def Store.newestOpened (st : Store) : Option Nat :=
  (st.table.find? (fun x => x.generation.isSome && x.generation == st.highestGeneration)).map (fun x => x.sector)

/-- The store after cleanup with a SEALED catalog (R118). -/
def Store.cleaned (st : Store) (r : ReplayResult) (table : List SectorRec) : Store :=
  let st1 := { st with table := table, restartNote := r.tail }
  let mode : StoreMode := if st1.usable < st1.readOnlyLimit then .readOnly else .writable
  { st1 with
    mode := mode
    compaction :=
      if mode = .writable ∧ (st1.count .free < st1.reserve + 3 ∨ r.outcome = .noImage) then .requested .first else .none
    openedLast := st1.newestOpened
    imageOwed := decide (r.outcome = .noImage) }

/-- The store after cleanup with an EMPTY catalog (R117, R118). The sector opened last is the one R87 gives after any reset. The
restart note is clear: R117 skips the step that would set it (DESIGN CHOICE, log 33). -/
def Store.emptied (st : Store) (table : List SectorRec) : Store :=
  let st1 := { st with table := table, durable := 0, reserve := 0, mode := .writable, compaction := .none, restartNote := false,
                        imageOwed := false }
  { st1 with openedLast := st1.newestOpened }

/-- The store as cleanup leaves it (R117, R118). -/
def State.cleanedStore (s : State) (r : ReplayResult) : Store :=
  if s.catalog.state = .sealed then s.store.cleaned r (s.nv.ring.map (s.nv.cleanRec r))
  else s.store.emptied (s.nv.ring.map s.nv.emptyRec)

/-! ### READY (R119, R120) -/

/-- The START record (Table 6.5). -/
def State.startRec (s : State) (r : ReplayResult) : StartRec :=
  { cause := s.ctl.cause.getD .powerOn, catState := s.catalog.state, outcome := r.outcome, durable := s.store.durable,
    groups := r.groups, retired := s.store.count .retired, mode := s.store.mode, supply := s.ctl.supply,
    digest := s.catalog.digest }

/-- START fills the place kept for it, with seq 0, and the outbound count has advanced by one (R109, R174). -/
def PortState.fillStart (x : PortState) (r : StartRec) : PortState :=
  { x with
    outbound := x.outbound.map (fun m => if m.body = .kept then { seq := 0, body := .start r } else m)
    outCount := 1 }

/-- The entry into READY (R119), up to the store's first choice. Error counters raised since SCANNING stand as they are (DESIGN CHOICE,
log 42). -/
def State.enterReady (s : State) (r : ReplayResult) : State :=
  { s with
    rateInUse := if s.catalog.state = .sealed then s.catalog.setup.rate else .r115200
    ctl := { s.ctl with start := .ready }
    portA := s.portA.fillStart (s.startRec r)
    portB := s.portB.fillStart (s.startRec r) }

/-- Cleanup has ended and the part is READY (R117 to R120). -/
def State.cleanedUp (s : State) : State :=
  let r := s.ctl.replay.getD .nothing
  let s1 : State := { s with store := s.cleanedStore r }
  (s1.enterReady r).choose

/-- CLEANUP_END. -/
def execCleanupEnd (s : State) : Host.Outcome State Fault Refusal := .next (if s.ctl.start = .cleanup then s.cleanedUp else s)

end Sys2Proof.Machine
end

