-- ==== Sys2Proof/Machine/StoreEvents.lean ====
section
/-! DEFINITION. The ends of the array's operations (R80, R94). -/

namespace Sys2Proof.Machine

open Sys2Proof

/-- SLOT_PROGRAM_DONE: a slot program and its verify end; `mapOk` is whether the field of the retire map takes, where the sector
is retired (R80, R96, R98; log 6). -/
def execSlotProgramDone (ok mapOk : Bool) (s : State) : Host.Outcome State Fault Refusal := .next (s.programEnds ok mapOk)

/-- SECTOR_ERASE_DONE: a sector erase and its verify end (R94, R97; log 6). -/
def execSectorEraseDone (result : EraseResult) (mapOk : Bool) (s : State) : Host.Outcome State Fault Refusal :=
  .next (s.eraseEnds result mapOk)

end Sys2Proof.Machine
end

