-- ==== Sys2Proof/Machine/SupplyEvents.lean ====
section
/-! DEFINITION. Crossings of the supply levels and the resets that the supply and NRST cause (R105, R107, R121 to R124). -/

namespace Sys2Proof.Machine

open Sys2Proof

/-- Sets the supply state. -/
def State.setSupply (s : State) (x : Supply) : State := { s with ctl := { s.ctl with supply := x } }

/-- The warning reaches the store and, from READY on, the Notice Units (R122). -/
def State.warn (s : State) : State :=
  let s1 := s.setSupply .warn
  if s1.ready then s1.storeWarned.noticeBoth .supplyWarn else s1

/-- WARN_LEVEL_CROSSING; in HELD the supply state is not in force (R121). -/
def execWarnCrossing (s : State) : Host.Outcome State Fault Refusal :=
  .next (if s.ctl.start ≠ .held ∧ s.ctl.supply = .normal then s.warn else s)

/-- The return reaches the store and, from READY on, the Notice Units (R123). A STORE_READ_ONLY that the store's choice causes joins the
queues before SUPPLY_OK (DESIGN CHOICE, log 35). -/
def State.recover (s : State) : State :=
  let s1 := s.setSupply .normal
  if s1.ready then s1.storeRestored.noticeBoth .supplyOk else s1

/-- NORMAL_LEVEL_CROSSING. -/
def execNormalCrossing (s : State) : Host.Outcome State Fault Refusal :=
  .next (if s.ctl.start ≠ .held ∧ s.ctl.supply = .warn then s.recover else s)

/-- The cause recorded by a reset: the kind of the reset, but a lost cause stays lost until the next start (R107; log 8). -/
def State.recordedCause (s : State) (c : ResetCause) : Option ResetCause :=
  if s.ctl.start = .held ∧ s.ctl.cause = none then none else some c

/-- CUTOFF: a BROWN_OUT reset, which cuts the array operation in progress (R105, R124). -/
def execCutoff (s : State) : Host.Outcome State Fault Refusal := .next (s.resetTo s.arrayCut (s.recordedCause .brownOut))

/-- PIN_RESET (R105, R179). -/
def execPinReset (s : State) : Host.Outcome State Fault Refusal := .next (s.resetTo s.arrayCut (s.recordedCause .pin))

/-- POWER_ON_RESET: VDD has fallen below 1.6 V and the cause is lost (R105, R107). -/
def execPowerOnReset (s : State) : Host.Outcome State Fault Refusal := .next (s.resetTo s.arrayCut none)

end Sys2Proof.Machine
end

