-- ==== Sys2Proof/Machine/Dispatch.lean ====
section
/-! DEFINITION. Dispatch: one arm per command of the table. -/

namespace Sys2Proof.Machine

open Sys2Proof

/-- A command's effect on everything but the queue of waiting commands. -/
def exec (i : Instr) (s : State) : Host.Outcome State Fault Refusal :=
  match i with
  | .describe p q b => Sys2Proof.Machine.execDescribe p q b s
  | .status p q b run => Sys2Proof.Machine.execStatus p q b run s
  | .linkReset p q b => Sys2Proof.Machine.execLinkReset p q b s
  | .restart p q b ok => Sys2Proof.Machine.execRestart p q b ok s
  | .define p q b => Sys2Proof.Machine.execDefine p q b s
  | .setup p q b => Sys2Proof.Machine.execSetup p q b s
  | .seal p q b => Sys2Proof.Machine.execSeal p q b s
  | .wipe p q b => Sys2Proof.Machine.execWipe p q b s
  | .beginFrame p q b => Sys2Proof.Machine.execBeginFrame p q b s
  | .set p q b => Sys2Proof.Machine.execSet p q b s
  | .get p q b => Sys2Proof.Machine.execGet p q b s
  | .rollback p q b => Sys2Proof.Machine.execRollback p q b s
  | .merge p q b => Sys2Proof.Machine.execMerge p q b s
  | .abandon p q b => Sys2Proof.Machine.execAbandon p q b s
  | .commit p q b run => Sys2Proof.Machine.execCommit p q b run s
  | .bulkRead p q b => Sys2Proof.Machine.execBulkRead p q b s
  | .bulkWrite p q b => Sys2Proof.Machine.execBulkWrite p q b s
  | .bulkAbort p q b => Sys2Proof.Machine.execBulkAbort p q b s
  | .watch p q b => Sys2Proof.Machine.execWatch p q b s
  | .unwatch p q b => Sys2Proof.Machine.execUnwatch p q b s
  | .unknownKind p q k b => Sys2Proof.Machine.execUnknownKind p q k b s
  | .block p b => Sys2Proof.Machine.execBlock p b s
  | .hold p => Sys2Proof.Machine.execHold p s
  | .go p => Sys2Proof.Machine.execGo p s
  | .checkError p => Sys2Proof.Machine.execCheckError p s
  | .framingError f => Sys2Proof.Machine.execFramingError f s
  | .cutMessage taken => Sys2Proof.Machine.execCutMessage taken s
  | .breakStart => Sys2Proof.Machine.execBreakStart s
  | .messageSentA => Sys2Proof.Machine.execMessageSentA s
  | .messageSentB => Sys2Proof.Machine.execMessageSentB s
  | .data p => Sys2Proof.Machine.execData p s
  | .credit p => Sys2Proof.Machine.execCredit p s
  | .bulkDone p => Sys2Proof.Machine.execBulkDone p s
  | .notice p => Sys2Proof.Machine.execNotice p s
  | .blockProcessing p => Sys2Proof.Machine.execBlockProcessing p s
  | .leaseExpiry p => Sys2Proof.Machine.execLeaseExpiry p s
  | .warnCrossing => Sys2Proof.Machine.execWarnCrossing s
  | .normalCrossing => Sys2Proof.Machine.execNormalCrossing s
  | .cutoff => Sys2Proof.Machine.execCutoff s
  | .pinReset => Sys2Proof.Machine.execPinReset s
  | .powerOnReset => Sys2Proof.Machine.execPowerOnReset s
  | .heldExit vdd => Sys2Proof.Machine.execHeldExit vdd s
  | .scanEnd => Sys2Proof.Machine.execScanEnd s
  | .replayEnd => Sys2Proof.Machine.execReplayEnd s
  | .cleanupEnd => Sys2Proof.Machine.execCleanupEnd s
  | .slotProgramDone ok mapOk => Sys2Proof.Machine.execSlotProgramDone ok mapOk s
  | .sectorEraseDone result mapOk => Sys2Proof.Machine.execSectorEraseDone result mapOk s
  | .breakEnd => Sys2Proof.Machine.execBreakEnd s

end Sys2Proof.Machine
end

