-- ==== Sys2Proof/Machine/FrontEnd.lean ====
section
/-! DEFINITION. The bytes of a port over State: how the bytes that arrive reach the queue of waiting commands, and which bytes go out
(R162, R163, R165). It stands outside `step`, since the table has no row for a byte (log 19). -/

namespace Sys2Proof.Machine

open Sys2Proof

/-- Puts a command at the end of the queue. -/
def State.enqueue (s : State) (c : Instr) : State := { s with pending := s.pending ++ [c] }

/-- One byte arrives at a port that receives: the receiver advances, and what it completes joins the queue (R162). -/
def State.receiveByte (s : State) (p : Port) (v : Levels) (b : Byte) : State :=
  if s.receives p then
    let r := rxByte (s.port p).rx b
    let s1 := s.modPort p (fun x => { x with rx := r.1 })
    match r.2 with
    | some e => s1.enqueue (instrOfEvent p v e)
    | none => s1
  else s

/-- A run of bytes at a port. -/
def State.feed (s : State) (p : Port) (v : Levels) : List Byte → State
  | [] => s
  | b :: bs => State.feed (s.receiveByte p v b) p v bs

/-! ### Bytes that go out (R163, R165) -/

/-- The next byte of the message at the head of a port's outbound queue; none with an empty queue, and before READY, when nothing is
sent (R109, R163, R165). -/
def State.nextByte (s : State) (p : Port) : Option Byte :=
  if s.ready then (s.port p).outbound.head?.bind (fun m => m.wire[(s.port p).outPos]?) else none

/-- The command that a message sent whole is (R163, R165). -/
def sentCommand : Port → Instr
  | .A => .messageSentA
  | .B => .messageSentB

/-- The next byte of the head message has gone out; after its last byte the message is sent (R163, R165). -/
def State.sendByte (s : State) (p : Port) : State :=
  match s.nextByte p with
  | none => s
  | some _ =>
    let s1 := s.modPort p (fun x => { x with outPos := x.outPos + 1 })
    if (s1.nextByte p).isNone then s1.enqueue (sentCommand p) else s1

/-- The byte that leaves on SDO_A while one is clocked in: the next of the head message, or the filler of value zero (R163);
before READY, when the queue holds what may not be sent yet, the filler too (DESIGN CHOICE, log 39). -/
def State.clockedOut (s : State) : Byte := (s.nextByte .A).getD 0

/-- A byte transfer on port A: one byte goes out while one comes in (R163). Where the first ends a message sent and the second a message
received, the end of the sent one is queued first (DESIGN CHOICE, log 38). -/
def State.exchangeByte (s : State) (v : Levels) (b : Byte) : State := (s.sendByte .A).receiveByte .A v b

end Sys2Proof.Machine
end

