-- ==== Sys2Proof/Safety.lean ====
section
/-! DEFINITION. What counts as a safe run, in the terms that claims use: the invariants of the stack, the pool, the link, the
notices, the catalog and the owner; which commands are requests; and how an answer changes a port. -/

namespace Sys2Proof.Machine

open Sys2Proof

/-! ### Invariants -/

/-- Undo records in use (R28). -/
def State.inUse (s : State) : Nat := (s.stack.frames.map (fun f => f.undo.length)).sum

/-- Records in use and free records number 192 (R28). -/
abbrev State.PoolConserved (s : State) : Prop := s.stack.free + s.inUse = Config.poolSize

/-- The depth is at most 8, and there is an owner exactly when the depth is above 0 (R24). -/
abbrev State.StackBounded (s : State) : Prop :=
  s.depth ≤ Config.maxDepth ∧ (s.stack.owner.isSome = true ↔ s.stack.frames ≠ [])

/-- A port's outbound queue with the places it reserves holds at most 4 messages, its window at most 2 requests, its cache at most
4 entries, no seq standing twice in either (R169, R170, R172). -/
abbrev PortState.LinkBounded (x : PortState) : Prop :=
  x.outbound.length + x.outstanding.length ≤ Config.outboundSize ∧ x.outstanding.length ≤ Config.windowSize ∧
  x.cache.length ≤ Config.cacheSize ∧ (x.outstanding.map (fun o => o.seq)).Nodup ∧ (x.cache.map (fun e => e.seq)).Nodup

/-- The LOST markers of a notice queue. -/
def PortState.markers (x : PortState) : List Notice := x.notices.filter Notice.isLost

/-- A notice queue holds at most 32 notices and at most one LOST marker, and the lost count is 0 while a marker stands (R150,
R153, R154). -/
abbrev PortState.NoticesBounded (x : PortState) : Prop :=
  x.notices.length ≤ Config.noticeSize ∧ x.markers.length ≤ 1 ∧ (x.markers ≠ [] → x.lost = 0) ∧ x.lost ≤ Config.counterMax

/-- The entries stand in ascending id order with no id twice (R1). -/
abbrev State.IdsAscending (s : State) : Prop := (s.catalog.entries.map (fun e => e.defn.id)).Pairwise (· < ·)

/-- A port's share of the owner's rights: its timer runs, or its bulk context works on the staged values, only while it owns the
stack (R70, R74, R136); its context is active only in SEALED (R9); and the credits of a bulk write sum to 2 (R137). -/
abbrev State.PortCoherent (s : State) (p : Port) : Prop :=
  ((s.port p).lease ≠ .stopped → s.stack.owner = some p ∧ s.commit = none) ∧
  ((s.port p).bulk.locks = true → s.stack.owner = some p) ∧
  ((s.port p).bulk.active = true → s.catalog.state = .sealed) ∧
  (∀ w, (s.port p).bulk = .writing w → w.creditsOpen + w.buffer.length + w.creditsPending = 2)

/-- A commit in flight holds the stack at depth 1 under its port, whose bulk context is not active, and carries the next number
(R51, R52, R56, R58). -/
abbrev State.CommitCoherent (s : State) : Prop :=
  ∀ c, s.commit = some c →
    s.depth = 1 ∧ s.stack.owner = some c.port ∧ (s.port c.port).bulk.active = false ∧ c.number = s.store.durable + 1

/-- The steps of a catalog write and of a wipe erase do not stand in each other's list (R102, R104). -/
def Task.ofWipe : Task → Bool
  | .erase _ => true | .retireMap => true
  | .programArea => false | .areaHeader _ => false | .areaSlot .. => false | .image _ => false

/-- See `Task.ofWipe`. -/
def Task.ofSeal : Task → Bool
  | .retireMap => false
  | .erase _ => true | .programArea => true | .areaHeader _ => true | .areaSlot .. => true | .image _ => true

/-- What the store does agrees with the catalog state: the catalog write runs in SEALING, the wipe erase in WIPING, and only these
two work on the catalog area; the ring and its table hold no sector of the area (R81, R82, R88, R102, R104). -/
abbrev State.StoreCoherent (s : State) : Prop :=
  (s.store.operation = .catalogWrite → s.catalog.state = .sealing ∧ s.store.tasks.all Task.ofSeal = true) ∧
  (s.store.operation = .wipeErase → s.catalog.state = .wiping ∧ s.store.tasks.all Task.ofWipe = true) ∧
  (s.store.operation ≠ .catalogWrite → s.store.operation ≠ .wipeErase → s.store.tasks = []) ∧
  (match s.store.arrayOp with
    | .areaHeader _ => s.store.operation = .catalogWrite
    | .areaSlot .. => s.store.operation = .catalogWrite
    | .retireMap => s.store.operation = .wipeErase
    | .erase k => k < 4 → s.store.operation = .catalogWrite ∨ s.store.operation = .wipeErase
    | .none => True | .header .. => True | .slot .. => True) ∧
  (∀ x ∈ s.store.table, 4 ≤ x.sector) ∧ (∀ x ∈ s.nv.ring, 4 ≤ x.sector)

/-- Ownership and commits exist in SEALED and from READY on only, and everything that depends on the owner agrees with it (R9,
R51, R70, R119). -/
abbrev State.Coherent (s : State) : Prop :=
  (s.stack.owner ≠ none → s.catalog.state = .sealed ∧ s.ctl.start = .ready) ∧
  (s.ctl.start ≠ .ready →
    s.portA.bulk.active = false ∧ s.portB.bulk.active = false ∧ s.store.operation = .idle ∧ s.store.arrayOp = .none) ∧
  s.PortCoherent .A ∧ s.PortCoherent .B ∧ s.CommitCoherent ∧ s.StoreCoherent

/-- The entries as they would stand with every frame rolled back, the top one first (R45, R48). -/
def restoreFrames : List Frame → List Entry → List Entry
  | [], es => es
  | f :: fs, es => restoreFrames fs (restoreAll f.undo es)

/-- Rolling back every frame makes every working value equal to its committed value (R34, R48). -/
abbrev State.ViewsRestorable (s : State) : Prop :=
  ∀ e ∈ restoreFrames s.stack.frames s.catalog.entries, e.working = e.committed

/-- No frame's undo list holds two records for one id (R26). -/
abbrev State.UndoDistinct (s : State) : Prop := ∀ f ∈ s.stack.frames, (f.undo.map (fun u => u.id)).Nodup

/-- While a commit is in flight its change list is what frame 1 still says (R57, R58). -/
abbrev State.ChangesFixed (s : State) : Prop :=
  ∀ c, s.commit = some c → c.changes = s.changedEntries.map Entry.change

/-! ### Runs of commands -/

/-- Commands taken one after another, until one does not answer a next state. -/
def execAll : List Instr → State → Host.Outcome State Fault Refusal
  | [], s => .next s
  | c :: cs, s =>
    match exec c s with
    | .next t => execAll cs t
    | .fault f => .fault f
    | .refused r => .refused r

/-! ### The store's work (R83 to R85) -/

/-- The program of slot `c` of a group has started, from the store `st` to the store `t`: in the FILLING sector at the write position, or,
where no sector is FILLING, with the header of the next FREE sector, its generation one above the highest in the table, or the base, and
the restart note as its restart flag (R83 to R85). That its record is FILLING with that generation and one slot in use from the start of
this program is the model's choice (log 23). -/
abbrev Store.Starts (st : Store) (base : Nat) (c : Slot) (t : Store) : Prop :=
  (∀ x ∈ st.table, x.role = .filling → (∀ y ∈ st.table, y.role = .filling → y = x) →
    t.arrayOp = .slot x.sector c ∧ t.table = st.table ∧ t.openedLast = st.openedLast ∧ t.restartNote = st.restartNote) ∧
  ((∀ x ∈ st.table, x.role ≠ .filling) →
    ∀ j, (ringOrderAfter st.openedLast).find? (fun i => (st.rec? i).any (fun x => decide (x.role = .free))) = some j →
    ∃ d, t.arrayOp = .header j d st.restartNote ∧ t.openedLast = some j ∧ t.restartNote = false ∧
      ((∀ x ∈ st.table, x.generation = none) → d = base) ∧
      (∀ x ∈ st.table, ∀ h, x.generation = some h → (∀ y ∈ st.table, ∀ e, y.generation = some e → e ≤ h) → d = h + 1) ∧
      t.table = st.table.map (fun x => if x.sector = j then { x with role := .filling, generation := some d, used := 1 } else x))

/-- The count that an erase of sector `k` raises by one: its own, or, where it has none that reads, the highest in the ring (R94). That it
is 0 where no sector of the ring has one is the model's choice (log 44). -/
abbrev Store.PreviousCount (st : Store) (k n : Nat) : Prop :=
  ∃ x, st.rec? k = some x ∧ (x.eraseCount = some n ∨
    (x.eraseCount = none ∧ (∀ y ∈ st.table, ∀ m, y.eraseCount = some m → m ≤ n) ∧
      ((∃ y ∈ st.table, y.eraseCount = some n) ∨ n = 0)))

/-! ### The replay stream by stretches (R112 to R115) -/

/-- A change of a group names a persistent entry, with a value of its form and range, the default where it is constant (R113, R114). -/
abbrev Change.Agrees (es : List Entry) (c : Change) : Prop :=
  ∃ e ∈ es, e.defn.id = c.id ∧ e.defn.persistent = true ∧ kindTest e.defn.shape c.value = none ∧
    (e.defn.constant = true → c.value = e.defn.default)

/-- The changes of a COMMIT group agree with the catalog: ids in ascending order, none twice, and each change agrees (R114). -/
abbrev CommitGroupAgrees (es : List Entry) (cs : List Change) : Prop :=
  (cs.map (fun c => c.id)).Pairwise (· < ·) ∧ ∀ c ∈ cs, c.Agrees es

/-- A group without a close mark: an open mark, and none of the slots after it is a close mark (R112). -/
abbrev UnclosedGroup (l : List Slot) : Prop := ∃ k m r, l = .openMark k m :: r ∧ ∀ a b, Slot.closeMark a b ∉ r

/-- A fault that is no unclosed group, with what stands after it (R114): a COMMIT group other than number `n` or not agreeing with the
catalog, one whose check does not agree, or a slot that is no open mark. No IMAGE group begins in it. -/
abbrev FaultyGroup (es : List Entry) (n : Nat) (l : List Slot) : Prop :=
  (∀ m, Slot.openMark .image m ∉ l) ∧
  ((∃ (m : Nat) (cs : List Change) (r : List Slot), l = groupSlots .commit m cs ++ r ∧ (m = n → ¬ CommitGroupAgrees es cs)) ∨
   (∃ (m : Nat) (cs : List Change) (chk : Word32) (r : List Slot), chk ≠ groupCheck (.openMark .commit m :: cs.flatMap Change.slots) ∧
      l = .openMark .commit m :: cs.flatMap Change.slots ++ .closeMark cs.length chk :: r) ∨
   (∃ (b : Slot) (r : List Slot), l = b :: r ∧ b ≠ .damaged ∧ ∀ m, b ≠ .openMark .commit m))

/-- A stretch of the replay stream: its first sector, further sectors that its groups run on into, and sectors after these that
reading does not reach; before its COMMIT groups, `before`; after them, `tail`. -/
structure Stretch where
  first : StreamSector
  others : List StreamSector
  unread : List StreamSector
  before : List Slot
  commits : List (List Change)
  tail : List Slot
  deriving DecidableEq, Repr

/-- The sectors whose slots are read as one run (R112). -/
def Stretch.run (z : Stretch) : List StreamSector := z.first :: z.others

/-- Every sector of a stretch. -/
def Stretch.sectors (z : Stretch) : List StreamSector := z.run ++ z.unread

/-- How many sectors of the run hold a slot from before the tail, 255 slots to a sector. -/
def Stretch.reached (z : Stretch) : Nat := ((z.run.flatMap (fun x => x.slots)).length - z.tail.length + 254) / 255

/-- The sectors of a stretch that hold nothing from before its tail (R114, R117). -/
def Stretch.behind (z : Stretch) : List StreamSector := z.run.drop z.reached ++ z.unread

/-- COMMIT groups of the numbers after `n`. -/
def commitGroups (n : Nat) (commits : List (List Change)) : List Slot :=
  commits.zipIdx.flatMap (fun (c : List Change × Nat) => groupSlots .commit (n + 1 + c.2) c.1)

/-- A stretch whose COMMIT groups follow number `n`. Its run is full but for the last sector, only the first sector may carry the
restart flag, and its tail is nothing or a fault. Unread sectors stand only after a fault and a sector that is not full, and begin no
IMAGE group. -/
abbrev Stretch.Follows (es : List Entry) (n : Nat) (z : Stretch) : Prop :=
  z.run.flatMap (fun x => x.slots) = z.before ++ (commitGroups n z.commits ++ z.tail) ∧
  (∀ x ∈ z.run.dropLast, x.slots.length = Config.contentSlots) ∧ (∀ x ∈ z.others ++ z.unread, x.flag = false) ∧
  (∀ cs ∈ z.commits, CommitGroupAgrees es cs) ∧
  (z.tail = [] ∨ UnclosedGroup z.tail ∨ FaultyGroup es (n + z.commits.length + 1) z.tail) ∧
  (z.unread ≠ [] → z.tail ≠ [] ∧ (∀ x ∈ z.run.getLast?, x.slots.length < Config.contentSlots) ∧
    ∀ x ∈ z.unread, ∀ m, Slot.openMark .image m ∉ x.slots)

/-- Stretches one after another, the COMMIT numbers going on from one to the next: each stretch after the first begins with its COMMIT
groups, at a sector that carries the restart flag where a fault stands before it (R114). -/
def StretchesFollow (es : List Entry) : Nat → List Stretch → Prop
  | _, [] => True
  | n, z :: zs =>
    z.Follows es n ∧ (∀ y ∈ zs.head?, y.before = [] ∧ (z.tail ≠ [] → y.first.flag = true)) ∧
    StretchesFollow es (n + z.commits.length) zs

/-- The COMMIT groups of stretches, in order. -/
def stretchCommits (zs : List Stretch) : List (List Change) := zs.flatMap (fun z => z.commits)

/-- The outcome of a walk whose last stretch is this one (Table 6.4). -/
abbrev Stretch.Ends (z : Stretch) (o : ReplayOutcome) : Prop :=
  (z.tail = [] → o = .clean) ∧
  (UnclosedGroup z.tail → (∀ x ∈ z.unread, x.slots = []) → o = .tornTail) ∧
  (UnclosedGroup z.tail → (∃ x ∈ z.unread, x.slots ≠ []) → o = .truncated) ∧
  (z.tail ≠ [] → ¬ UnclosedGroup z.tail → o = .truncated)

/-! ### Requests -/

/-- Port, seq and kind of a command that is a request (R167). -/
def requestOf : Instr → Option (Port × Byte × Byte)
  | .describe p q _ => some (p, q, kDescribe)
  | .status p q _ _ => some (p, q, kStatus)
  | .linkReset p q _ => some (p, q, kLinkReset)
  | .restart p q _ _ => some (p, q, kRestart)
  | .define p q _ => some (p, q, kDefine)
  | .setup p q _ => some (p, q, kSetup)
  | .seal p q _ => some (p, q, kSeal)
  | .wipe p q _ => some (p, q, kWipe)
  | .beginFrame p q _ => some (p, q, kBegin)
  | .set p q _ => some (p, q, kSet)
  | .get p q _ => some (p, q, kGet)
  | .rollback p q _ => some (p, q, kRollback)
  | .merge p q _ => some (p, q, kMerge)
  | .abandon p q _ => some (p, q, kAbandon)
  | .commit p q _ _ => some (p, q, kCommit)
  | .bulkRead p q _ => some (p, q, kBulkRead)
  | .bulkWrite p q _ => some (p, q, kBulkWrite)
  | .bulkAbort p q _ => some (p, q, kBulkAbort)
  | .watch p q _ => some (p, q, kWatch)
  | .unwatch p q _ => some (p, q, kUnwatch)
  | .unknownKind p q k _ => some (p, q, k)
  | .block .. | .hold _ | .go _ | .checkError _ | .framingError _ | .cutMessage _ | .breakStart | .messageSentA | .messageSentB
  | .data _ | .credit _ | .bulkDone _ | .notice _ | .blockProcessing _ | .leaseExpiry _ | .warnCrossing | .normalCrossing
  | .cutoff | .pinReset | .powerOnReset | .heldExit _ | .scanEnd | .replayEnd | .cleanupEnd | .slotProgramDone ..
  | .sectorEraseDone .. | .breakEnd => none

/-- The payload of a request is well formed (R183); the kind of an unknown request has no form. -/
def payloadReads : Instr → Bool
  | .describe _ _ b => (readEmpty b).isSome
  | .status _ _ b _ => (readEmpty b).isSome
  | .linkReset _ _ b => (readEmpty b).isSome
  | .restart _ _ b _ => (readEmpty b).isSome
  | .define _ _ b => (readDefine b).isSome
  | .setup _ _ b => (readSetup b).isSome
  | .seal _ _ b => (readEmpty b).isSome
  | .wipe _ _ b => (readEmpty b).isSome
  | .beginFrame _ _ b => (readLabel b).isSome
  | .set _ _ b => (readSet b).isSome
  | .get _ _ b => (readId b).isSome
  | .rollback _ _ b => (readLabel b).isSome
  | .merge _ _ b => (readLabel b).isSome
  | .abandon _ _ b => (readEmpty b).isSome
  | .commit _ _ b _ => (readEmpty b).isSome
  | .bulkRead _ _ b => (readBulkRead b).isSome
  | .bulkWrite _ _ b => (readCount b).isSome
  | .bulkAbort _ _ b => (readEmpty b).isSome
  | .watch _ _ b => (readWatch b).isSome
  | .unwatch _ _ b => (readEmpty b).isSome
  | .unknownKind .. => false
  | .block .. | .hold _ | .go _ | .checkError _ | .framingError _ | .cutMessage _ | .breakStart | .messageSentA | .messageSentB
  | .data _ | .credit _ | .bulkDone _ | .notice _ | .blockProcessing _ | .leaseExpiry _ | .warnCrossing | .normalCrossing
  | .cutoff | .pinReset | .powerOnReset | .heldExit _ | .scanEnd | .replayEnd | .cleanupEnd | .slotProgramDone ..
  | .sectorEraseDone .. | .breakEnd => false

/-- The command's kind is one that names a request (R182 step 4). -/
def kindNamed : Instr → Bool
  | .unknownKind .. => false
  | c => (requestOf c).isSome

/-- A request of this port, seq and kind reaches its own checks: steps 2, 3, 6 and 7 of R182 pass. -/
abbrev State.Reaches (s : State) (p : Port) (q kind : Byte) : Prop :=
  s.receives p = true ∧ (s.port p).admission q kind = .admitted ∧ s.ready = true ∧ s.permits p kind = true

/-- The port after an answer to a request that was admitted in the same event: the lease restarted on arrival, the answer at the
tail of the queue, in the cache if it enters it (R71, R169, R171). -/
def PortState.answered (x : PortState) (period : Nat) (q kind : Byte) (b : Body) (keep : Bool) : PortState :=
  { x with
    lease := x.lease.restarted period
    outbound := x.outbound ++ [{ seq := q, body := b }]
    cache := if keep then cacheInsert x.cache { seq := q, kind := kind, body := b } else x.cache }

/-- The state that differs by such an answer alone. -/
def State.answered (s : State) (p : Port) (q kind : Byte) (b : Body) (keep : Bool) : State :=
  s.modPort p (fun x => x.answered (s.leasePeriod p) q kind b keep)

/-- The state after a REFUSE to such a request for its own checks or its port (R169, R182, R184). -/
def State.refused (s : State) (p : Port) (q kind : Byte) (c : RefuseCode) (id : Nat) : State :=
  s.answered p q kind (.refuse kind c id) true

/-! ### Resets -/

/-- A port has lost its RAM and keeps a place for START (Table 6.7, R109). -/
abbrev PortState.RamLost (x : PortState) : Prop :=
  x.rx = .hunt ∧ x.outstanding = [] ∧ x.cache = [] ∧ x.outbound = [{ seq := 0, body := .kept }] ∧ x.outCount = 0 ∧
  x.nextGrant = .bulk ∧ x.counters = .zero ∧ x.lease = .stopped ∧ x.bulk = .idle ∧ x.lastDone = none ∧ x.notices = [] ∧
  x.lost = 0 ∧ x.watch = [] ∧ x.outPos = 0

/-- The part is in HELD with its RAM lost (R50, R51, R87, R108, R125). -/
abbrev State.RamLost (s : State) : Prop :=
  s.ctl.start = .held ∧ s.ctl.replay = none ∧ s.stack.frames = [] ∧ s.stack.owner = none ∧ s.stack.free = 192 ∧ s.commit = none ∧
  s.catalog.entries = [] ∧ s.catalog.digest = 0 ∧ s.store.operation = .idle ∧ s.store.pend = none ∧ s.store.arrayOp = .none ∧
  s.portA.RamLost ∧ s.portB.RamLost ∧ s.rateInUse = .r115200

end Sys2Proof.Machine
end

