-- ==== Sys2Proof/WellFormed.lean ====
section
/-! DEFINITION. Which commands the outside world and the part's own units can give: the bounds that the manual sets on what a
command carries. The machine does not rely on it; statements about messages do. -/

namespace Sys2Proof

open Sys2Proof.Machine

/-- A payload that a message can carry (R161). -/
def payloadOk (payload : List Byte) : Bool := decide (payload.length ≤ Config.maxPayload)

/-- A kind byte that names no request and no stream message (R167, Table 10.2). -/
def kindUnknown (k : Byte) : Bool := !(requestKinds.contains k) && !(streamKinds.contains k)

/-- Bytes that leave a receiver in HUNT without completing a message do not stand in a cut message: a cut is taken only of bytes
that complete nothing (R163). -/
def cutOk (taken : List Byte) : Bool := (rxRun .hunt taken).2.isEmpty

/-- Well-formed commands: payloads within the message frame (R161), kinds that name no request where the row says so (R167), cut
bytes that complete no message (R163), and a supply at or above the release level for HELD_EXIT (R108). -/
def Instr.wf : Instr → Bool
  | .describe _ _ b => payloadOk b
  | .status _ _ b _ => payloadOk b
  | .linkReset _ _ b => payloadOk b
  | .restart _ _ b _ => payloadOk b
  | .define _ _ b => payloadOk b
  | .setup _ _ b => payloadOk b
  | .seal _ _ b => payloadOk b
  | .wipe _ _ b => payloadOk b
  | .beginFrame _ _ b => payloadOk b
  | .set _ _ b => payloadOk b
  | .get _ _ b => payloadOk b
  | .rollback _ _ b => payloadOk b
  | .merge _ _ b => payloadOk b
  | .abandon _ _ b => payloadOk b
  | .commit _ _ b _ => payloadOk b
  | .bulkRead _ _ b => payloadOk b
  | .bulkWrite _ _ b => payloadOk b
  | .bulkAbort _ _ b => payloadOk b
  | .watch _ _ b => payloadOk b
  | .unwatch _ _ b => payloadOk b
  | .unknownKind _ _ k b => kindUnknown k && payloadOk b
  | .block _ b => payloadOk b
  | .hold _ => true
  | .go _ => true
  | .checkError _ => true
  | .framingError _ => true
  | .cutMessage taken => cutOk taken
  | .breakStart => true
  | .messageSentA => true
  | .messageSentB => true
  | .data _ => true
  | .credit _ => true
  | .bulkDone _ => true
  | .notice _ => true
  | .blockProcessing _ => true
  | .leaseExpiry _ => true
  | .warnCrossing => true
  | .normalCrossing => true
  | .cutoff => true
  | .pinReset => true
  | .powerOnReset => true
  | .heldExit vdd => decide (Config.releaseLevel ≤ vdd)
  | .scanEnd => true
  | .replayEnd => true
  | .cleanupEnd => true
  | .slotProgramDone _ _ => true
  | .sectorEraseDone _ _ => true
  | .breakEnd => true

end Sys2Proof
end

