-- ==== Sys2Proof/Certificates/Slice0/Obligations.lean ====
section
/-! DEFINITION. The statements for the provers. Each docstring names the rule of spec/ that its statement formalises. -/

section

open Sys2Proof Sys2Proof.Machine

/-! ### The step -/

/-- A step runs the command at the front of the queue on the rest of the queue; with no command waiting the part idles (the idling
is the model's choice, log 2). -/
def Obligations.StepRunsFrontCommand : Prop :=
  (∀ (c : Instr) (rest : List Instr) (s : State), step { s with pending := c :: rest } = exec c { s with pending := rest }) ∧
  (∀ s : State, s.pending = [] → step s = .next s)

/-- Every command answers a next state and leaves the queue of waiting commands alone (the queue is the model's, log 1). -/
def Obligations.EveryCommandAnswersAndKeepsTheQueue : Prop :=
  ∀ (c : Instr) (s : State), ∃ t, exec c s = .next t ∧ t.pending = s.pending

/-! ### The receiver (R161, R162) -/

/-- The bytes of every well-formed message command, fed to its port in HUNT, queue exactly that command, and so does every message of
any seq, kind and payload up to 640 bytes: BLOCK, HOLD and GO whatever their seq, HOLD and GO whatever their payload (R161, R162, R167,
R180). -/
def Obligations.FedMessageQueuesItsCommand : Prop :=
  (∀ (i : Instr) (m : Message), i.wf = true → messageOfInstr i = some m →
    ∃ (p : Port) (v : Levels), ∀ s : State, s.receives p = true → (s.port p).rx = .hunt → s.feed p v m.wire = s.enqueue i) ∧
  (∀ (p : Port) (v : Levels) (m : Message) (s : State), m.payload.length ≤ Config.maxPayload → s.receives p = true →
    (s.port p).rx = .hunt → s.feed p v m.wire = s.enqueue (instrOfMessage p v m)) ∧
  (∀ (p : Port) (v : Levels) (q : Byte) (b : List Byte),
    instrOfMessage p v ⟨q, kBlock, b⟩ = .block p b ∧ instrOfMessage p v ⟨q, kHold, b⟩ = .hold p ∧
    instrOfMessage p v ⟨q, kGo, b⟩ = .go p)

/-- CHECK_ERROR, FRAMING_ERROR and CUT_MESSAGE at a port that receives count their event and, but for a bad check, leave the
receiver in HUNT; nothing else changes, but that the message at the head of port A's queue is sent again from its first byte after a
cut (R162, R163, R165). A counter stops at 65535 (R178). The receiver finds a bad check at the
last byte of a message and a length above 640 after the kind byte (R162). -/
def Obligations.DroppedMessagesAreCounted : Prop :=
  (∀ (p : Port) (s : State), s.receives p = true →
    exec (.checkError p) s = .next (s.modPort p (fun x =>
      { x with counters := { x.counters with checkErrors := bump x.counters.checkErrors } }))) ∧
  (∀ (f : FramingFault) (s : State), s.receives (faultPort f) = true →
    exec (.framingError f) s = .next (s.modPort (faultPort f) (fun x =>
      { x with rx := .hunt, counters := { x.counters with framingErrors := bump x.counters.framingErrors } }))) ∧
  (∀ (taken : List Byte) (s : State), s.receives .A = true → (rxRun s.portA.rx taken).2 = [] →
    exec (.cutMessage taken) s = .next { s with portA :=
      { s.portA with
        rx := .hunt, outPos := 0
        counters := if (rxRun s.portA.rx taken).1 = .hunt then s.portA.counters
          else { s.portA.counters with cutMessages := bump s.portA.counters.cutMessages } } }) ∧
  (∀ n : Nat, n ≤ 65535 → bump n = min (n + 1) 65535) ∧
  (∀ (q k : Byte) (payload : List Byte) (a b : Byte), payload.length ≤ Config.maxPayload → [a, b] ≠ checkBytes q k payload →
    rxRun .hunt ([0xC3, 0x3C] ++ checkedFields q k payload ++ [a, b]) = (.hunt, [.checkError])) ∧
  (∀ hi lo q k : Byte, Config.maxPayload < be16 hi lo → rxRun .hunt [0xC3, 0x3C, hi, lo, q, k] = (.hunt, [.framingError]))

/-! ### The common check order (R168 to R175, R182) -/

/-- A request whose seq is that of an outstanding request is absorbed: only the lease and the duplicate counter move (R168). -/
def Obligations.DuplicateRequestIsAbsorbed : Prop :=
  ∀ (c : Instr) (p : Port) (q k : Byte) (s : State), requestOf c = some (p, q, k) → s.receives p = true →
    (∃ o ∈ (s.port p).outstanding, o.seq = q) →
    exec c s = .next (s.modPort p (fun x =>
      { x with
        lease := x.lease.restarted (s.leasePeriod p)
        counters := { x.counters with duplicates := bump x.counters.duplicates } }))

/-- A request that is not outstanding but matches a cache entry by seq and kind is answered again from the cache; another one that
finds the window full is refused with WINDOW_FULL and does not join the list; one that finds no place free beyond the reservations is
discarded and counted (R169, R170). -/
def Obligations.RequestsBeyondTheWindowAreTurnedAway : Prop :=
  ∀ (c : Instr) (p : Port) (q k : Byte) (s : State), requestOf c = some (p, q, k) → s.receives p = true →
    (∀ o ∈ (s.port p).outstanding, o.seq ≠ q) →
    ((s.port p).outbound.length + (s.port p).outstanding.length ≤ 3 →
      (∀ e, (s.port p).cache.find? (fun e => e.seq == q && e.kind == k) = some e →
        exec c s = .next (s.modPort p (fun x =>
          { x with
            lease := x.lease.restarted (s.leasePeriod p)
            outbound := x.outbound ++ [{ seq := q, body := e.body }]
            counters := { x.counters with cacheAnswers := bump x.counters.cacheAnswers } }))) ∧
      ((s.port p).cache.find? (fun e => e.seq == q && e.kind == k) = none → 2 ≤ (s.port p).outstanding.length →
        exec c s = .next (s.modPort p (fun x =>
          { x with
            lease := x.lease.restarted (s.leasePeriod p)
            outbound := x.outbound ++ [{ seq := q, body := .refuse k .windowFull 0 }]
            counters := { x.counters with windowFull := bump x.counters.windowFull } })))) ∧
    (3 < (s.port p).outbound.length + (s.port p).outstanding.length →
      exec c s = .next (s.modPort p (fun x =>
        { x with
          lease := x.lease.restarted (s.leasePeriod p)
          counters := { x.counters with noRoom := bump x.counters.noRoom } })))

/-- Before its own checks an admitted request is refused with UNKNOWN_KIND for its kind, else with MALFORMED when its payload does not
read, else with STARTING before READY; none of these answers enters the cache (R109, R167, R169, R182 steps 4 to 6). -/
def Obligations.KindAndFormComeBeforeStarting : Prop :=
  (∀ (p : Port) (q k : Byte) (payload : List Byte) (s : State), s.receives p = true → (s.port p).admission q k = .admitted →
    exec (.unknownKind p q k payload) s = .next (s.answered p q k (.refuse k .unknownKind 0) false)) ∧
  (∀ (c : Instr) (p : Port) (q k : Byte) (s : State), requestOf c = some (p, q, k) → kindNamed c = true → s.receives p = true →
    (s.port p).admission q k = .admitted →
    (payloadReads c = false → exec c s = .next (s.answered p q k (.refuse k .malformed 0) false)) ∧
    (payloadReads c = true → s.ctl.start ≠ .ready → exec c s = .next (s.answered p q k (.refuse k .starting 0) false)))

/-- Port A may make every request. From READY on a well-formed request that port B may not make in its mode, OBSERVE outside SEALED,
is refused with NOT_PERMITTED, and the answer enters the cache; every other request of port B passes (R175, Table 9.2). -/
def Obligations.PortBRequestsAreLimited : Prop :=
  (∀ (k : Byte) (s : State), s.permits .A k = true) ∧
  (∀ (c : Instr) (q k : Byte) (s : State), requestOf c = some (.B, q, k) → kindNamed c = true → payloadReads c = true →
    s.receives .B = true → s.portB.admission q k = .admitted → s.ctl.start = .ready →
    (k ∈ [kDefine, kSetup, kSeal, kWipe, kRestart] ∨
      (k ∈ [kBegin, kSet, kRollback, kMerge, kAbandon, kCommit, kBulkWrite] ∧
        (s.catalog.state ≠ .sealed ∨ s.catalog.setup.mode = .observe)) →
      exec c s = .next (s.refused .B q k .notPermitted 0)) ∧
    (k ∈ [kDescribe, kStatus, kLinkReset, kGet, kBulkRead, kBulkAbort, kWatch, kUnwatch] ∨
      (k ∈ [kBegin, kSet, kRollback, kMerge, kAbandon, kCommit, kBulkWrite] ∧ s.catalog.state = .sealed ∧
        s.catalog.setup.mode ≠ .observe) → s.Reaches .B q k))

/-- In HELD neither port receives, nor does port B in a break: a request or stream message there changes nothing (R109, R162,
R166). -/
def Obligations.NothingIsTakenWithoutReceiving : Prop :=
  (∀ (p : Port) (s : State), s.receives p = false ↔ (s.ctl.start = .held ∨ (p = .B ∧ s.breakLow = true))) ∧
  (∀ (c : Instr) (p : Port) (q k : Byte) (s : State), requestOf c = some (p, q, k) → s.receives p = false → exec c s = .next s) ∧
  (∀ (p : Port) (b : List Byte) (s : State), s.receives p = false →
    exec (.block p b) s = .next s ∧ exec (.hold p) s = .next s ∧ exec (.go p) s = .next s)

/-! ### DESCRIBE, STATUS, LINK_RESET, the break, RESTART -/

/-- DESCRIBE and STATUS are answered in every catalog state and port B mode with every field as it stands, the sectors counted by role
and the highest erase count in the ring among them, and change nothing else (R185, R186, Table 10.6). That this count is 0 where no
sector has one that reads is the model's choice (log 44). -/
def Obligations.DescribeAndStatusOnlyReport : Prop :=
  (∀ (p : Port) (q : Byte) (s : State), s.Reaches p q kDescribe →
    exec (.describe p q []) s = .next (s.answered p q kDescribe (.reply kDescribe (.describe
      { catState := s.catalog.state, entryCount := s.catalog.entries.length, digest := s.catalog.digest,
        reserve := s.store.reserve })) true)) ∧
  (∀ (p : Port) (q : Byte) (run : Bool) (s : State), s.Reaches p q kStatus →
    let inRole := fun (r : Role) => (s.store.table.filter (fun x => decide (x.role = r))).length
    ∃ top highest : Nat,
      (s.stack.frames = [] → top = 0) ∧ (∀ f fs, s.stack.frames = f :: fs → top = f.undo.length) ∧
      (∀ x ∈ s.store.table, ∀ n, x.eraseCount = some n → n ≤ highest) ∧
      (highest = 0 ∨ ∃ x ∈ s.store.table, x.eraseCount = some highest) ∧
      exec (.status p q [] run) s = .next (s.answered p q kStatus (.reply kStatus (.status
        { catState := s.catalog.state, depth := s.stack.frames.length, owner := s.stack.owner, free := s.stack.free,
          topLength := top, inFlight := s.commit.map (fun c => c.number), durable := s.store.durable,
          operation := s.store.operation, mode := s.store.mode, freeSectors := inRole .free, filling := inRole .filling,
          full := inRole .full, stale := inRole .stale, erasing := inRole .erasing, retired := inRole .retired,
          highestErase := highest, supply := s.ctl.supply, run := run, rate := s.rateInUse,
          outbound := (s.port p).outbound.length, noticeCount := (s.port p).notices.length, lost := (s.port p).lost,
          watch := (s.port p).watch, bulk := (s.port p).bulk, lastDone := (s.port p).lastDone,
          counters := (s.port p).counters })) true)) ∧
  (∀ (p : Port) (s : State), s.permits p kDescribe = true ∧ s.permits p kStatus = true)

/-- A LINK_RESET request purges what its port's link holds, leaves RESYNC alone in the queue, suppresses the reply of the port's commit
in flight, and leaves everything else; an active transfer ends with end LINK_RESET and its BULK_DONE is held, a write's bulk frame is
rolled back and at depth 0 ownership released with its notices, and RESYNC reports the depth and owner left (R147, R176, R177). -/
def Obligations.LinkResetClearsItsPort : Prop :=
  ∀ (p : Port) (q : Byte) (s : State), s.Reaches p q kLinkReset →
    let commit := s.commit.map (fun c => if c.port = p then { c with suppressed := true } else c)
    let cleared := fun (x : PortState) (r : ResyncRec) =>
      { x with
        rx := .hunt, outstanding := [], cache := [], outCount := 0, nextGrant := .bulk, outPos := 0
        outbound := [{ seq := q, body := .resync r }] }
    ((∀ w, (s.port p).bulk ≠ .writing w) →
      ∃ t r x, exec (.linkReset p q []) s = .next t ∧ t.port p = cleared x r ∧
        r = { durable := s.store.durable, depth := s.stack.frames.length, owner := s.stack.owner, catState := s.catalog.state,
              mode := s.store.mode, supply := s.ctl.supply } ∧
        ((s.port p).bulk.active = false → x = { s.port p with lease := (s.port p).lease.restarted (s.leasePeriod p) }) ∧
        (∀ c, (s.port p).bulk = .reading c ∨ (s.port p).bulk = .paused c →
          ∃ d : DoneRec, d.kind = .read ∧ d.ending = .linkReset ∧ d.blocks = c.next ∧ d.items = c.sent ∧
            d.firstNumber = c.firstNumber.getD s.store.durable ∧ d.lastNumber = c.lastNumber.getD s.store.durable ∧
            d.torn = decide (d.firstNumber ≠ d.lastNumber) ∧ d.firstError = none ∧
            x = { s.port p with
                  lease := (s.port p).lease.restarted (s.leasePeriod p), bulk := .closing d, lastDone := some d }) ∧
        t.port (otherPort p) = s.port (otherPort p) ∧ t.commit = commit ∧
        t.catalog = (if p = .A then { s.catalog with request := none } else s.catalog) ∧
        t.stack = s.stack ∧ t.store = s.store ∧ t.nv = s.nv ∧ t.ctl = s.ctl ∧ t.breakLow = s.breakLow ∧
        t.rateInUse = s.rateInUse) ∧
    (∀ w f fs, (s.port p).bulk = .writing w → s.stack.frames = f :: fs → s.stack.owner = some p →
      ∃ t r d x, exec (.linkReset p q []) s = .next t ∧ t.port p = cleared { x with bulk := .closing d, lastDone := some d } r ∧
        r = { durable := s.store.durable, depth := fs.length, owner := if fs = [] then none else some p,
              catState := s.catalog.state, mode := s.store.mode, supply := s.ctl.supply } ∧
        d = { kind := .write, ending := .linkReset, blocks := w.received, items := 0, firstNumber := s.store.durable,
              lastNumber := s.store.durable, torn := false, firstError := w.firstError } ∧
        (fs = [] → x = ({ s.port p with lease := .stopped } : PortState).takeNotice (.ownerChanged none) ∧
          t.port (otherPort p) = (s.port (otherPort p)).takeNotice (.ownerChanged none)) ∧
        (fs ≠ [] → x = { s.port p with lease := (s.port p).lease.restarted (s.leasePeriod p) } ∧
          t.port (otherPort p) = s.port (otherPort p)) ∧
        t.stack = { frames := fs, owner := if fs = [] then none else some p, free := s.stack.free + f.undo.length } ∧
        t.catalog.entries = restoreAll f.undo s.catalog.entries ∧ t.catalog.state = s.catalog.state ∧
        t.catalog.setup = s.catalog.setup ∧ t.catalog.digest = s.catalog.digest ∧
        t.catalog.request = (if p = .A then none else s.catalog.request) ∧ t.commit = commit ∧
        t.store = s.store ∧ t.nv = s.nv ∧ t.ctl = s.ctl ∧ t.breakLow = s.breakLow ∧ t.rateInUse = s.rateInUse)

/-- A break from READY on is a LINK_RESET of port B with seq 0 that restarts no lease, counted once, which ends an active transfer as the
request does; before READY, and while one lasts, it changes nothing; its end lets port B receive again (R147, R166, R174, R176). -/
def Obligations.BreakResetsPortB : Prop :=
  (∀ s : State, s.ctl.start = .ready → s.breakLow = false →
    let commit := s.commit.map (fun c => if c.port = .B then { c with suppressed := true } else c)
    let cleared := fun (x : PortState) (r : ResyncRec) =>
      { x with
        rx := .hunt, outstanding := [], cache := [], outCount := 0, nextGrant := .bulk, outPos := 0
        counters := { x.counters with breaks := bump x.counters.breaks }
        outbound := [{ seq := 0, body := .resync r }] }
    let resync : ResyncRec :=
      { durable := s.store.durable, depth := s.stack.frames.length, owner := s.stack.owner, catState := s.catalog.state,
        mode := s.store.mode, supply := s.ctl.supply }
    (s.portB.bulk.active = false →
      exec .breakStart s = .next { s with breakLow := true, commit := commit, portB := cleared s.portB resync }) ∧
    (∀ c, s.portB.bulk = .reading c ∨ s.portB.bulk = .paused c →
      ∃ d : DoneRec, d.kind = .read ∧ d.ending = .linkReset ∧ d.blocks = c.next ∧ d.items = c.sent ∧
        d.firstNumber = c.firstNumber.getD s.store.durable ∧ d.lastNumber = c.lastNumber.getD s.store.durable ∧
        d.torn = decide (d.firstNumber ≠ d.lastNumber) ∧ d.firstError = none ∧
        exec .breakStart s = .next
          { s with
            breakLow := true, commit := commit
            portB := cleared { s.portB with bulk := .closing d, lastDone := some d } resync }) ∧
    (∀ w f fs, s.portB.bulk = .writing w → s.stack.frames = f :: fs → s.stack.owner = some .B →
      ∃ (d : DoneRec) (x : PortState),
        d = { kind := .write, ending := .linkReset, blocks := w.received, items := 0, firstNumber := s.store.durable,
              lastNumber := s.store.durable, torn := false, firstError := w.firstError } ∧
        x = (if fs = [] then ({ s.portB with lease := .stopped } : PortState).takeNotice (.ownerChanged none) else s.portB) ∧
        exec .breakStart s = .next
          { s with
            breakLow := true, commit := commit
            catalog := { s.catalog with entries := restoreAll f.undo s.catalog.entries }
            stack := { frames := fs, owner := if fs = [] then none else some .B, free := s.stack.free + f.undo.length }
            portA := if fs = [] then s.portA.takeNotice (.ownerChanged none) else s.portA
            portB := cleared { x with bulk := .closing d, lastDone := some d }
              { resync with depth := fs.length, owner := if fs = [] then none else some .B } })) ∧
  (∀ s : State, s.ctl.start ≠ .ready ∨ s.breakLow = true → exec .breakStart s = .next s) ∧
  (∀ s : State, exec .breakEnd s = .next { s with breakLow := false })

/-- RESTART on port A is a COMMAND reset without a reply: the RAM is lost, the array keeps what it holds with the operation in
progress ended (R105, R106). What a failed erase or a failed slot, header or retire map program leaves, State.arraySettled, is the
model's choice (log 6, log 10, log 31, log 43), and so is that a sector whose verify fails there is not retired first (log 37). -/
def Obligations.RestartIsACommandReset : Prop :=
  ∀ (q : Byte) (ok : Bool) (s : State), s.Reaches .A q kRestart →
    ∃ t, exec (.restart .A q [] ok) s = .next t ∧ t.RamLost ∧ t.ctl.cause = some .command ∧ t.nv = s.arraySettled ok ∧
      (s.store.arrayOp = .none → t.nv = s.nv) ∧
      (∀ k c, s.store.arrayOp = .slot k c → t.nv = s.nv.appendSlot k (if ok then c else .damaged))

/-- CUTOFF, PIN_RESET and POWER_ON_RESET lose the RAM in every state, record their cause, and cut a slot program in progress, which
leaves its slot partly programmed (R50, R51, R105, R107, R124, R125). A cause that is lost in HELD stays lost (log 8). -/
def Obligations.ResetsLoseTheRam : Prop :=
  ∀ (s : State) (c : Instr) (cause : Option ResetCause),
    (c = .cutoff ∧ cause = some .brownOut ∧ ¬ (s.ctl.start = .held ∧ s.ctl.cause = none) ∨
     c = .pinReset ∧ cause = some .pin ∧ ¬ (s.ctl.start = .held ∧ s.ctl.cause = none) ∨
     (c = .cutoff ∨ c = .pinReset) ∧ cause = none ∧ s.ctl.start = .held ∧ s.ctl.cause = none ∨
     c = .powerOnReset ∧ cause = none) →
    ∃ t, exec c s = .next t ∧ t.RamLost ∧ t.ctl.cause = cause ∧
      (s.store.arrayOp = .none → t.nv = s.nv) ∧
      (∀ k d, s.store.arrayOp = .slot k d → t.nv = s.nv.appendSlot k .damaged) ∧
      (∀ k g flag, s.store.arrayOp = .header k g flag → t.nv = s.nv.programHeader k .torn flag)

/-! ### The catalog (chapter 1) -/

/-- DEFINE: its own checks in order, and an accepted one adds the entry without values at its place in id order. A definition is
consistent, and is the one stored, exactly when its id, kind, width, bounds or choices, link and default keep the conditions of R11
(R10 to R12). -/
def Obligations.DefineAddsTheEntry : Prop :=
  (∀ (p : Port) (q : Byte) (b : List Byte) (r : DefineReq) (s : State), s.Reaches p q kDefine → readDefine b = some r →
    if s.catalog.state ≠ .empty ∧ s.catalog.state ≠ .building then
      exec (.define p q b) s = .next (s.refused p q kDefine .wrongState 0)
    else if 256 ≤ s.catalog.entries.length then exec (.define p q b) s = .next (s.refused p q kDefine .catalogFull 0)
    else if ∃ e ∈ s.catalog.entries, e.defn.id = r.id then
      exec (.define p q b) s = .next (s.refused p q kDefine .duplicateId 0)
    else match r.definition with
      | none => exec (.define p q b) s = .next (s.refused p q kDefine .badDefinition r.id)
      | some d =>
        exec (.define p q b) s = .next
          { s.answered p q kDefine (.reply kDefine (.define (s.catalog.entries.length + 1))) true with
            catalog :=
              { s.catalog with
                state := .building
                entries := insertEntry { defn := d, live := none } s.catalog.entries } }) ∧
  (∀ (r : DefineReq) (d : Definition), r.definition = some d ↔
    1 ≤ r.id ∧ r.id ≤ 65534 ∧ r.link ≠ r.id ∧ (r.link = 0 ∨ r.kindCode = 1 ∨ r.kindCode = 2) ∧
    d.id = r.id ∧ d.link = r.link ∧ d.persistent = r.persistent ∧ d.stopOnly = r.stopOnly ∧ d.constant = r.constant ∧
    ((r.kindCode = 1 ∧ (r.width = 1 ∨ r.width = 2 ∨ r.width = 4) ∧ r.lower.toNat ≤ r.upper.toNat ∧
        r.upper.toNat < 2 ^ (8 * r.width) ∧ d.shape = .unsigned r.width r.lower.toNat r.upper.toNat ∧
        ∃ raw : Word32, r.default = .number raw ∧ r.lower.toNat ≤ raw.toNat ∧ raw.toNat ≤ r.upper.toNat ∧
          d.default = .num raw.toNat) ∨
     (r.kindCode = 2 ∧ (r.width = 1 ∨ r.width = 2 ∨ r.width = 4) ∧ -(2 ^ (8 * r.width - 1) : Int) ≤ r.lower.toInt ∧
        r.lower.toInt ≤ r.upper.toInt ∧ r.upper.toInt < (2 ^ (8 * r.width - 1) : Int) ∧
        d.shape = .signed r.width r.lower.toInt r.upper.toInt ∧
        ∃ raw : Word32, r.default = .number raw ∧ r.lower.toInt ≤ raw.toInt ∧ raw.toInt ≤ r.upper.toInt ∧
          d.default = .num raw.toInt) ∨
     (r.kindCode = 3 ∧ r.width = 4 ∧ 2 ≤ r.choices.length ∧ r.choices.length ≤ 16 ∧ r.choices.Nodup ∧
        d.shape = .choice r.choices ∧
        ∃ raw : Word32, r.default = .number raw ∧ raw.toInt ∈ r.choices ∧ d.default = .num raw.toInt) ∨
     (r.kindCode = 4 ∧ 1 ≤ r.width ∧ r.width ≤ 32 ∧ d.shape = .text r.width ∧
        ∃ bs, r.default = .text bs ∧ bs.length ≤ r.width ∧ d.default = .text bs)))

/-- SETUP replaces the whole record in EMPTY or BUILDING when its codes name a mode and a rate, and is refused otherwise (R14). -/
def Obligations.SetupReplacesTheRecord : Prop :=
  ∀ (p : Port) (q a b m k : Byte) (s : State), s.Reaches p q kSetup →
    if s.catalog.state ≠ .empty ∧ s.catalog.state ≠ .building then
      exec (.setup p q [a, b, m, k]) s = .next (s.refused p q kSetup .wrongState 0)
    else if 2 < m.toNat ∨ 5 < k.toNat then exec (.setup p q [a, b, m, k]) s = .next (s.refused p q kSetup .outOfRange 0)
    else ∃ (mode : PortBMode) (rate : Rate), mode.code = m.toNat ∧ rate.code = k.toNat ∧
      exec (.setup p q [a, b, m, k]) s = .next
        { s.answered p q kSetup (.reply kSetup .setup) true with
          catalog := { s.catalog with setup := { leaseA := a.toNat, leaseB := b.toNat, mode := mode, rate := rate } } }

/-- SEAL: refused outside BUILDING and for the first failure of the validation; accepted, it stays outstanding, R is computed, the
state becomes SEALING and the catalog write begins with sector 0, the other sectors of the area and the ring sectors not RETIRED to
follow. The validation runs checks 2 to 6 in order, each over the whole catalog, and answers the code and the lowest id at which one
fails: a link that names no numeric entry, a link between different persistence, a cycle of links, a default above that of the entry
linked to, and slots beyond 1018. A catalog that passes it has none of these (R16, R17, R18, R102). -/
def Obligations.SealStartsTheCatalogWrite : Prop :=
  (∀ (p : Port) (q : Byte) (s : State), s.Reaches p q kSeal →
    if s.catalog.state ≠ .building then exec (.seal p q []) s = .next (s.refused p q kSeal .wrongState 0)
    else match sealValidation s.catalog.entries with
      | some (c, id) => exec (.seal p q []) s = .next (s.refused p q kSeal c id)
      | none =>
        ∃ t, exec (.seal p q []) s = .next t ∧
          t.catalog = { s.catalog with state := .sealing, request := some q } ∧
          t.store.reserve = (2 + ((s.catalog.entries.filter (fun e => e.defn.persistent)).map
            (fun e => e.defn.shape.imageSlots)).sum + 255) / 256 ∧
          t.store.operation = .catalogWrite ∧ (s.ctl.supply = .normal → t.store.arrayOp = .erase 0 ∧
            ∀ k, Task.erase k ∈ t.store.tasks ↔ k = 1 ∨ k = 2 ∨ k = 3 ∨
              (4 ≤ k ∧ k ≤ 15 ∧ ∀ x ∈ s.store.table, x.sector = k → x.role ≠ .retired)) ∧
          t.store.durable = s.store.durable ∧ t.nv = s.nv ∧ t.stack = s.stack ∧ t.commit = s.commit ∧ t.ctl = s.ctl ∧
          (t.port p).outstanding = (s.port p).outstanding ++ [{ seq := q, kind := kSeal }] ∧
          (t.port p).outbound = (s.port p).outbound ∧ t.port (otherPort p) = s.port (otherPort p)) ∧
  (∀ es : List Entry, sealValidation es = none →
    (∀ e ∈ es, e.defn.link ≠ 0 → ∃ t ∈ es, t.defn.id = e.defn.link ∧ t.defn.shape.numeric = true ∧
      t.defn.persistent = e.defn.persistent ∧ e.defn.default.atMost t.defn.default = true) ∧
    (es.map (fun e => e.defn.shape.areaSlots)).sum ≤ 1018) ∧
  (∀ es : List Entry, (es.map (fun e => e.defn.id)).Pairwise (· < ·) →
    let slots := fun (e : Entry) => match e.defn.shape with
      | .unsigned .. => 2
      | .signed .. => 2
      | .choice cs => 1 + (cs.length + 3) / 4
      | .text m => 1 + (m + 15) / 16
    let names := fun (e t : Entry) => e.defn.link ≠ 0 ∧ t ∈ es ∧ t.defn.id = e.defn.link
    let badLink := fun (e : Entry) => e.defn.link ≠ 0 ∧
      ∀ t, names e t → (∃ cs, t.defn.shape = .choice cs) ∨ ∃ m, t.defn.shape = .text m
    let mixed := fun (e : Entry) => ∃ t, names e t ∧ t.defn.persistent ≠ e.defn.persistent
    let cyclic := fun (e : Entry) =>
      Relation.TransGen (fun a b : Nat => ∃ x ∈ es, x.defn.id = a ∧ x.defn.link = b ∧ b ≠ 0) e.defn.id e.defn.id
    let above := fun (e : Entry) => ∃ t m n, names e t ∧ t.defn.default = .num m ∧ e.defn.default = .num n ∧ m < n
    let tooFar := fun (e : Entry) => 1018 < ((es.filter (fun x => decide (x.defn.id ≤ e.defn.id))).map slots).sum
    let first := fun (bad : Entry → Prop) (id : Nat) =>
      ∃ e ∈ es, e.defn.id = id ∧ bad e ∧ ∀ x ∈ es, x.defn.id < id → ¬ bad x
    let passed := fun (bad : Entry → Prop) => ∀ x ∈ es, ¬ bad x
    match sealValidation es with
    | some (c, id) =>
      (c = .linkInvalid ∧ first badLink id) ∨
      (c = .linkInvalid ∧ passed badLink ∧ first mixed id) ∨
      (c = .linkCycle ∧ passed badLink ∧ passed mixed ∧ first cyclic id) ∨
      (c = .linkViolation ∧ passed badLink ∧ passed mixed ∧ passed cyclic ∧ first above id) ∨
      (c = .catalogTooLarge ∧ passed badLink ∧ passed mixed ∧ passed cyclic ∧ passed above ∧ first tooFar id)
    | none => passed badLink ∧ passed mixed ∧ passed cyclic ∧ passed above ∧ passed tooFar)

/-- WIPE is taken in EMPTY and BUILDING, and in SEALED at depth 0 with no active bulk context; it clears the catalog's content and
stays outstanding, and with the store IDLE and the supply NORMAL the wipe erase begins with sector 0, the other sectors of the area and
the ring sectors not RETIRED to follow (R21, R104). -/
def Obligations.WipeClearsTheCatalog : Prop :=
  ∀ (p : Port) (q : Byte) (s : State), s.Reaches p q kWipe →
    if s.catalog.state = .empty ∨ s.catalog.state = .building ∨
        (s.catalog.state = .sealed ∧ s.stack.frames = [] ∧ s.portA.bulk.active = false ∧ s.portB.bulk.active = false) then
      ∃ t, exec (.wipe p q []) s = .next t ∧
        t.catalog = { s.catalog with state := .wiping, entries := [], digest := 0, request := some q } ∧
        t.store.reserve = 0 ∧ t.store.durable = s.store.durable ∧ t.nv = s.nv ∧ t.stack = s.stack ∧ t.commit = s.commit ∧
        t.ctl = s.ctl ∧
        (s.store.operation = .idle → t.store.operation = .wipeErase ∧ (s.ctl.supply = .normal → t.store.arrayOp = .erase 0 ∧
          ∀ k, Task.erase k ∈ t.store.tasks ↔ k = 1 ∨ k = 2 ∨ k = 3 ∨
            (4 ≤ k ∧ k ≤ 15 ∧ ∀ x ∈ s.store.table, x.sector = k → x.role ≠ .retired))) ∧
        (t.port p).outstanding = (s.port p).outstanding ++ [{ seq := q, kind := kWipe }] ∧
        (t.port p).outbound = (s.port p).outbound ∧ t.port (otherPort p) = s.port (otherPort p)
    else exec (.wipe p q []) s = .next (s.refused p q kWipe .wrongState 0)

/-- Every step keeps the catalog's entries in ascending id order with no id twice (R1). -/
def Obligations.CatalogStaysInIdOrder : Prop :=
  ∀ s t : State, s.IdsAscending → step s = .next t → t.IdsAscending

/-! ### The Frame Stack (chapter 2) -/

/-- BEGIN: its own checks in order; accepted, it pushes an empty frame with its label, takes no record, and at depth 0 takes
ownership with the port's lease started and OWNER_CHANGED to both ports (R30, R36, R37). -/
def Obligations.BeginPushesAFrame : Prop :=
  ∀ (p : Port) (q : Byte) (b : List Byte) (label : Option (List Byte)) (s : State),
    s.Reaches p q kBegin → readLabel b = some label →
    if s.catalog.state ≠ .sealed then exec (.beginFrame p q b) s = .next (s.refused p q kBegin .wrongState 0)
    else if s.stack.owner = some (otherPort p) then exec (.beginFrame p q b) s = .next (s.refused p q kBegin .ownedByOther 0)
    else if 8 ≤ s.stack.frames.length then exec (.beginFrame p q b) s = .next (s.refused p q kBegin .stackFull 0)
    else if s.commit ≠ none then exec (.beginFrame p q b) s = .next (s.refused p q kBegin .commitPending 0)
    else if (s.port p).bulk.locks = true then exec (.beginFrame p q b) s = .next (s.refused p q kBegin .bulkActive 0)
    else
      let answer := s.answered p q kBegin (.reply kBegin (.beginFrame (s.stack.frames.length + 1) s.stack.free)) true
      let frames := { label := label, undo := [] } :: s.stack.frames
      (s.stack.frames ≠ [] →
        exec (.beginFrame p q b) s = .next { answer with stack := { s.stack with frames := frames } }) ∧
      (s.stack.frames = [] →
        exec (.beginFrame p q b) s = .next
          ((({ answer with stack := { s.stack with frames := frames, owner := some p } } : State).modPort p
            (fun x => { x with lease := leaseOf (s.leasePeriod p) })).noticeBoth (.ownerChanged (some p))))

/-- SET: its own checks in order, each refusal with the id; accepted, it takes a record with the old working value at the first
write within the top frame and sets the working value. The value check is spelled out step by step (R7, R29, R38, R39). -/
def Obligations.SetStagesAValue : Prop :=
  (∀ (p : Port) (q : Byte) (b : List Byte) (r : SetReq) (s : State), s.Reaches p q kSet → readSet b = some r →
    if s.catalog.state ≠ .sealed then exec (.set p q b) s = .next (s.refused p q kSet .wrongState r.id)
    else if s.stack.owner ≠ some p then exec (.set p q b) s = .next (s.refused p q kSet .notOwner r.id)
    else if s.commit ≠ none then exec (.set p q b) s = .next (s.refused p q kSet .commitPending r.id)
    else if (s.port p).bulk.locks = true then exec (.set p q b) s = .next (s.refused p q kSet .bulkActive r.id)
    else match valueCheck s.catalog.entries Entry.working r.id r.value with
    | .error c => exec (.set p q b) s = .next (s.refused p q kSet c r.id)
    | .ok v => ∀ (e : Entry) (f : Frame) (fs : List Frame),
      findEntry s.catalog.entries r.id = some e → s.stack.frames = f :: fs →
      if p = .B ∧ s.catalog.setup.mode = .tune ∧ e.defn.persistent = true then
        exec (.set p q b) s = .next (s.refused p q kSet .notPermitted r.id)
      else if ∃ u ∈ f.undo, u.id = r.id then
        exec (.set p q b) s = .next
          { s.answered p q kSet (.reply kSet (.set false s.stack.free)) true with
            catalog := { s.catalog with entries := setWorking s.catalog.entries r.id v } }
      else if s.stack.free = 0 then exec (.set p q b) s = .next (s.refused p q kSet .poolFull r.id)
      else
        exec (.set p q b) s = .next
          { s.answered p q kSet (.reply kSet (.set true (s.stack.free - 1))) true with
            catalog := { s.catalog with entries := setWorking s.catalog.entries r.id v }
            stack :=
              { s.stack with
                frames := { f with undo := f.undo ++ [{ id := r.id, prior := e.working }] } :: fs
                free := s.stack.free - 1 } }) ∧
  (∀ (es : List Entry) (view : Entry → Value) (id : Nat) (w : WireValue),
    (findEntry es id = none → valueCheck es view id w = .error .noSuchId) ∧
    (∀ e, findEntry es id = some e →
      if e.defn.constant = true then valueCheck es view id w = .error .constant
      else
        let linked := fun (n : Int) =>
          (e.defn.link = 0 → valueCheck es view id w = .ok (.num n)) ∧
          (e.defn.link ≠ 0 → ∀ t b, findEntry es e.defn.link = some t → view t = .num b →
            valueCheck es view id w = if n ≤ b then .ok (.num n) else .error .linkViolation)
        match e.defn.shape, w with
        | .unsigned wd lo hi, .number raw =>
          if raw.toNat < 2 ^ (8 * wd) ∧ lo ≤ raw.toNat ∧ raw.toNat ≤ hi then linked raw.toNat
          else valueCheck es view id w = .error .outOfRange
        | .signed wd lo hi, .number raw =>
          if -(2 ^ (8 * wd - 1) : Int) ≤ raw.toInt ∧ raw.toInt < (2 ^ (8 * wd - 1) : Int) ∧ lo ≤ raw.toInt ∧ raw.toInt ≤ hi then
            linked raw.toInt
          else valueCheck es view id w = .error .outOfRange
        | .choice cs, .number raw =>
          if raw.toInt ∈ cs then linked raw.toInt else valueCheck es view id w = .error .notAChoice
        | .text m, .text bs =>
          if bs.length ≤ m then e.defn.link = 0 → valueCheck es view id w = .ok (.text bs)
          else valueCheck es view id w = .error .tooLong
        | .text _, .number _ => valueCheck es view id w = .error .outOfRange
        | _, .text _ => valueCheck es view id w = .error .outOfRange))

/-- GET reports to the owner the working value and whether it differs from the committed one, to any other port the committed value
with the staged flag clear, to both the version, and changes nothing else; every port may make it (R34, R41). -/
def Obligations.GetReportsThePortsView : Prop :=
  (∀ (p : Port) (s : State), s.permits p kGet = true) ∧
  (∀ (p : Port) (q a b : Byte) (s : State), s.Reaches p q kGet →
    if s.catalog.state ≠ .sealed then exec (.get p q [a, b]) s = .next (s.refused p q kGet .wrongState 0)
    else match findEntry s.catalog.entries (be16 a b) with
      | none => exec (.get p q [a, b]) s = .next (s.refused p q kGet .noSuchId 0)
      | some e =>
        (s.stack.owner = some p →
          exec (.get p q [a, b]) s = .next (s.answered p q kGet
            (.reply kGet (.get e.version (decide (e.working ≠ e.committed)) e.working)) true)) ∧
        (s.stack.owner ≠ some p →
          exec (.get p q [a, b]) s = .next (s.answered p q kGet (.reply kGet (.get e.version false e.committed)) true)))

/-- ROLLBACK: its own checks in order; accepted, it restores the top frame's records, frees them and removes the frame, and at depth
0 releases ownership with its notices. Restoring gives each entry with a record its prior working value and leaves every other entry,
and every committed value and version, as they were (R27, R31, R43, R45). -/
def Obligations.RollbackRemovesTheTopFrame : Prop :=
  (∀ (p : Port) (q : Byte) (b : List Byte) (label : Option (List Byte)) (s : State),
    s.Reaches p q kRollback → readLabel b = some label →
    if s.catalog.state ≠ .sealed then exec (.rollback p q b) s = .next (s.refused p q kRollback .wrongState 0)
    else match s.stack.frames with
    | [] => exec (.rollback p q b) s = .next (s.refused p q kRollback .stackEmpty 0)
    | f :: fs =>
      if s.stack.owner ≠ some p then exec (.rollback p q b) s = .next (s.refused p q kRollback .notOwner 0)
      else if s.commit ≠ none then exec (.rollback p q b) s = .next (s.refused p q kRollback .commitPending 0)
      else if (s.port p).bulk.locks = true then exec (.rollback p q b) s = .next (s.refused p q kRollback .bulkActive 0)
      else if label ≠ none ∧ f.label ≠ label then exec (.rollback p q b) s = .next (s.refused p q kRollback .wrongState 0)
      else
        let free := s.stack.free + f.undo.length
        let answer := s.answered p q kRollback (.reply kRollback (.rollback fs.length f.undo.length f.label free)) true
        let catalog := { s.catalog with entries := restoreAll f.undo s.catalog.entries }
        (fs ≠ [] →
          exec (.rollback p q b) s = .next
            { answer with catalog := catalog, stack := { s.stack with frames := fs, free := free } }) ∧
        (fs = [] →
          exec (.rollback p q b) s = .next
            ((({ answer with catalog := catalog, stack := { frames := [], owner := none, free := free } } : State).stopLease
              p).noticeBoth (.ownerChanged none)))) ∧
  (∀ (us : List Undo) (es : List Entry), (us.map (fun u => u.id)).Nodup →
    restoreAll us es = es.map (fun e =>
      match us.find? (fun u => u.id == e.defn.id) with
      | some u => { e with live := e.live.map (fun l => { l with working := u.prior }) }
      | none => e))

/-- MERGE: its own checks in order; accepted, it moves the records whose id the parent does not hold to the end of the parent's list,
returns the others, removes the top frame and changes no value (R46, R47). -/
def Obligations.MergeFoldsTheTopFrame : Prop :=
  ∀ (p : Port) (q : Byte) (b : List Byte) (label : Option (List Byte)) (s : State),
    s.Reaches p q kMerge → readLabel b = some label →
    if s.catalog.state ≠ .sealed then exec (.merge p q b) s = .next (s.refused p q kMerge .wrongState 0)
    else match s.stack.frames with
    | [] => exec (.merge p q b) s = .next (s.refused p q kMerge .stackEmpty 0)
    | [_] => exec (.merge p q b) s = .next (s.refused p q kMerge .stackEmpty 0)
    | f :: g :: fs =>
      if s.stack.owner ≠ some p then exec (.merge p q b) s = .next (s.refused p q kMerge .notOwner 0)
      else if s.commit ≠ none then exec (.merge p q b) s = .next (s.refused p q kMerge .commitPending 0)
      else if (s.port p).bulk.locks = true then exec (.merge p q b) s = .next (s.refused p q kMerge .bulkActive 0)
      else if label ≠ none ∧ f.label ≠ label then exec (.merge p q b) s = .next (s.refused p q kMerge .wrongState 0)
      else
        let moved := f.undo.filter (fun u => !(g.undo.any (fun w => w.id == u.id)))
        let returned := f.undo.length - moved.length
        exec (.merge p q b) s = .next
          { s.answered p q kMerge
              (.reply kMerge (.merge (fs.length + 1) moved.length returned f.label (s.stack.free + returned))) true with
            stack :=
              { s.stack with frames := { g with undo := g.undo ++ moved } :: fs, free := s.stack.free + returned } }

/-- ABANDON: its own checks in order; accepted, it rolls back every frame from the top down and releases ownership, with one
OWNER_CHANGED naming no owner to each port (R31, R48, R49). -/
def Obligations.AbandonEmptiesTheStack : Prop :=
  ∀ (p : Port) (q : Byte) (s : State), s.Reaches p q kAbandon →
    if s.catalog.state ≠ .sealed then exec (.abandon p q []) s = .next (s.refused p q kAbandon .wrongState 0)
    else if s.stack.frames = [] then exec (.abandon p q []) s = .next (s.refused p q kAbandon .stackEmpty 0)
    else if s.stack.owner ≠ some p then exec (.abandon p q []) s = .next (s.refused p q kAbandon .notOwner 0)
    else if s.commit ≠ none then exec (.abandon p q []) s = .next (s.refused p q kAbandon .commitPending 0)
    else if (s.port p).bulk.locks = true then exec (.abandon p q []) s = .next (s.refused p q kAbandon .bulkActive 0)
    else
      let free := s.stack.free + s.inUse
      exec (.abandon p q []) s = .next
        ((({ s.answered p q kAbandon (.reply kAbandon (.abandon s.stack.frames.length s.inUse free)) true with
            catalog := { s.catalog with entries := restoreFrames s.stack.frames s.catalog.entries }
            stack := { frames := [], owner := none, free := free } } : State).stopLease p).noticeBoth (.ownerChanged none))

/-- Every step conserves the undo pool: free records and records in use number 192 (R28). -/
def Obligations.UndoPoolIsConserved : Prop :=
  ∀ s t : State, s.PoolConserved → step s = .next t → t.PoolConserved

/-- Every step keeps the depth at most 8 and an owner exactly while the depth is above 0 (R24). -/
def Obligations.DepthAndOwnerStayBound : Prop :=
  ∀ s t : State, s.StackBounded → step s = .next t → t.StackBounded

/-- Every step keeps the owner's rights coherent: ownership, leases, locking transfers and a commit in flight exist in SEALED from
READY on only, belong to one port, and hold the stack as R51 and R70 state. -/
def Obligations.OwnershipStaysCoherent : Prop :=
  ∀ s t : State, s.StackBounded → s.Coherent → step s = .next t → t.Coherent

/-- Every step keeps the staged values restorable, and so at depth 0 every entry's working value equals its committed value (R34). -/
def Obligations.ViewsAgreeAtDepthZero : Prop :=
  (∀ s t : State, s.StackBounded → s.Coherent → s.IdsAscending → s.UndoDistinct → s.ChangesFixed → s.ViewsRestorable →
    step s = .next t → t.UndoDistinct ∧ t.ChangesFixed ∧ t.ViewsRestorable) ∧
  (∀ s : State, s.ViewsRestorable → s.stack.frames = [] → ∀ e ∈ s.catalog.entries, e.working = e.committed)

/-! ### Commit (chapter 3) -/

/-- A COMMIT that fails a check is refused with the code and id of the first in order and changes nothing else.
The link check fails at the lowest entry of its check set, the entries with a record in frame 1 and those linked to one, whose working
value is above that of the entry it links to, and passes where there is none (R52, R54, R55). -/
def Obligations.RefusedCommitChangesNothing : Prop :=
  (∀ (p : Port) (q : Byte) (run : Bool) (s : State), s.Reaches p q kCommit →
    (s.catalog.state ≠ .sealed → exec (.commit p q [] run) s = .next (s.refused p q kCommit .wrongState 0)) ∧
    (s.catalog.state = .sealed → s.stack.owner ≠ some p →
      exec (.commit p q [] run) s = .next (s.refused p q kCommit .notOwner 0)) ∧
    (s.catalog.state = .sealed → s.stack.owner = some p → s.stack.frames.length ≠ 1 →
      exec (.commit p q [] run) s = .next (s.refused p q kCommit .nestedOpen 0)) ∧
    (s.catalog.state = .sealed → s.stack.owner = some p → s.stack.frames.length = 1 → s.commit ≠ none →
      exec (.commit p q [] run) s = .next (s.refused p q kCommit .commitPending 0)) ∧
    (s.catalog.state = .sealed → s.stack.owner = some p → s.stack.frames.length = 1 → s.commit = none →
      ((s.port p).bulk.active = true → exec (.commit p q [] run) s = .next (s.refused p q kCommit .bulkActive 0)) ∧
      ((s.port p).bulk.active = false →
        (∀ id, s.runFailure run = some id → exec (.commit p q [] run) s = .next (s.refused p q kCommit .runActive id)) ∧
        (s.runFailure run = none →
          (∀ id, s.linkFailure = some id →
            exec (.commit p q [] run) s = .next (s.refused p q kCommit .linkViolation id)) ∧
          (s.linkFailure = none →
            (s.ctl.supply = .warn → exec (.commit p q [] run) s = .next (s.refused p q kCommit .supplyLow 0)) ∧
            (s.ctl.supply = .normal → s.store.mode = .readOnly ∨ 4294967295 ≤ s.store.durable →
              exec (.commit p q [] run) s = .next (s.refused p q kCommit .storeReadOnly 0))))))) ∧
  (∀ s : State,
    let inFrame := fun (id : Nat) => ∃ f fs, s.stack.frames = f :: fs ∧ ∃ u ∈ f.undo, u.id = id
    let inSet := fun (e : Entry) => inFrame e.defn.id ∨ (e.defn.link ≠ 0 ∧ inFrame e.defn.link)
    let fails := fun (e : Entry) => e.defn.link ≠ 0 ∧ ∃ t a b, findEntry s.catalog.entries e.defn.link = some t ∧
      e.working = .num a ∧ t.working = .num b ∧ b < a
    (∀ id, s.linkFailure = some id → ∃ e ∈ s.catalog.entries, e.defn.id = id ∧ inSet e ∧ fails e) ∧
    (s.IdsAscending → ∀ id, s.linkFailure = some id → ∀ e ∈ s.catalog.entries, e.defn.id < id → inSet e → ¬ fails e) ∧
    (s.linkFailure = none → ∀ e ∈ s.catalog.entries, inSet e → ¬ fails e))

/-- The run check fails at the lowest stop-only entry that frame 1 changes while RUN is asserted, and passes where there is none
(R53). -/
def Obligations.RunCheckGuardsStopOnlyEntries : Prop :=
  ∀ s : State, s.runFailure false = none ∧
    (∀ id, s.runFailure true = some id →
      ∃ e ∈ s.catalog.entries, e.defn.id = id ∧ e.defn.stopOnly = true ∧ e.working ≠ e.committed ∧
        ∃ f fs, s.stack.frames = f :: fs ∧ ∃ u ∈ f.undo, u.id = id) ∧
    (s.IdsAscending → ∀ id, s.runFailure true = some id → ∀ e ∈ s.catalog.entries, e.defn.id < id → e.defn.stopOnly = true →
      s.recorded e.defn.id = true → e.working = e.committed) ∧
    (s.runFailure true = none → ∀ e ∈ s.catalog.entries, e.defn.stopOnly = true → s.recorded e.defn.id = true →
      e.working = e.committed)

/-- An accepted COMMIT is in flight under the next number with the changed entries of frame 1, its persistent entries pending at the
store, the owner's lease stopped and no answer placed, whatever the store is doing and whatever compaction is. A group that lacks room, or
that waits for an image owed since a start with NO_IMAGE, makes compaction REQUESTED where it is none (R89; that an owed image is asked
for in this way is the model's choice, log 36). Beside an operation in progress the group waits. Where the store is IDLE and no sector is
STALE or ERASING, the append of the group starts at once if no compaction is REQUESTED. A requested compaction starts if its image fits,
and where it does not fit and no sector is STALE or ERASING, the store enters READ_ONLY with its notice, and the COMMIT is refused with
STORE_READ_ONLY (R56, R57, R66, R83, R88 to R93, R99; the record of a sector being opened is log 23, the REFUSE before the notice log 27).
While an image is owed, no step starts the append of a group before one has closed (R118). -/
def Obligations.AcceptedCommitIsInFlight : Prop :=
  (∀ (p : Port) (q : Byte) (run : Bool) (s : State), s.Reaches p q kCommit → s.commitCheck p run = none →
    let change := fun (e : Entry) => ({ id := e.defn.id, value := e.working, version := (e.version + 1) % 65536 } : Change)
    let changed := s.catalog.entries.filter (fun e => s.recorded e.defn.id && decide (e.working ≠ e.committed))
    let entries := (changed.filter (fun e => e.defn.persistent)).map change
    let number := s.store.durable + 1
    let group := groupSlots .commit number entries
    let image := groupSlots .image s.store.durable ((s.catalog.entries.filter (fun e => e.defn.persistent)).map
      (fun e => { id := e.defn.id, value := e.committed, version := e.version }))
    let closed : Store := { s.store with
      table := s.store.table.map (fun y => if y.role = .filling then { y with role := .full } else y) }
    let place := fun (a : Attempt) =>
      if a = .first ∧ s.store.filling ≠ none ∧ s.store.reserve ≤ s.store.left then s.store else closed
    let asked := if s.store.compaction = .none ∧ (s.store.imageOwed = true ∨ s.store.freeSpace < group.length) then
      Compaction.requested .first else s.store.compaction
    let clean := ∀ x ∈ s.store.table, x.role ≠ .stale ∧ x.role ≠ .erasing
    ∃ t, exec (.commit p q [] run) s = .next t ∧ t.stack = s.stack ∧ t.catalog = s.catalog ∧ t.nv = s.nv ∧
      t.store.durable = s.store.durable ∧
      (s.store.operation ≠ .idle ∨ ¬ clean ∨ (∀ a, asked = .requested a → image.length ≤ (place a).freeSpace) →
        ∃ c, t.commit = some c ∧ c.port = p ∧ c.seq = q ∧ c.number = number ∧ c.suppressed = false ∧
          c.changes = changed.map change ∧ c.persistentCount = (changed.filter (fun e => e.defn.persistent)).length ∧
          t.store.pend = some { number := number, entries := entries, attempt := .first } ∧
          (t.port p).lease = .stopped ∧ (t.port p).outbound = (s.port p).outbound ∧
          (t.port p).outstanding = (s.port p).outstanding ++ [{ seq := q, kind := kCommit }] ∧
          t.port (otherPort p) = s.port (otherPort p)) ∧
      (s.store.operation ≠ .idle → t.store = { s.store with pend := t.store.pend, compaction := asked }) ∧
      (s.store.operation = .idle → clean → asked = .none →
        t.store.operation = .appending ∧ t.store.compaction = .none ∧
        (∃ w, t.store.writing = some w ∧ w.kind = .commit ∧ w.attempt = .first ∧ w.remaining = group) ∧
        s.store.Starts s.nv.base (.openMark .commit number) t.store) ∧
      (s.store.operation = .idle → ∀ a, asked = .requested a → image.length ≤ (place a).freeSpace →
        t.store.operation = .compacting ∧ t.store.compaction = .running a ∧
        (∃ w, t.store.writing = some w ∧ w.attempt = a ∧ w.remaining = image) ∧
        (place a).Starts s.nv.base (.openMark .image s.store.durable) t.store) ∧
      (s.store.operation = .idle → clean → ∀ a, asked = .requested a → (place a).freeSpace < image.length →
        t.store.mode = .readOnly ∧ t.store.compaction = .none ∧ t.store.pend = none ∧ t.commit = none ∧
        (∀ r, (t.port r).notices = ((s.port r).takeNotice
          (.storeReadOnly (s.store.table.filter (fun x => decide (x.role = .retired))).length)).notices) ∧
        (t.port p).outbound = (s.port p).outbound ++ [{ seq := q, body := .refuse kCommit .storeReadOnly 0 }])) ∧
  (∀ s t : State, s.store.imageOwed = true → s.store.operation ≠ .appending → step s = .next t →
    t.store.operation ≠ .appending ∨ t.store.imageOwed = false)

/-- The program of the close mark of a COMMIT group is the durability point: the change list becomes the committed values and
versions, the durable number the commit's, frame 1 and ownership are gone, and the Commit Unit is IDLE. Each port is handed the
CHANGED notices its filter matches in the order of the change list, then OWNER_CHANGED naming no owner (then STORE_READ_ONLY with the
number of RETIRED ring sectors, where the store's next choice enters that mode), and unless suppressed the REPLY with the counts is
placed in the same event (R61 to R65, R90, R151; that it leaves before the notices is the model's choice, log 27). -/
def Obligations.CloseMarkIsTheDurabilityPoint : Prop :=
  ∀ (s : State) (k : Nat) (m : Slot) (g : GroupWrite) (c : InFlight) (f : Frame) (mapOk : Bool),
    s.store.arrayOp = .slot k m → s.store.writing = some g → g.remaining = [m] → s.store.operation = .appending →
    s.commit = some c → s.stack.frames = [f] →
    ∃ t, exec (.slotProgramDone true mapOk) s = .next t ∧
      t.catalog = { s.catalog with entries := s.catalog.entries.map (fun e =>
        match c.changes.find? (fun x => x.id == e.defn.id) with
        | some x => { e with live := e.live.map (fun l => { l with committed := x.value, version := x.version }) }
        | none => e) } ∧
      t.store.durable = c.number ∧ t.stack = { frames := [], owner := none, free := s.stack.free + f.undo.length } ∧
      t.commit = none ∧ t.store.pend = none ∧ t.nv = s.nv.appendSlot k m ∧ t.ctl = s.ctl ∧
      (∃ ns : List Notice, (ns = [] ∨
          ns = [.storeReadOnly (s.store.table.filter (fun x => decide (x.role = .retired))).length]) ∧
        ∀ p : Port, (t.port p).notices =
          (((c.changes.filter (fun x => (s.port p).watch.any (fun r => decide (r.lo ≤ x.id ∧ x.id ≤ r.hi)))).map
            (fun x => Notice.changed x.id x.version c.number) ++ [Notice.ownerChanged none] ++ ns).foldl
              PortState.takeNotice (s.port p)).notices) ∧
      (∀ p, s.stack.owner = some p → (t.port p).lease = .stopped) ∧
      (∀ p, p ≠ c.port → (t.port p).outbound = (s.port p).outbound) ∧
      (c.suppressed = true → (t.port c.port).outbound = (s.port c.port).outbound) ∧
      (c.suppressed = false → (∃ o ∈ (s.port c.port).outstanding, o.seq = c.seq) →
        (t.port c.port).outbound = (s.port c.port).outbound ++
          [{ seq := c.seq
             body := .reply kCommit (.commit c.number c.changes.length c.persistentCount (s.stack.free + f.undo.length)) }])

/-- A program failure of a COMMIT group, in a slot or in the header of a sector being opened, retires its sector; no value, version or
number changes and frame 1 stays. A first failure is rewritten from its open mark in the next FREE sector with the restart flag set,
while the mode is WRITABLE, the supply NORMAL, the group fits there and no image is owed. Lacking room alone it stays pending as attempt 2
and compaction is asked for as attempt 1: its image begins at once in the next FREE sector where it fits, and where it does not fit and
nothing can be erased (no sector is STALE while a group is appended, R88) the store enters READ_ONLY and the append ends with
STORE_READ_ONLY. In WARN it ends with SUPPLY_LOW, and where the retirement makes the mode READ_ONLY with STORE_READ_ONLY and its notice; a
second failure ends with STORE_FAULT (R66, R83, R89, R91 to R93, R96, R98, R99, R118; STORE_READ_ONLY before SUPPLY_LOW is the model's
choice, log 28, and so is that the generation of a sector whose header failed counts as one of the table's, log 23). A failure of a
compaction image retires its sector too: a first image is begun again as attempt 2 in the next FREE
sector with the restart flag set where it fits, is requested as attempt 2 where STALE sectors can be erased first, and else the store
enters READ_ONLY; a second one ends the compaction, which is requested again for a pending append that lacks room; and where the
retirement makes the mode READ_ONLY it is not begun again (R88, R91, R93, R96, R97, R99). STORE_READ_ONLY names the number of RETIRED
ring sectors (R151). The initial image of SEAL is begun again once, with the generation one higher, and SEAL fails with STORE_FAULT after
a second failure (R103), or where the FREE sectors left by a first one do not hold the image: that the room is tested again there is read
from R103 by inference (log 16, DEDUCED). -/
def Obligations.FailedAppendLeavesTheFrame : Prop :=
  (∀ (s : State) (k : Nat) (g : GroupWrite) (a : PendingAppend) (c : InFlight) (mapOk : Bool),
    (∃ m, s.store.arrayOp = .slot k m) ∨ (∃ n f, s.store.arrayOp = .header k n f) → s.store.writing = some g →
    s.store.operation = .appending → s.store.pend = some a → s.commit = some c → 4 ≤ k →
    let usable := (s.store.table.filter (fun x => decide (x.role ≠ .retired ∧ x.sector ≠ k))).length
    let free := (s.store.table.filter (fun x => decide (x.role = .free ∧ x.sector ≠ k))).length
    let retired := (s.store.table.filter (fun x => decide (x.role = .retired ∨ x.sector = k))).length
    let group := groupSlots .commit a.number a.entries
    let image := groupSlots .image s.store.durable ((s.catalog.entries.filter (fun e => e.defn.persistent)).map
      (fun e => { id := e.defn.id, value := e.committed, version := e.version }))
    ∃ t, exec (.slotProgramDone false mapOk) s = .next t ∧ t.catalog = s.catalog ∧ t.stack = s.stack ∧
      t.store.durable = s.store.durable ∧ (∀ x ∈ t.store.table, x.sector = k → x.role = .retired) ∧
      (mapOk = true → k ∈ t.nv.retireMap) ∧
      (a.attempt = .second → t.commit = none ∧ t.store.pend = none ∧
        (t.port c.port).lease = leaseOf (s.leasePeriod c.port)) ∧
      (a.attempt = .second → c.suppressed = false → (∃ o ∈ (s.port c.port).outstanding, o.seq = c.seq) →
        (t.port c.port).outbound = (s.port c.port).outbound ++ [{ seq := c.seq, body := .refuse kCommit .storeFault 0 }]) ∧
      (a.attempt = .first → s.store.mode = .writable → 2 * s.store.reserve + 4 ≤ usable → s.ctl.supply = .normal →
        group.length ≤ 255 * free → s.store.imageOwed = false →
        ∀ j, (ringOrderAfter s.store.openedLast).find? (fun i =>
          decide (i ≠ k) && (s.store.rec? i).any (fun x => decide (x.role = .free))) = some j →
        t.commit = s.commit ∧ t.portA = s.portA ∧ t.portB = s.portB ∧ t.store.operation = .appending ∧
        t.store.pend = some { a with attempt := .second } ∧
        (∃ w, t.store.writing = some w ∧ w.attempt = .second ∧ w.remaining = group) ∧
        (∃ n, t.store.arrayOp = .header j n true ∧ ∀ x ∈ s.store.table, ∀ h, x.generation = some h → h < n) ∧
        (∀ x ∈ t.store.table, x.role = .filling → x.sector = j)) ∧
      (a.attempt = .first → s.store.mode = .writable → 2 * s.store.reserve + 4 ≤ usable → s.ctl.supply = .normal →
        255 * free < group.length → s.store.compaction = .none → s.catalog.state = .sealed → s.ctl.start = .ready →
        (image.length ≤ 255 * free →
          t.commit = s.commit ∧ t.portA = s.portA ∧ t.portB = s.portB ∧ t.store.pend = some { a with attempt := .second } ∧
          t.store.operation = .compacting ∧ t.store.compaction = .running .first ∧
          (∃ w, t.store.writing = some w ∧ w.attempt = .first ∧ w.remaining = image) ∧
          ∀ j, (ringOrderAfter s.store.openedLast).find? (fun i =>
            decide (i ≠ k) && (s.store.rec? i).any (fun x => decide (x.role = .free))) = some j →
            ∃ n, t.store.arrayOp = .header j n true ∧ ∀ x ∈ s.store.table, ∀ h, x.generation = some h → h < n) ∧
        (255 * free < image.length → (∃ x ∈ s.store.table, x.sector ≠ k ∧ x.role = .stale) →
          t.commit = s.commit ∧ t.portA = s.portA ∧ t.portB = s.portB ∧ t.store.pend = some { a with attempt := .second } ∧
          t.store.operation = .erasing ∧ t.store.compaction = .requested .first) ∧
        (255 * free < image.length → (∀ x ∈ s.store.table, x.sector ≠ k → x.role ≠ .stale ∧ x.role ≠ .erasing) →
          t.store.mode = .readOnly ∧ t.store.compaction = .none ∧ t.store.pend = none ∧ t.commit = none ∧
          (∀ p, (t.port p).notices = ((s.port p).takeNotice (.storeReadOnly retired)).notices) ∧
          (c.suppressed = false → (∃ o ∈ (s.port c.port).outstanding, o.seq = c.seq) →
            (t.port c.port).outbound =
              (s.port c.port).outbound ++ [{ seq := c.seq, body := .refuse kCommit .storeReadOnly 0 }]))) ∧
      (a.attempt = .first → c.suppressed = false → (∃ o ∈ (s.port c.port).outstanding, o.seq = c.seq) →
        (s.ctl.supply = .warn → s.store.mode = .writable → 2 * s.store.reserve + 4 ≤ usable →
          t.commit = none ∧ t.store.pend = none ∧
          (t.port c.port).outbound = (s.port c.port).outbound ++ [{ seq := c.seq, body := .refuse kCommit .supplyLow 0 }]) ∧
        (s.store.mode = .writable → usable < 2 * s.store.reserve + 4 →
          t.commit = none ∧ t.store.pend = none ∧ t.store.mode = .readOnly ∧
          (∀ p, (t.port p).notices = ((s.port p).takeNotice (.storeReadOnly retired)).notices) ∧
          (t.port c.port).outbound =
            (s.port c.port).outbound ++ [{ seq := c.seq, body := .refuse kCommit .storeReadOnly 0 }]))) ∧
  (∀ (s : State) (k : Nat) (g : GroupWrite) (mapOk : Bool),
    (∃ m, s.store.arrayOp = .slot k m) ∨ (∃ n f, s.store.arrayOp = .header k n f) → s.store.writing = some g →
    s.store.operation = .compacting → 4 ≤ k → s.catalog.state = .sealed → s.ctl.start = .ready → s.ctl.supply = .normal →
    s.store.mode = .writable →
    let usable := (s.store.table.filter (fun x => decide (x.role ≠ .retired ∧ x.sector ≠ k))).length
    let free := (s.store.table.filter (fun x => decide (x.role = .free ∧ x.sector ≠ k))).length
    let retired := (s.store.table.filter (fun x => decide (x.role = .retired ∨ x.sector = k))).length
    let image := groupSlots .image s.store.durable ((s.catalog.entries.filter (fun e => e.defn.persistent)).map
      (fun e => { id := e.defn.id, value := e.committed, version := e.version }))
    ∃ t, exec (.slotProgramDone false mapOk) s = .next t ∧ t.catalog = s.catalog ∧ t.stack = s.stack ∧
      t.store.durable = s.store.durable ∧ (∀ x ∈ t.store.table, x.sector = k → x.role = .retired) ∧
      (mapOk = true → k ∈ t.nv.retireMap) ∧
      (2 * s.store.reserve + 4 ≤ usable → g.attempt = .first → image.length ≤ 255 * free →
        ∀ j, (ringOrderAfter s.store.openedLast).find? (fun i =>
          decide (i ≠ k) && (s.store.rec? i).any (fun x => decide (x.role = .free))) = some j →
        t.commit = s.commit ∧ t.portA = s.portA ∧ t.portB = s.portB ∧ t.store.pend = s.store.pend ∧
        t.store.operation = .compacting ∧ t.store.compaction = .running .second ∧
        (∃ w, t.store.writing = some w ∧ w.attempt = .second ∧ w.remaining = image) ∧
        (∃ n, t.store.arrayOp = .header j n true ∧ ∀ x ∈ s.store.table, ∀ h, x.generation = some h → h < n) ∧
        (∀ x ∈ t.store.table, x.role = .filling → x.sector = j)) ∧
      (2 * s.store.reserve + 4 ≤ usable → g.attempt = .first → 255 * free < image.length →
        ((∃ x ∈ s.store.table, x.sector ≠ k ∧ x.role = .stale) →
          t.commit = s.commit ∧ t.portA = s.portA ∧ t.portB = s.portB ∧ t.store.pend = s.store.pend ∧ t.store.writing = none ∧
          t.store.operation = .erasing ∧ t.store.compaction = .requested .second) ∧
        ((∀ x ∈ s.store.table, x.sector ≠ k → x.role ≠ .stale ∧ x.role ≠ .erasing) →
          t.store.mode = .readOnly ∧ t.store.compaction = .none ∧ t.store.pend = none ∧ t.store.writing = none ∧
          ∀ p, (t.port p).notices = ((s.port p).takeNotice (.storeReadOnly retired)).notices)) ∧
      (2 * s.store.reserve + 4 ≤ usable → g.attempt = .second →
        (s.store.pend = none → t.commit = s.commit ∧ t.portA = s.portA ∧ t.portB = s.portB ∧ t.store.writing = none ∧
          t.store.compaction = .none ∧ t.store.operation ≠ .compacting) ∧
        (∀ a, s.store.pend = some a → 255 * free < (groupSlots .commit a.number a.entries).length →
          (image.length ≤ 255 * free →
            t.commit = s.commit ∧ t.portA = s.portA ∧ t.portB = s.portB ∧ t.store.pend = some a ∧
            t.store.operation = .compacting ∧ t.store.compaction = .running .first) ∧
          (255 * free < image.length → (∃ x ∈ s.store.table, x.sector ≠ k ∧ x.role = .stale) →
            t.commit = s.commit ∧ t.portA = s.portA ∧ t.portB = s.portB ∧ t.store.pend = some a ∧
            t.store.operation = .erasing ∧ t.store.compaction = .requested .first) ∧
          (255 * free < image.length → (∀ x ∈ s.store.table, x.sector ≠ k → x.role ≠ .stale ∧ x.role ≠ .erasing) →
            t.store.mode = .readOnly ∧ t.store.compaction = .none ∧ t.store.pend = none ∧ t.commit = none ∧
            ∀ p, (t.port p).notices = ((s.port p).takeNotice (.storeReadOnly retired)).notices))) ∧
      (usable < 2 * s.store.reserve + 4 →
        t.store.mode = .readOnly ∧ t.store.compaction = .none ∧ t.store.pend = none ∧ t.store.writing = none ∧
        ∀ p, (t.port p).notices = ((s.port p).takeNotice (.storeReadOnly retired)).notices)) ∧
  (∀ (s : State) (k : Nat) (g : GroupWrite) (q : Byte) (mapOk : Bool),
    (∃ m, s.store.arrayOp = .slot k m) ∨ (∃ n f, s.store.arrayOp = .header k n f) → s.store.writing = some g →
    s.store.operation = .catalogWrite → s.catalog.request = some q → (∃ o ∈ s.portA.outstanding, o.seq = q) →
    let free := (s.store.table.filter (fun x => decide (x.role = .free ∧ x.sector ≠ k))).length
    let image := groupSlots .image 0 ((s.catalog.entries.filter (fun e => e.defn.persistent)).map
      (fun e => { id := e.defn.id, value := e.defn.default, version := 0 }))
    ∃ t, exec (.slotProgramDone false mapOk) s = .next t ∧ t.stack = s.stack ∧ t.commit = s.commit ∧ t.portB = s.portB ∧
      (∀ x ∈ t.store.table, x.sector = k → x.role = .retired) ∧ (mapOk = true → k ∈ t.nv.retireMap) ∧
      (g.attempt = .first → image.length ≤ 255 * free →
        ∀ j, (ringOrderAfter s.store.openedLast).find? (fun i =>
          decide (i ≠ k) && (s.store.rec? i).any (fun x => decide (x.role = .free))) = some j →
        t.catalog = s.catalog ∧ t.portA = s.portA ∧ t.store.operation = .catalogWrite ∧
        (∃ w, t.store.writing = some w ∧ w.attempt = .second ∧ w.remaining = image) ∧
        ∃ n, t.store.arrayOp = .header j n true ∧ ∀ x ∈ s.store.table, ∀ h, x.generation = some h →
          (∀ y ∈ s.store.table, ∀ d, y.generation = some d → d ≤ h) → n = h + 1) ∧
      (g.attempt = .second ∨ 255 * free < image.length →
        t.catalog = { s.catalog with state := .building, request := none } ∧ t.store.operation = .idle ∧
        t.store.mode = .writable ∧ t.store.compaction = .none ∧ t.store.durable = 0 ∧ t.store.reserve = 0 ∧ t.store.pend = none ∧
        t.store.table.map (fun x => (x.sector, x.role)) = s.store.table.map (fun x =>
          (x.sector, if x.sector = k then .retired else if x.role = .retired ∨ x.role = .free then x.role else .stale)) ∧
        t.portA.outbound = s.portA.outbound ++ [{ seq := q, body := .refuse kSeal .storeFault 0 }]))

/-- While the part stays READY, a step leaves the durable commit number, or raises it by exactly one, or the catalog is SEALING or
WIPING and it becomes 0 (R62). -/
def Obligations.DurableNumberStepsByOne : Prop :=
  ∀ s t : State, s.StackBounded → s.Coherent → step s = .next t → s.ctl.start = .ready → t.ctl.start = .ready →
    t.store.durable = s.store.durable ∨ t.store.durable = s.store.durable + 1 ∨
    (t.store.durable = 0 ∧ (s.catalog.state = .sealing ∨ s.catalog.state = .wiping))

/-! ### The Journal Store (chapter 5) -/

/-- A slot of a group that is programmed and verified joins its sector, and the program of the group's next slot starts: in the FILLING
sector, or after its slot 255 with the header of the next FREE sector, its generation one above the highest and its restart flag the
note. A header of a sector being opened that is programmed and verified holds its generation and flag, and the program of the group's
next slot starts in that sector. No value, frame or number changes before the close mark. The close mark of a compaction image makes the
FULL sectors of a generation below that of its first sector STALE, and the erase of a STALE sector without a generation, else of the
lowest, follows (R80, R81, R83 to R85, R88, R92, R94). R83 makes a sector FILLING once its header is programmed; that the table counts it
FILLING, with its generation and one slot in use, from the start of that program on, and that the end of the program leaves the table, is
the model's choice (log 23). -/
def Obligations.ProgrammedSlotJoinsItsSector : Prop :=
  (∀ (s : State) (k : Nat) (m n : Slot) (more : List Slot) (g : GroupWrite) (mapOk : Bool),
    s.store.arrayOp = .slot k m → s.store.writing = some g → g.remaining = m :: n :: more →
    let used := fun (x : SectorRec) =>
      if x.sector = k then
        { x with used := x.used + 1, role := if x.used + 1 = 256 ∧ x.role = .filling then .full else x.role }
      else x
    ∃ t, exec (.slotProgramDone true mapOk) s = .next t ∧
      t.nv.ring = s.nv.ring.map (fun x => if x.sector = k then { x with content := x.content ++ [m] } else x) ∧
      t.nv.area = s.nv.area ∧ t.nv.retireMap = s.nv.retireMap ∧
      (∃ g', t.store.writing = some g' ∧ g'.remaining = n :: more) ∧
      ({ s.store with table := s.store.table.map used } : Store).Starts s.nv.base n t.store ∧
      t.store.operation = s.store.operation ∧ t.store.durable = s.store.durable ∧ t.store.pend = s.store.pend ∧
      t.catalog = s.catalog ∧ t.stack = s.stack ∧ t.commit = s.commit ∧ t.portA = s.portA ∧ t.portB = s.portB ∧ t.ctl = s.ctl) ∧
  (∀ (s : State) (k d : Nat) (f : Bool) (n : Slot) (more : List Slot) (g : GroupWrite) (mapOk : Bool),
    s.store.arrayOp = .header k d f → s.store.writing = some g → g.remaining = n :: more →
    ∃ t, exec (.slotProgramDone true mapOk) s = .next t ∧
      t.nv.ring = s.nv.ring.map (fun x => if x.sector = k then { x with generation := .val d, restart := f } else x) ∧
      t.nv.area = s.nv.area ∧ t.nv.retireMap = s.nv.retireMap ∧
      (∃ g', t.store.writing = some g' ∧ g'.remaining = n :: more) ∧
      ((∃ x ∈ s.store.table, x.sector = k) → (∀ x ∈ s.store.table, x.role = .filling ↔ x.sector = k) →
        t.store.arrayOp = .slot k n ∧ t.store.table = s.store.table) ∧
      t.store.operation = s.store.operation ∧ t.store.durable = s.store.durable ∧ t.store.pend = s.store.pend ∧
      t.catalog = s.catalog ∧ t.stack = s.stack ∧ t.commit = s.commit ∧ t.portA = s.portA ∧ t.portB = s.portB ∧ t.ctl = s.ctl) ∧
  (∀ (s : State) (k h : Nat) (m : Slot) (g : GroupWrite) (b : GroupStart) (mapOk : Bool),
    s.store.arrayOp = .slot k m → s.store.writing = some g → g.remaining = [m] → s.store.operation = .compacting →
    g.begun = some b → b.generation = some h → s.ctl.start = .ready → s.ctl.supply = .normal → s.catalog.state = .sealed →
    let used := fun (x : SectorRec) =>
      if x.sector = k then
        { x with used := x.used + 1, role := if x.used + 1 = 256 ∧ x.role = .filling then .full else x.role }
      else x
    let table := (s.store.table.map used).map (fun x =>
      if x.role = .full ∧ x.generation.any (fun a => decide (a < h)) = true then { x with role := .stale } else x)
    (∃ x ∈ table, x.role = .stale) →
    ∃ t y, exec (.slotProgramDone true mapOk) s = .next t ∧ y ∈ table ∧ y.role = .stale ∧
      (y.generation = none ∨ ∃ a, y.generation = some a ∧
        ∀ x ∈ table, x.role = .stale → ∃ d, x.generation = some d ∧ a ≤ d) ∧
      t.store.table = table.map (fun x => if x.sector = y.sector then { x with role := .erasing } else x) ∧
      t.store.operation = .erasing ∧ t.store.arrayOp = .erase y.sector ∧ t.store.compaction = .none ∧
      t.store.pend = s.store.pend ∧ t.store.durable = s.store.durable ∧ t.nv = s.nv.appendSlot k m ∧
      t.catalog = s.catalog ∧ t.stack = s.stack ∧ t.commit = s.commit ∧ t.portA = s.portA ∧ t.portB = s.portB ∧ t.ctl = s.ctl)

/-- A stale sector erased without fault, with no append or compaction waiting, becomes FREE with no generation, one slot in use and its
erase count one higher, or is retired at 100000 erases. A sector without a count that reads takes the highest count in the ring as its
previous one, and as the model's choice 0 where no sector has one (log 44), and may so pass 100000 (log 40). After the last stale sector the append that waits starts with the slots of its
group, and a compaction that is REQUESTED starts with those of its image, at the write position or in a newly opened sector (R88 to R92,
R96). A failed verify retires the sector instead, and where that leaves fewer than 2R + 4 usable sectors the store enters READ_ONLY with
its notice, which names the number of RETIRED ring sectors (R151). A sector of the catalog area is erased in its turn; its failed verify
fails SEAL with STORE_FAULT, and is noted by WIPE, which goes on. A ring sector that SEAL or WIPE erases becomes FREE or is retired in
the same way, with no READ_ONLY test, and the next erase follows. After the last one SEAL programs the catalog area, with the generation
base one above the highest generation a RETIRED sector keeps, if the FREE sectors hold the initial image, and else fails with
STORE_FAULT; WIPE programs the retire map (R94, R97 to R99, R102 to R104). Choices of the model: a rewrite that waited closes off the
FILLING sector, and the flag of the sector it opens is the restart note (log 34); the record of a sector is FILLING with its generation
from the start of its header's program (log 23). -/
def Obligations.CleanEraseFreesTheSector : Prop :=
  (∀ (s : State) (k n : Nat) (mapOk : Bool),
    s.store.arrayOp = .erase k → 4 ≤ k → s.store.operation = .erasing → s.store.pend = none → s.store.compaction = .none →
    s.store.PreviousCount k n →
    ∃ t y, exec (.sectorEraseDone .clean mapOk) s = .next t ∧ t.store.rec? k = some y ∧
      y.eraseCount = some (n + 1) ∧ y.generation = none ∧ y.used = 1 ∧
      y.role = (if 100000 ≤ n + 1 then .retired else .free) ∧
      t.nv.ring = s.nv.ring.map (fun z => if z.sector = k then
        { z with eraseCount := .val (n + 1), generation := .blank, restart := false, content := [] } else z) ∧
      t.catalog = s.catalog ∧ t.stack = s.stack ∧ t.store.durable = s.store.durable) ∧
  (∀ (s : State) (k n : Nat) (mapOk : Bool),
    s.store.arrayOp = .erase k → 4 ≤ k → s.store.operation = .erasing → s.catalog.state = .sealed → s.ctl.start = .ready →
    s.ctl.supply = .normal → s.store.mode = .writable → s.store.PreviousCount k n → n < 99999 →
    (∀ y ∈ s.store.table, y.sector ≠ k → y.role ≠ .stale ∧ y.role ≠ .erasing) →
    let freed : Store := { s.store with table := s.store.table.map (fun y =>
      if y.sector = k then { y with role := .free, generation := none, eraseCount := some (n + 1), used := 1 } else y) }
    let closed : Store := { freed with table := freed.table.map (fun y => if y.role = .filling then { y with role := .full } else y) }
    let image := groupSlots .image s.store.durable ((s.catalog.entries.filter (fun e => e.defn.persistent)).map
      (fun e => { id := e.defn.id, value := e.committed, version := e.version }))
    (∀ a, s.store.pend = some a → s.store.compaction = .none → s.store.imageOwed = false →
      let place := if a.attempt = .first then freed else closed
      let group := groupSlots .commit a.number a.entries
      group.length ≤ place.freeSpace →
      ∃ t, exec (.sectorEraseDone .clean mapOk) s = .next t ∧ t.store.operation = .appending ∧ t.store.pend = some a ∧
        t.store.compaction = .none ∧ (∃ w, t.store.writing = some w ∧ w.attempt = a.attempt ∧ w.remaining = group) ∧
        place.Starts s.nv.base (.openMark .commit a.number) t.store ∧ t.store.durable = s.store.durable ∧
        t.catalog = s.catalog ∧ t.stack = s.stack ∧ t.commit = s.commit ∧ t.portA = s.portA ∧ t.portB = s.portB) ∧
    (∀ c, s.store.compaction = .requested c →
      let place := if c = .first ∧ freed.filling ≠ none ∧ s.store.reserve ≤ freed.left then freed else closed
      image.length ≤ place.freeSpace →
      ∃ t, exec (.sectorEraseDone .clean mapOk) s = .next t ∧ t.store.operation = .compacting ∧ t.store.pend = s.store.pend ∧
        t.store.compaction = .running c ∧ (∃ w, t.store.writing = some w ∧ w.attempt = c ∧ w.remaining = image) ∧
        place.Starts s.nv.base (.openMark .image s.store.durable) t.store ∧ t.store.durable = s.store.durable ∧
        t.catalog = s.catalog ∧ t.stack = s.stack ∧ t.commit = s.commit ∧ t.portA = s.portA ∧ t.portB = s.portB)) ∧
  (∀ (s : State) (k : Nat) (mapOk : Bool),
    s.store.arrayOp = .erase k → 4 ≤ k → s.store.operation = .erasing → s.store.compaction = .none →
    let usable := (s.store.table.filter (fun x => decide (x.role ≠ .retired ∧ x.sector ≠ k))).length
    let retired := (s.store.table.filter (fun x => decide (x.role = .retired ∨ x.sector = k))).length
    ∃ t, exec (.sectorEraseDone .verifyFail mapOk) s = .next t ∧
      (∀ x ∈ t.store.table, x.sector = k → x.role = .retired) ∧ (mapOk = true → k ∈ t.nv.retireMap) ∧
      (∀ z ∈ t.nv.ring, z.sector ≠ k → z ∈ s.nv.ring) ∧ t.nv.area = s.nv.area ∧
      t.catalog = s.catalog ∧ t.stack = s.stack ∧ t.store.durable = s.store.durable ∧ t.ctl = s.ctl ∧
      ((∃ x ∈ s.store.table, x.sector = k) → s.store.mode = .writable → usable < 2 * s.store.reserve + 4 →
        t.store.mode = .readOnly ∧ t.store.pend = none ∧
        (∀ p, (t.port p).notices = ((s.port p).takeNotice (.storeReadOnly retired)).notices) ∧
        (∀ a c, s.store.pend = some a → s.commit = some c → t.commit = none ∧
          (c.suppressed = false → (∃ o ∈ (s.port c.port).outstanding, o.seq = c.seq) →
            (t.port c.port).outbound =
              (s.port c.port).outbound ++ [{ seq := c.seq, body := .refuse kCommit .storeReadOnly 0 }]))) ∧
      (s.store.mode = .readOnly ∨ 2 * s.store.reserve + 4 ≤ usable → s.store.pend = none →
        t.store.mode = s.store.mode ∧ t.commit = s.commit ∧ t.portA = s.portA ∧ t.portB = s.portB)) ∧
  (∀ (s : State) (k j : Nat) (ts : List Task) (mapOk : Bool),
    s.store.arrayOp = .erase k → k < 4 → s.store.tasks = .erase j :: ts → s.ctl.supply = .normal →
    ∃ t, exec (.sectorEraseDone .clean mapOk) s = .next t ∧
      t.nv = { s.nv with
        area := s.nv.area.map (fun z => if z.sector = k then { z with place := .blank, content := [] } else z)
        retireMap := if k = 0 then [] else s.nv.retireMap } ∧
      t.store.arrayOp = .erase j ∧ t.store.tasks = ts ∧ t.store.operation = s.store.operation ∧
      t.catalog = s.catalog ∧ t.stack = s.stack ∧ t.commit = s.commit ∧ t.portA = s.portA ∧ t.portB = s.portB ∧ t.ctl = s.ctl) ∧
  (∀ (s : State) (k : Nat) (q : Byte) (mapOk : Bool), s.store.arrayOp = .erase k → k < 4 → s.catalog.request = some q →
    (∃ o ∈ s.portA.outstanding, o.seq = q) →
    (s.store.operation = .catalogWrite →
      ∃ t, exec (.sectorEraseDone .verifyFail mapOk) s = .next t ∧
        t.catalog = { s.catalog with state := .building, request := none } ∧ t.store.operation = .idle ∧
        t.store.mode = .writable ∧ t.store.compaction = .none ∧ t.store.durable = 0 ∧ t.store.pend = none ∧
        t.store.table.map (fun x => (x.sector, x.role)) = s.store.table.map (fun x =>
          (x.sector, if x.role = .retired ∨ x.role = .free then x.role else .stale)) ∧
        t.portA.outbound = s.portA.outbound ++ [{ seq := q, body := .refuse kSeal .storeFault 0 }] ∧ t.portB = s.portB) ∧
    (s.store.operation = .wipeErase → s.ctl.supply = .normal → ∀ j ts, s.store.tasks = .erase j :: ts →
      ∃ t, exec (.sectorEraseDone .verifyFail mapOk) s = .next t ∧ t.store.wipeFault = true ∧
        t.store.arrayOp = .erase j ∧ t.store.tasks = ts ∧ t.catalog = s.catalog ∧ t.portA = s.portA ∧ t.portB = s.portB)) ∧
  (∀ (s : State) (k j : Nat) (ts : List Task) (mapOk : Bool) (x : SectorRec),
    s.store.arrayOp = .erase k → 4 ≤ k → j ≠ k → s.store.operation = .catalogWrite ∨ s.store.operation = .wipeErase →
    s.store.tasks = .erase j :: ts → s.ctl.supply = .normal → s.store.rec? k = some x →
    (∀ n, s.store.PreviousCount k n →
      ∃ t y, exec (.sectorEraseDone .clean mapOk) s = .next t ∧ t.store.rec? k = some y ∧
        y.eraseCount = some (n + 1) ∧ y.generation = none ∧ y.used = 1 ∧
        y.role = (if 100000 ≤ n + 1 then .retired else .free) ∧
        t.nv.ring = s.nv.ring.map (fun z => if z.sector = k then
          { z with eraseCount := .val (n + 1), generation := .blank, restart := false, content := [] } else z) ∧
        t.nv.area = s.nv.area ∧ t.store.arrayOp = .erase j ∧ t.store.tasks = ts ∧ t.store.operation = s.store.operation ∧
        t.store.mode = s.store.mode ∧ t.catalog = s.catalog ∧ t.stack = s.stack ∧ t.commit = s.commit ∧ t.portA = s.portA ∧
        t.portB = s.portB) ∧
    (∃ t y, exec (.sectorEraseDone .verifyFail mapOk) s = .next t ∧ t.store.rec? k = some y ∧ y.role = .retired ∧
      (mapOk = true → k ∈ t.nv.retireMap) ∧ (∀ z ∈ t.nv.ring, z.sector ≠ k → z ∈ s.nv.ring) ∧ t.nv.area = s.nv.area ∧
      t.store.arrayOp = .erase j ∧ t.store.tasks = ts ∧ t.store.operation = s.store.operation ∧
      t.store.mode = s.store.mode ∧ t.catalog = s.catalog ∧ t.stack = s.stack ∧ t.commit = s.commit ∧ t.portA = s.portA ∧
      t.portB = s.portB)) ∧
  (∀ (s : State) (k : Nat) (ok mapOk : Bool) (n : Nat),
    s.store.arrayOp = .erase k → 4 ≤ k → s.ctl.supply = .normal → s.store.PreviousCount k n → n < 99999 →
    let role := fun (y : SectorRec) => if y.sector = k then (if ok then Role.free else .retired) else y.role
    let free := (s.store.table.filter (fun y => decide (role y = .free))).length
    let image := groupSlots .image 0 ((s.catalog.entries.filter (fun e => e.defn.persistent)).map
      (fun e => { id := e.defn.id, value := e.defn.default, version := 0 }))
    (s.store.operation = .catalogWrite → s.store.tasks = [.programArea] →
      (image.length ≤ 255 * free →
        ∃ t base, exec (.sectorEraseDone (if ok then .clean else .verifyFail) mapOk) s = .next t ∧
          t.store.operation = .catalogWrite ∧ t.store.arrayOp = .areaHeader 0 ∧
          t.store.table.map (fun y => (y.sector, y.role, y.generation)) = s.store.table.map (fun y => (y.sector, role y, none)) ∧
          (let retired := fun (z : RingSector) => ∃ y ∈ s.store.table, y.sector = z.sector ∧ role y = .retired
           (base = 1 ∨ ∃ z ∈ t.nv.ring, retired z ∧ ∃ d, z.generation = .val d ∧ base = d + 1) ∧
           1 ≤ base ∧ ∀ z ∈ t.nv.ring, retired z → ∀ d, z.generation = .val d → d < base) ∧
          (let slots := AreaSlot.openMark s.catalog.setup base :: (s.catalog.entries.flatMap (fun e =>
              .definition e.defn :: List.replicate (e.defn.shape.areaSlots - 1) .more) ++
            [.closeMark s.catalog.entries.length (areaCheck s.catalog.setup base (s.catalog.entries.map (fun e => e.defn)))])
           t.store.tasks = [.areaHeader 1, .areaHeader 2, .areaHeader 3] ++
             slots.zipIdx.map (fun d => .areaSlot (d.2 / 255) d.1) ++ [.image .first]) ∧
          t.catalog = s.catalog ∧ t.stack = s.stack ∧ t.commit = s.commit ∧ t.portA = s.portA ∧ t.portB = s.portB) ∧
      (255 * free < image.length → ∀ q, s.catalog.request = some q → (∃ o ∈ s.portA.outstanding, o.seq = q) →
        ∃ t, exec (.sectorEraseDone (if ok then .clean else .verifyFail) mapOk) s = .next t ∧
          t.catalog = { s.catalog with state := .building, request := none } ∧ t.store.operation = .idle ∧
          t.store.mode = .writable ∧ t.store.durable = 0 ∧ t.store.reserve = 0 ∧
          t.portA.outbound = s.portA.outbound ++ [{ seq := q, body := .refuse kSeal .storeFault 0 }] ∧ t.portB = s.portB)) ∧
    (s.store.operation = .wipeErase → s.store.tasks = [.retireMap] →
      ∃ t, exec (.sectorEraseDone (if ok then .clean else .verifyFail) mapOk) s = .next t ∧
        t.store.operation = .wipeErase ∧ t.store.arrayOp = .retireMap ∧ t.store.tasks = [] ∧
        t.store.table.map (fun y => (y.sector, y.role)) = s.store.table.map (fun y => (y.sector, role y)) ∧
        t.catalog = s.catalog ∧ t.portA = s.portA ∧ t.portB = s.portB))

/-- The headers of the catalog area are programmed one after another, that of sector 0 with the retire map, then its slots in their
order, and then the initial image begins in the first FREE sector from sector 4, which takes the generation base; a failed program of a
header or slot of the area fails SEAL with STORE_FAULT (R102, R103). The close of the initial image completes SEAL: every entry at its
default with version 0, number 0, the digest computed, the state SEALED, port B at the record's rate, and the REPLY with count, R and
digest (R19, R20). Where fewer than 2R + 4 ring sectors are then not RETIRED, the store enters READ_ONLY with its notice at both ports,
which names the number of RETIRED ones (R99, R102, R151). -/
def Obligations.InitialImageCompletesSeal : Prop :=
  (∀ (s : State) (k : Nat) (m : Slot) (g : GroupWrite) (q : Byte) (mapOk : Bool),
    s.store.arrayOp = .slot k m → s.store.writing = some g → g.remaining = [m] → s.store.operation = .catalogWrite →
    s.catalog.request = some q → s.store.pend = none → (∃ o ∈ s.portA.outstanding, o.seq = q) →
    ∃ t, exec (.slotProgramDone true mapOk) s = .next t ∧
      t.catalog =
        { state := .sealed, setup := s.catalog.setup, digest := catalogDigest s.catalog.entries s.catalog.setup, request := none,
          entries := s.catalog.entries.map (fun e =>
            { e with live := some { working := e.defn.default, committed := e.defn.default, version := 0 } }) } ∧
      t.store.durable = 0 ∧ t.rateInUse = s.catalog.setup.rate ∧ t.stack = s.stack ∧ t.commit = s.commit ∧
      t.portA.outbound = s.portA.outbound ++
        [{ seq := q
           body := .reply kSeal
             (.seal s.catalog.entries.length s.store.reserve (catalogDigest s.catalog.entries s.catalog.setup)) }] ∧
      t.portB.outbound = s.portB.outbound ∧ t.nv = s.nv.appendSlot k m ∧ t.store.compaction = .none ∧
      (s.store.mode = .writable →
        let usable := (s.store.table.filter (fun x => decide (x.role ≠ .retired))).length
        let retired := (s.store.table.filter (fun x => decide (x.role = .retired))).length
        (usable < 2 * s.store.reserve + 4 → t.store.mode = .readOnly ∧
          ∀ p, (t.port p).notices = ((s.port p).takeNotice (.storeReadOnly retired)).notices) ∧
        (2 * s.store.reserve + 4 ≤ usable → t.store.mode = .writable ∧ ∀ p, (t.port p).notices = (s.port p).notices))) ∧
  (∀ (s : State) (task : Task) (op : ArrayOp) (ts : List Task) (mapOk : Bool), s.store.tasks = task :: ts →
    (∃ j, task = .areaHeader j ∧ op = .areaHeader j) ∨ (∃ j d, task = .areaSlot j d ∧ op = .areaSlot j d) →
    (∀ k, s.store.arrayOp = .areaHeader k → exec (.slotProgramDone true mapOk) s = .next
      { s with
        nv :=
          { s.nv with
            area := s.nv.area.map (fun z => if z.sector = k then { z with place := .val k } else z)
            retireMap := if k = 0 then (s.store.table.filter (fun x => decide (x.role = .retired))).map (fun x => x.sector)
              else s.nv.retireMap }
        store := { s.store with arrayOp := op, tasks := ts } }) ∧
    (∀ k d, s.store.arrayOp = .areaSlot k d → exec (.slotProgramDone true mapOk) s = .next
      { s with
        nv := { s.nv with area := s.nv.area.map (fun z => if z.sector = k then { z with content := z.content ++ [d] } else z) }
        store := { s.store with arrayOp := op, tasks := ts } })) ∧
  (∀ (s : State) (k j : Nat) (d : AreaSlot) (mapOk : Bool), s.store.arrayOp = .areaSlot k d → s.store.tasks = [.image .first] →
    s.ctl.supply = .normal → s.store.openedLast = none → (∀ x ∈ s.store.table, x.role ≠ .filling ∧ x.generation = none) →
    let image := groupSlots .image 0 ((s.catalog.entries.filter (fun e => e.defn.persistent)).map
      (fun e => { id := e.defn.id, value := e.defn.default, version := 0 }))
    image.length ≤ 255 * (s.store.table.filter (fun x => decide (x.role = .free))).length →
    [4, 5, 6, 7, 8, 9, 10, 11, 12, 13, 14, 15].find? (fun i => (s.store.rec? i).any (fun x => decide (x.role = .free))) = some j →
    ∃ t, exec (.slotProgramDone true mapOk) s = .next t ∧
      t.nv = { s.nv with area := s.nv.area.map (fun z => if z.sector = k then { z with content := z.content ++ [d] } else z) } ∧
      (∃ w, t.store.writing = some w ∧ w.attempt = .first ∧ w.remaining = image) ∧
      (∃ f, t.store.arrayOp = .header j t.nv.base f) ∧ t.store.operation = s.store.operation ∧ t.catalog = s.catalog ∧
      t.stack = s.stack ∧ t.commit = s.commit ∧ t.portA = s.portA ∧ t.portB = s.portB) ∧
  (∀ (s : State) (q : Byte) (mapOk : Bool),
    (∃ k, s.store.arrayOp = .areaHeader k) ∨ (∃ k d, s.store.arrayOp = .areaSlot k d) → s.catalog.request = some q →
    (∃ o ∈ s.portA.outstanding, o.seq = q) →
    ∃ t, exec (.slotProgramDone false mapOk) s = .next t ∧
      t.catalog = { s.catalog with state := .building, request := none } ∧ t.store.operation = .idle ∧
      t.store.mode = .writable ∧ t.store.compaction = .none ∧ t.store.durable = 0 ∧ t.store.reserve = 0 ∧ t.store.pend = none ∧
      t.store.table.map (fun x => (x.sector, x.role)) = s.store.table.map (fun x =>
        (x.sector, if x.role = .retired ∨ x.role = .free then x.role else .stale)) ∧
      t.portA.outbound = s.portA.outbound ++ [{ seq := q, body := .refuse kSeal .storeFault 0 }] ∧ t.portB = s.portB)

/-- The program of the retire map ends WIPE: verified, the map names every RETIRED ring sector; the ring sectors keep their roles and have
no generation, the catalog is EMPTY with the setup record and port B's rate at their defaults, the number 0 and the store WRITABLE, and
the answer tells whether the wipe met a fault (R22, R104). -/
def Obligations.RetireMapCompletesWipe : Prop :=
  ∀ (s : State) (q : Byte) (ok mapOk : Bool), s.store.arrayOp = .retireMap → s.catalog.request = some q →
    (∃ o ∈ s.portA.outstanding, o.seq = q) →
    ∃ t, exec (.slotProgramDone ok mapOk) s = .next t ∧ t.catalog.state = .empty ∧ t.catalog.setup = .defaults ∧
      t.catalog.entries = s.catalog.entries ∧ t.rateInUse = .r115200 ∧ t.store.durable = 0 ∧ t.store.reserve = 0 ∧
      t.store.mode = .writable ∧ t.store.operation = .idle ∧ t.store.compaction = .none ∧
      t.portA.outbound = s.portA.outbound ++ [{ seq := q, body :=
        if s.store.wipeFault = true ∨ ok = false then .refuse kWipe .storeFault 0 else .reply kWipe .wipe }] ∧
      (ok = true → t.nv.retireMap = (s.store.table.filter (fun x => decide (x.role = .retired))).map (fun x => x.sector)) ∧
      t.nv.ring = s.nv.ring ∧ t.nv.area = s.nv.area ∧
      t.store.table = s.store.table.map (fun x => { x with generation := none }) ∧ t.store.openedLast = none ∧
      t.portB = s.portB ∧ t.stack = s.stack ∧ t.commit = s.commit

/-! ### Bulk transfers (chapter 7) -/

/-- BULK_READ: its own checks in order; accepted, it fixes the ids of the range as its item set, replies with the counts, and a read
of nothing ends at once (R127, R129, R130, R133). -/
def Obligations.BulkReadFixesItsItemSet : Prop :=
  ∀ (p : Port) (q : Byte) (b : List Byte) (r : BulkReadReq) (s : State), s.Reaches p q kBulkRead → readBulkRead b = some r →
    if s.catalog.state ≠ .sealed then exec (.bulkRead p q b) s = .next (s.refused p q kBulkRead .wrongState 0)
    else if r.lo = 0 ∨ 65534 < r.lo ∨ r.hi = 0 ∨ r.hi < r.lo then
      exec (.bulkRead p q b) s = .next (s.refused p q kBulkRead .outOfRange 0)
    else if (s.port p).bulk ≠ .idle then exec (.bulkRead p q b) s = .next (s.refused p q kBulkRead .bulkActive 0)
    else if r.view = .working ∧ s.stack.owner ≠ some p then
      exec (.bulkRead p q b) s = .next (s.refused p q kBulkRead .notOwner 0)
    else if s.stack.owner = some p ∧ s.commit ≠ none then
      exec (.bulkRead p q b) s = .next (s.refused p q kBulkRead .commitPending 0)
    else
      let ids := (s.catalog.entries.map (fun e => e.defn.id)).filter (fun id => decide (r.lo ≤ id ∧ id ≤ r.hi))
      let answer := s.answered p q kBulkRead (.reply kBulkRead (.bulkRead ids.length ((ids.length + 15) / 16))) true
      (ids ≠ [] → exec (.bulkRead p q b) s = .next (answer.modPort p (fun x =>
        { x with
          lastDone := none
          bulk := .reading { view := r.view, items := ids, next := 0, sent := 0, firstNumber := none, lastNumber := none } }))) ∧
      (ids = [] → ∃ d : DoneRec, d = {
          kind := .read, ending := .complete, blocks := 0, items := 0, torn := false, firstError := none,
          firstNumber := s.store.durable, lastNumber := s.store.durable } ∧
        exec (.bulkRead p q b) s = .next (answer.modPort p (fun x => { x with lastDone := some d, bulk := .closing d })))

/-- BULK_WRITE: its own checks in order; accepted, it pushes an unlabelled frame, at depth 0 takes ownership, and opens a write
context with 2 credits (R30, R135, R136). -/
def Obligations.BulkWriteOpensAFrame : Prop :=
  ∀ (p : Port) (q a b : Byte) (s : State), s.Reaches p q kBulkWrite →
    let n := be16 a b
    if s.catalog.state ≠ .sealed then exec (.bulkWrite p q [a, b]) s = .next (s.refused p q kBulkWrite .wrongState 0)
    else if n = 0 ∨ 256 < n then exec (.bulkWrite p q [a, b]) s = .next (s.refused p q kBulkWrite .outOfRange 0)
    else if (s.port p).bulk ≠ .idle then exec (.bulkWrite p q [a, b]) s = .next (s.refused p q kBulkWrite .bulkActive 0)
    else if s.stack.owner = some (otherPort p) then
      exec (.bulkWrite p q [a, b]) s = .next (s.refused p q kBulkWrite .ownedByOther 0)
    else if 8 ≤ s.stack.frames.length then exec (.bulkWrite p q [a, b]) s = .next (s.refused p q kBulkWrite .stackFull 0)
    else if s.commit ≠ none then exec (.bulkWrite p q [a, b]) s = .next (s.refused p q kBulkWrite .commitPending 0)
    else
      let opened := (s.answered p q kBulkWrite
          (.reply kBulkWrite (.bulkWrite ((n + 15) / 16) 2 (s.stack.frames.length + 1) s.stack.free)) true).modPort p (fun x =>
        { x with
          lastDone := none
          bulk := .writing
            { declared := n, blocks := (n + 15) / 16, expected := 0, received := 0, applied := 0, creditsOpen := 2,
              creditsPending := 0, buffer := [], firstError := none, running := 0xFFFFFFFF#32 } })
      let frames := { label := none, undo := [] } :: s.stack.frames
      (s.stack.frames ≠ [] →
        exec (.bulkWrite p q [a, b]) s = .next { opened with stack := { s.stack with frames := frames } }) ∧
      (s.stack.frames = [] →
        exec (.bulkWrite p q [a, b]) s = .next
          ((({ opened with stack := { s.stack with frames := frames, owner := some p } } : State).modPort p
            (fun x => { x with lease := leaseOf (s.leasePeriod p) })).noticeBoth (.ownerChanged (some p))))

/-- BULK_ABORT: refused outside SEALED and where no transfer is active; a read ends where it stands, a write is rolled back with its
frame, and the BULK_DONE is held with end ABORTED (R143 to R145). -/
def Obligations.BulkAbortEndsTheTransfer : Prop :=
  ∀ (p : Port) (q : Byte) (s : State), s.Reaches p q kBulkAbort →
    (s.catalog.state ≠ .sealed → exec (.bulkAbort p q []) s = .next (s.refused p q kBulkAbort .wrongState 0)) ∧
    (s.catalog.state = .sealed → (s.port p).bulk.active = false →
      exec (.bulkAbort p q []) s = .next (s.refused p q kBulkAbort .noBulk 0)) ∧
    (s.catalog.state = .sealed → ∀ r, (s.port p).bulk = .reading r ∨ (s.port p).bulk = .paused r →
      ∃ d : DoneRec, d.kind = .read ∧ d.ending = .aborted ∧ d.blocks = r.next ∧ d.items = r.sent ∧
        d.firstNumber = r.firstNumber.getD s.store.durable ∧ d.lastNumber = r.lastNumber.getD s.store.durable ∧
        d.torn = decide (d.firstNumber ≠ d.lastNumber) ∧ d.firstError = none ∧
        exec (.bulkAbort p q []) s = .next ((s.answered p q kBulkAbort (.reply kBulkAbort (.bulkAbort .read)) true).modPort p
          (fun x => { x with bulk := .closing d, lastDone := some d }))) ∧
    (s.catalog.state = .sealed → ∀ w f fs, (s.port p).bulk = .writing w → s.stack.frames = f :: fs → s.stack.owner = some p →
      ∃ t d, exec (.bulkAbort p q []) s = .next t ∧
        d = { kind := .write, ending := .aborted, blocks := w.received, items := 0, firstNumber := s.store.durable,
              lastNumber := s.store.durable, torn := false, firstError := w.firstError } ∧
        (t.port p).bulk = .closing d ∧ (t.port p).lastDone = some d ∧
        (t.port p).outbound = (s.port p).outbound ++ [{ seq := q, body := .reply kBulkAbort (.bulkAbort .write) }] ∧
        t.stack = { frames := fs, owner := if fs = [] then none else some p, free := s.stack.free + f.undo.length } ∧
        t.catalog = { s.catalog with entries := restoreAll f.undo s.catalog.entries } ∧
        t.commit = s.commit ∧ t.store = s.store ∧ t.nv = s.nv ∧ t.ctl = s.ctl)

/-- A BLOCK uses a credit and joins the buffer of a WRITING context, or without a credit is discarded with OVERRUN as the first
error; one without its header, above index 15 or at any other context is stray (R137, R149). -/
def Obligations.BlockUsesACreditOrIsStray : Prop :=
  ∀ (p : Port) (payload : List Byte) (s : State), s.receives p = true →
    (∀ (b : Block) (w : WriteCtx), readBlock payload = some b → (s.port p).bulk = .writing w → 1 ≤ w.creditsOpen →
      exec (.block p payload) s = .next (s.modPort p (fun x =>
        { x with
          lease := x.lease.restarted (s.leasePeriod p)
          bulk := .writing
            { w with received := w.received + 1, creditsOpen := w.creditsOpen - 1, buffer := w.buffer ++ [b] } }))) ∧
    (∀ (b : Block) (w : WriteCtx), readBlock payload = some b → (s.port p).bulk = .writing w → w.creditsOpen = 0 →
      exec (.block p payload) s = .next (s.modPort p (fun x =>
        { x with
          lease := x.lease.restarted (s.leasePeriod p)
          bulk := .writing
            { w with
              received := w.received + 1
              firstError := some (w.firstError.getD { error := .overrun, block := b.index, item := 0 }) } }))) ∧
    (readBlock payload = none ∨ (∀ w, (s.port p).bulk ≠ .writing w) →
      exec (.block p payload) s = .next (s.modPort p (fun x =>
        { x with
          lease := x.lease.restarted (s.leasePeriod p)
          counters := { x.counters with strayStream := bump x.counters.strayStream } })))

/-- HOLD pauses a READING context and GO resumes a PAUSED one; at an IDLE context either is stray; elsewhere neither has an effect
beyond the lease (R71, R132, R149). -/
def Obligations.HoldPausesAndGoResumes : Prop :=
  ∀ (p : Port) (s : State), s.receives p = true →
    (∀ r, (s.port p).bulk = .reading r →
      exec (.hold p) s = .next ((s.restartLease p).modPort p (fun x => { x with bulk := .paused r })) ∧
      exec (.go p) s = .next (s.restartLease p)) ∧
    (∀ r, (s.port p).bulk = .paused r →
      exec (.go p) s = .next ((s.restartLease p).modPort p (fun x => { x with bulk := .reading r })) ∧
      exec (.hold p) s = .next (s.restartLease p)) ∧
    ((s.port p).bulk = .idle →
      exec (.hold p) s = .next ((s.restartLease p).modPort p (fun x =>
        { x with counters := { x.counters with strayStream := bump x.counters.strayStream } })) ∧
      exec (.go p) s = exec (.hold p) s) ∧
    ((∃ w, (s.port p).bulk = .writing w) ∨ (∃ d, (s.port p).bulk = .closing d) →
      exec (.hold p) s = .next (s.restartLease p) ∧ exec (.go p) s = .next (s.restartLease p))

/-- A DATA block is built and placed where the place is granted: its items in the read's view with the durable number as it stands,
the outbound count as seq; the last block ends the read with torn set when its first and last numbers differ (R131, R133, R173,
R174). -/
def Obligations.DataBlockIsPlaced : Prop :=
  ∀ (p : Port) (r : ReadCtx) (s : State), s.ctl.start = .ready → (s.port p).bulk = .reading r →
    (s.port p).outbound.length ≤ 1 → 16 * r.next < r.items.length →
    ((s.port p).notices = [] ∨ (s.port p).nextGrant = .bulk) →
    ∃ t, exec (.data p) s = .next t ∧
      let ids := (r.items.drop (16 * r.next)).take 16
      let block : OutMsg :=
        { seq := BitVec.ofNat 8 (s.port p).outCount
          body := .data r.next s.store.durable (ids.filterMap (fun id => (findEntry s.catalog.entries id).map (fun (e : Entry) =>
            { id := id, version := e.version, value := if r.view = .working then e.working else e.committed }))) }
      let r' : ReadCtx :=
        { r with
          next := r.next + 1, sent := r.sent + ids.length, lastNumber := some s.store.durable,
          firstNumber := if r.next = 0 then some s.store.durable else r.firstNumber }
      (t.port p).outbound = (s.port p).outbound ++ [block] ∧
      (t.port p).outCount = ((s.port p).outCount + 1) % 256 ∧
      (t.port p).nextGrant = (if (s.port p).notices = [] then (s.port p).nextGrant else .notice) ∧
      (16 * (r.next + 1) < r.items.length → (t.port p).bulk = .reading r' ∧ (t.port p).lastDone = (s.port p).lastDone) ∧
      (r.items.length ≤ 16 * (r.next + 1) → ∃ d : DoneRec, (t.port p).bulk = .closing d ∧ (t.port p).lastDone = some d ∧
        d.kind = .read ∧ d.ending = .complete ∧ d.blocks = r.next + 1 ∧ d.items = r'.sent ∧
        d.firstNumber = r'.firstNumber.getD s.store.durable ∧ d.lastNumber = s.store.durable ∧
        d.torn = decide (d.firstNumber ≠ d.lastNumber) ∧ d.firstError = none) ∧
      t.port (otherPort p) = s.port (otherPort p) ∧ t.catalog = s.catalog ∧ t.stack = s.stack ∧ t.commit = s.commit ∧
      t.store = s.store ∧ t.nv = s.nv ∧ t.ctl = s.ctl

/-- A CREDIT carries the credits pending and makes them open; a BULK_DONE leaves the context IDLE; each takes the outbound count and
its granted place (R127, R140, R173, R174). -/
def Obligations.CreditAndBulkDoneArePlaced : Prop :=
  ∀ (p : Port) (s : State), s.ctl.start = .ready → (s.port p).outbound.length ≤ 1 →
    ((s.port p).notices = [] ∨ (s.port p).nextGrant = .bulk) →
    (∀ w, (s.port p).bulk = .writing w → 1 ≤ w.creditsPending →
      exec (.credit p) s = .next (s.modPort p (fun x =>
        { x with
          outbound := x.outbound ++ [{ seq := BitVec.ofNat 8 x.outCount, body := .credit w.creditsPending }]
          outCount := (x.outCount + 1) % 256
          nextGrant := if x.notices = [] then x.nextGrant else .notice
          bulk := .writing { w with creditsOpen := w.creditsOpen + w.creditsPending, creditsPending := 0 } }))) ∧
    (∀ d, (s.port p).bulk = .closing d →
      exec (.bulkDone p) s = .next (s.modPort p (fun x =>
        { x with
          outbound := x.outbound ++ [{ seq := BitVec.ofNat 8 x.outCount, body := .bulkDone d }]
          outCount := (x.outCount + 1) % 256
          nextGrant := if x.notices = [] then x.nextGrant else .notice
          bulk := .idle })))

/-- A block before the last that arrives in order and consistent applies its items up to the first that fails; any other leaves the
values and records why; each returns a credit and gives its item bytes to the running check. What makes a block consistent, and what
an item does at each of its checks, is spelled out (R39, R138, R139). -/
def Obligations.BlockProcessingAppliesItems : Prop :=
  (∀ (p : Port) (w : WriteCtx) (b : Block) (rest : List Block) (s : State), (s.port p).bulk = .writing w →
    w.buffer = b :: rest → b.index ≠ w.blocks - 1 →
    let w' : WriteCtx :=
      { w with
        running := crc32Update w.running b.itemBytes, expected := b.index + 1, buffer := rest
        creditsPending := w.creditsPending + 1 }
    (∀ e, w.firstError = some e → exec (.blockProcessing p) s = .next (s.modPort p (fun x => { x with bulk := .writing w' }))) ∧
    (w.firstError = none → b.index ≠ w.expected →
      exec (.blockProcessing p) s = .next (s.modPort p (fun x => { x with
        bulk := .writing { w' with firstError := some { error := .blockOrder, block := b.index, item := 0 } } }))) ∧
    (w.firstError = none → b.index = w.expected → w.consistent b = none →
      exec (.blockProcessing p) s = .next (s.modPort p (fun x => { x with
        bulk := .writing { w' with firstError := some { error := .transferCheck, block := b.index, item := 0 } } }))) ∧
    (w.firstError = none → b.index = w.expected → ∀ f, w.consistent b = some f →
      ∀ s' n e, applyItems p b.index 0 f.items s = (s', n, e) →
      exec (.blockProcessing p) s = .next (s'.modPort p (fun x => { x with
        bulk := .writing { w' with applied := w.applied + n, firstError := e } })))) ∧
  (∀ (w : WriteCtx) (b : Block) (f : FullBlock), w.consistent b = some f ↔
    b.full = some f ∧ (f.check.isSome = true ↔ b.index = w.blocks - 1) ∧
    (b.index < w.blocks - 1 → b.count = 16) ∧ (b.index = w.blocks - 1 → b.count = w.declared - 16 * (w.blocks - 1)) ∧
    (w.blocks - 1 < b.index → 1 ≤ b.count ∧ b.count ≤ 16)) ∧
  (∀ (p : Port) (blk i : Nat) (s : State), applyItems p blk i [] s = (s, 0, none)) ∧
  (∀ (p : Port) (blk i : Nat) (r : SetReq) (rs : List SetReq) (s : State),
    let failed := fun (c : RefuseCode) =>
      applyItems p blk i (r :: rs) s = (s, 0, some { error := .item c, block := blk, item := i })
    let passed := fun (s' : State) =>
      ∀ t n e, applyItems p blk (i + 1) rs s' = (t, n, e) → applyItems p blk i (r :: rs) s = (t, n + 1, e)
    (∀ c, valueCheck s.catalog.entries Entry.working r.id r.value = .error c → failed c) ∧
    (∀ v e f fs, valueCheck s.catalog.entries Entry.working r.id r.value = .ok v →
      findEntry s.catalog.entries r.id = some e → s.stack.frames = f :: fs →
      if p = .B ∧ s.catalog.state = .sealed ∧ s.catalog.setup.mode = .tune ∧ e.defn.persistent = true then failed .notPermitted
      else if ∃ u ∈ f.undo, u.id = r.id then
        passed { s with catalog := { s.catalog with entries := setWorking s.catalog.entries r.id v } }
      else if s.stack.free = 0 then failed .poolFull
      else passed
        { s with
          catalog := { s.catalog with entries := setWorking s.catalog.entries r.id v }
          stack :=
            { s.stack with
              frames := { f with undo := f.undo ++ [{ id := r.id, prior := e.working }] } :: fs
              free := s.stack.free - 1 } }))

/-- The last block of a bulk write, in order and consistent, without an error and with the check agreeing, ends it as a success: at
level 2 or above the frame is merged, at level 1 it stays as frame 1 with its owner. With a first error, found before it or in it, the
bulk frame is rolled back, at level 1 ownership is released with its notices, and BULK_DONE carries the error and no items (R141 to
R144). -/
def Obligations.LastBlockEndsABulkWrite : Prop :=
  (∀ (p : Port) (w : WriteCtx) (b : Block) (rest : List Block) (f : FullBlock) (s s' : State) (n : Nat),
    (s.port p).bulk = .writing w → w.buffer = b :: rest → b.index = w.blocks - 1 → w.firstError = none →
    b.index = w.expected → w.consistent b = some f → applyItems p b.index 0 f.items s = (s', n, none) →
    f.check = some (~~~ (crc32Update w.running b.itemBytes)) →
    ∃ t d, exec (.blockProcessing p) s = .next t ∧
      d = { kind := .write, ending := .complete, blocks := w.received, items := w.applied + n, firstNumber := s.store.durable,
            lastNumber := s.store.durable, torn := false, firstError := none } ∧
      t.port p = { s'.port p with bulk := .closing d, lastDone := some d } ∧ t.port (otherPort p) = s'.port (otherPort p) ∧
      t.catalog = s'.catalog ∧ t.commit = s'.commit ∧ t.store = s'.store ∧ t.nv = s'.nv ∧ t.ctl = s'.ctl ∧
      (s'.stack.frames.length ≤ 1 → t.stack = s'.stack) ∧
      (∀ x y fs, s'.stack.frames = x :: y :: fs →
        t.stack =
          { s'.stack with
            frames := { y with undo := y.undo ++ x.undo.filter (fun u => !(y.undo.any (fun v => v.id == u.id))) } :: fs
            free := s'.stack.free +
              (x.undo.length - (x.undo.filter (fun u => !(y.undo.any (fun v => v.id == u.id)))).length) })) ∧
  (∀ (p : Port) (w : WriteCtx) (b : Block) (rest : List Block) (s s' : State) (e : FirstError) (x : Frame) (fs : List Frame),
    (s.port p).bulk = .writing w → w.buffer = b :: rest → b.index = w.blocks - 1 → s.stack.owner = some p →
    (s' = s ∧ w.firstError = some e ∨
     s' = s ∧ w.firstError = none ∧ b.index ≠ w.expected ∧ e = { error := .blockOrder, block := b.index, item := 0 } ∨
     s' = s ∧ w.firstError = none ∧ b.index = w.expected ∧ w.consistent b = none ∧
       e = { error := .transferCheck, block := b.index, item := 0 } ∨
     w.firstError = none ∧ b.index = w.expected ∧
       (∃ f n, w.consistent b = some f ∧
         (applyItems p b.index 0 f.items s = (s', n, some e) ∨
          applyItems p b.index 0 f.items s = (s', n, none) ∧ f.check ≠ some (~~~ (crc32Update w.running b.itemBytes)) ∧
            e = { error := .transferCheck, block := b.index, item := 0 }))) →
    s'.stack.frames = x :: fs →
    ∃ t d y, exec (.blockProcessing p) s = .next t ∧
      d = { kind := .write, ending := .complete, blocks := w.received, items := 0, firstNumber := s.store.durable,
            lastNumber := s.store.durable, torn := false, firstError := some e } ∧
      t.port p = { y with bulk := .closing d, lastDone := some d } ∧
      (fs = [] → y = ({ s.port p with lease := .stopped } : PortState).takeNotice (.ownerChanged none) ∧
        t.port (otherPort p) = (s.port (otherPort p)).takeNotice (.ownerChanged none)) ∧
      (fs ≠ [] → y = s.port p ∧ t.port (otherPort p) = s.port (otherPort p)) ∧
      t.stack = { frames := fs, owner := if fs = [] then none else some p, free := s'.stack.free + x.undo.length } ∧
      t.catalog = { s'.catalog with entries := restoreAll x.undo s'.catalog.entries } ∧
      t.commit = s.commit ∧ t.store = s.store ∧ t.nv = s.nv ∧ t.ctl = s.ctl)

/-! ### Notices (chapter 8) -/

/-- WATCH: its own checks in order; accepted, it replaces the port's filter; UNWATCH removes every range. Neither touches the queue
or the lost count; both ports may make both in every mode (R156 to R158). -/
def Obligations.WatchReplacesTheFilter : Prop :=
  (∀ (p : Port) (q : Byte) (b : List Byte) (rs : List IdRange) (s : State), s.Reaches p q kWatch → readWatch b = some rs →
    if s.catalog.state = .sealing ∨ s.catalog.state = .wiping then
      exec (.watch p q b) s = .next (s.refused p q kWatch .wrongState 0)
    else if 4 < rs.length then exec (.watch p q b) s = .next (s.refused p q kWatch .watchFull 0)
    else if rs = [] ∨ ∃ r ∈ rs, r.lo = 0 ∨ 65534 < r.lo ∨ r.hi = 0 ∨ r.hi < r.lo then
      exec (.watch p q b) s = .next (s.refused p q kWatch .outOfRange 0)
    else exec (.watch p q b) s = .next ((s.answered p q kWatch (.reply kWatch (.watch rs.length)) true).modPort p
      (fun x => { x with watch := rs }))) ∧
  (∀ (p : Port) (q : Byte) (s : State), s.Reaches p q kUnwatch →
    if s.catalog.state = .sealing ∨ s.catalog.state = .wiping then
      exec (.unwatch p q []) s = .next (s.refused p q kUnwatch .wrongState 0)
    else exec (.unwatch p q []) s = .next ((s.answered p q kUnwatch (.reply kUnwatch (.unwatch 0)) true).modPort p
      (fun x => { x with watch := [] }))) ∧
  (∀ (p : Port) (s : State), s.permits p kWatch = true ∧ s.permits p kUnwatch = true)

/-- A NOTICE takes up to 8 notices from the head of the queue into one message, and where notices were lost and none is reported yet,
a LOST marker takes the first place freed (R154, R155, R173, R174). -/
def Obligations.NoticeTakesUpToEight : Prop :=
  ∀ (p : Port) (s : State), s.ctl.start = .ready → (s.port p).outbound.length ≤ 1 → (s.port p).notices ≠ [] →
    ((s.port p).bulk.waits = false ∨ (s.port p).nextGrant = .notice) →
    exec (.notice p) s = .next (s.modPort p (fun x =>
      { x with
        outbound := x.outbound ++ [{ seq := BitVec.ofNat 8 x.outCount, body := .notice (x.notices.take 8) }]
        outCount := (x.outCount + 1) % 256
        nextGrant := if x.bulk.waits = true then .bulk else x.nextGrant
        notices := x.notices.drop 8 ++ (if x.lost = 0 then [] else [.lost x.lost])
        lost := 0 }))

/-- Every step keeps each notice queue at 32 notices at most with at most one LOST marker, the lost count 0 while one stands (R150,
R152 to R154). -/
def Obligations.NoticeQueuesStayBounded : Prop :=
  ∀ s t : State, s.portA.NoticesBounded → s.portB.NoticesBounded → step s = .next t →
    t.portA.NoticesBounded ∧ t.portB.NoticesBounded

/-! ### Leases, supply, start-up, sending -/

/-- An expiry of the owner's running timer ends its write or WORKING read, rolls back every frame, releases ownership, and queues
LEASE_EXPIRED with the depth before OWNER_CHANGED (R73, R74). With the timer stopped, or at a port that is not the owner, nothing
happens (such a command is no event, log 1). -/
def Obligations.LeaseExpiryAbandonsTheStack : Prop :=
  (∀ (p : Port) (s : State), s.stack.owner ≠ some p ∨ (s.port p).lease = .stopped → exec (.leaseExpiry p) s = .next s) ∧
  (∀ (p : Port) (n : Nat) (s : State), s.stack.owner = some p → (s.port p).lease = .running n →
    ∃ t x, exec (.leaseExpiry p) s = .next t ∧
      t.stack = { frames := [], owner := none, free := s.stack.free + s.inUse } ∧
      t.catalog = { s.catalog with entries := restoreFrames s.stack.frames s.catalog.entries } ∧
      t.port p = ((x : PortState).takeNotice (.leaseExpired s.stack.frames.length)).takeNotice (.ownerChanged none) ∧
      t.port (otherPort p) = (s.port (otherPort p)).takeNotice (.ownerChanged none) ∧
      x = { s.port p with lease := .stopped, bulk := x.bulk, lastDone := x.lastDone } ∧
      ((s.port p).bulk.locks = false → x.bulk = (s.port p).bulk ∧ x.lastDone = (s.port p).lastDone) ∧
      ((s.port p).bulk.locks = true → ∃ d, x.bulk = .closing d ∧ x.lastDone = some d ∧ d.ending = .leaseExpired ∧
        (∀ w, (s.port p).bulk = .writing w → d.kind = .write ∧ d.items = 0 ∧ d.firstError = w.firstError)) ∧
      t.commit = s.commit ∧ t.store = s.store ∧ t.nv = s.nv ∧ t.ctl = s.ctl)

/-- The supply falling to WARN, with no COMMIT group being programmed: the state is WARN, a requested compaction is dropped, an image
being written is abandoned and its compaction ends, a pending append ends with SUPPLY_LOW and its frame kept, and SUPPLY_WARN is queued
to both ports; before READY only the state changes (R66, R100, R122). -/
def Obligations.WarningCancelsThePendingAppend : Prop :=
  (∀ s : State, s.ctl.start = .ready → s.ctl.supply = .normal → s.store.operation = .idle ∨ s.store.operation = .erasing →
    ∃ t, exec .warnCrossing s = .next t ∧ t.ctl = { s.ctl with supply := .warn } ∧ t.store.pend = none ∧
      t.store.compaction ≠ .requested .first ∧ t.store.compaction ≠ .requested .second ∧
      t.store.operation = s.store.operation ∧ t.store.arrayOp = s.store.arrayOp ∧ t.store.durable = s.store.durable ∧
      t.stack = s.stack ∧ t.catalog = s.catalog ∧ t.nv = s.nv ∧
      (∀ p : Port, (t.port p).notices = ((s.port p).takeNotice .supplyWarn).notices ∧
        (t.port p).lost = ((s.port p).takeNotice .supplyWarn).lost) ∧
      (s.store.pend = none → t.commit = s.commit ∧ t.portA = s.portA.takeNotice .supplyWarn ∧
        t.portB = s.portB.takeNotice .supplyWarn) ∧
      (∀ a c, s.store.pend = some a → s.commit = some c → t.commit = none ∧
        (t.port c.port).lease = leaseOf (s.leasePeriod c.port) ∧
        (c.suppressed = false → (∃ o ∈ (s.port c.port).outstanding, o.seq = c.seq) →
          (t.port c.port).outbound = (s.port c.port).outbound ++ [{ seq := c.seq, body := .refuse kCommit .supplyLow 0 }]))) ∧
  (∀ (s : State) (g : GroupWrite) (a : PendingAppend) (c : InFlight), s.ctl.start = .ready → s.ctl.supply = .normal →
    s.store.operation = .compacting → s.store.writing = some g → s.catalog.state = .sealed → s.store.pend = some a →
    s.commit = some c →
    ∃ t, exec .warnCrossing s = .next t ∧ t.ctl = { s.ctl with supply := .warn } ∧ t.store.pend = none ∧ t.commit = none ∧
      t.store.operation = .idle ∧ t.store.compaction = .none ∧ t.store.writing = none ∧ t.store.arrayOp = .none ∧
      t.store.durable = s.store.durable ∧ t.stack = s.stack ∧ t.catalog = s.catalog ∧
      (t.port c.port).lease = leaseOf (s.leasePeriod c.port) ∧
      (∀ p : Port, (t.port p).notices = ((s.port p).takeNotice .supplyWarn).notices ∧
        (t.port p).lost = ((s.port p).takeNotice .supplyWarn).lost) ∧
      (c.suppressed = false → (∃ o ∈ (s.port c.port).outstanding, o.seq = c.seq) →
        (t.port c.port).outbound = (s.port c.port).outbound ++ [{ seq := c.seq, body := .refuse kCommit .supplyLow 0 }])) ∧
  (∀ s : State, s.ctl.start ≠ .ready → s.ctl.start ≠ .held → s.ctl.supply = .normal →
    exec .warnCrossing s = .next { s with ctl := { s.ctl with supply := .warn } })

/-- A COMMIT group, or a step of SEAL or WIPE, in progress at a warning goes on, a requested compaction becomes none, and an image is
abandoned without a close mark: its sectors become STALE, the one where it began FULL if it held earlier groups, and SEAL begins its
image again later. The return to NORMAL is taken with SUPPLY_OK to both ports: the compaction condition is tested, the store chooses,
and a SEAL or WIPE that waited starts its next step, which waits while the supply is WARN. A crossing that finds the supply already
there changes nothing (R91, R100, R101, R121, R123; the attempt number kept for SEAL's image is the model's choice, log 29, and so is
that sectors which a failed first attempt of the image left FULL keep that role, log 32). -/
def Obligations.SupplyCrossingsMoveTheState : Prop :=
  (∀ s : State, s.ctl.start = .ready → s.ctl.supply = .normal →
    s.store.operation = .appending ∨
      (s.store.pend = none ∧ (s.store.operation = .wipeErase ∨ s.store.operation = .catalogWrite ∧ s.store.writing = none)) →
    exec .warnCrossing s = .next
      { s with
        ctl := { s.ctl with supply := .warn }
        store := { s.store with compaction := match s.store.compaction with
          | .requested _ => .none
          | .none => .none
          | .running a => .running a }
        portA := s.portA.takeNotice .supplyWarn
        portB := s.portB.takeNotice .supplyWarn }) ∧
  (∀ (s : State) (g : GroupWrite), s.ctl.start = .ready → s.ctl.supply = .normal → s.store.writing = some g →
    (∀ k, s.store.arrayOp ≠ .erase k) → (∀ k c, s.store.arrayOp = .slot k c → k ∈ g.sectors) →
    s.store.operation = .compacting ∧ s.store.pend = none ∧ s.catalog.state = .sealed ∨ s.store.operation = .catalogWrite →
    ∃ t, exec .warnCrossing s = .next t ∧ t.ctl = { s.ctl with supply := .warn } ∧ t.store.writing = none ∧
      t.store.arrayOp = .none ∧ t.store.restartNote = true ∧
      (s.store.operation = .compacting → t.store.operation = .idle ∧ t.store.compaction = .none) ∧
      (s.store.operation = .catalogWrite → t.store.operation = .catalogWrite ∧ t.store.tasks = [.image g.attempt]) ∧
      t.store.table.map (fun x => (x.sector, x.role)) = s.store.table.map (fun x =>
        (x.sector,
          if x.sector ∈ g.sectors then
            if g.begun.any (fun b => decide (b.sector = x.sector) && b.shared) = true then .full else .stale
          else x.role)) ∧
      (∀ z ∈ t.nv.ring, ∃ y ∈ s.nv.ring, y.sector = z.sector ∧
        (z.content = y.content ∨ ∃ d, z.content = y.content ++ [d] ∧ ∀ n v, d ≠ .closeMark n v)) ∧
      t.store.durable = s.store.durable ∧ t.catalog = s.catalog ∧ t.stack = s.stack ∧ t.commit = s.commit ∧
      t.portA = s.portA.takeNotice .supplyWarn ∧ t.portB = s.portB.takeNotice .supplyWarn) ∧
  (∀ s : State, s.ctl.start = .ready → s.ctl.supply = .warn → s.store.operation = .appending ∨ s.store.operation = .erasing →
    ∃ t, exec .normalCrossing s = .next t ∧ t.ctl = { s.ctl with supply := .normal } ∧
      t.portA = s.portA.takeNotice .supplyOk ∧ t.portB = s.portB.takeNotice .supplyOk ∧ t.stack = s.stack ∧
      t.catalog = s.catalog ∧ t.commit = s.commit ∧ t.nv = s.nv ∧ t.store = { s.store with compaction := t.store.compaction } ∧
      (s.catalog.state = .sealed → s.store.mode = .writable → s.store.compaction = .none →
        t.store.compaction = if (s.store.table.filter (fun x => decide (x.role = .free))).length < s.store.reserve + 3 then
          .requested .first else .none)) ∧
  (∀ s : State, s.ctl.start = .ready → s.ctl.supply = .warn → s.store.operation = .idle → s.catalog.state = .sealed →
    s.store.pend = none → s.store.compaction = .none → s.store.mode = .writable →
    let free := (s.store.table.filter (fun x => decide (x.role = .free))).length
    s.store.reserve + 3 ≤ free ∨
      ((∀ x ∈ s.store.table, x.role ≠ .filling) ∧ (imageGroup s.catalog.entries s.store.durable).length ≤ 255 * free) →
    ∃ t, exec .normalCrossing s = .next t ∧ t.ctl = { s.ctl with supply := .normal } ∧
      t.portA = s.portA.takeNotice .supplyOk ∧ t.portB = s.portB.takeNotice .supplyOk ∧ t.stack = s.stack ∧
      t.catalog = s.catalog ∧ t.commit = s.commit ∧ t.nv = s.nv ∧
      (s.store.reserve + 3 ≤ free → (∀ x ∈ s.store.table, x.role ≠ .stale) → t.store = s.store) ∧
      (s.store.reserve + 3 ≤ free → (∃ x ∈ s.store.table, x.role = .stale) →
        ∃ x ∈ s.store.table, x.role = .stale ∧ t.store.operation = .erasing ∧ t.store.arrayOp = .erase x.sector ∧
          t.store.compaction = .none) ∧
      (free < s.store.reserve + 3 →
        t.store.operation = .compacting ∧ t.store.compaction = .running .first ∧
        ∃ w, t.store.writing = some w ∧ w.remaining = imageGroup s.catalog.entries s.store.durable)) ∧
  (∀ (s : State) (k : Nat) (ts : List Task), s.store.operation = .catalogWrite ∨ s.store.operation = .wipeErase →
    s.store.tasks = .erase k :: ts →
    (s.ctl.supply = .warn → ∀ (j : Nat) (mapOk : Bool), s.store.arrayOp = .erase j → j < 4 →
      ∃ t, exec (.sectorEraseDone .clean mapOk) s = .next t ∧ t.store = { s.store with arrayOp := .none }) ∧
    (s.ctl.start = .ready → s.ctl.supply = .warn → s.store.arrayOp = .none → s.store.writing = none →
      ∃ t, exec .normalCrossing s = .next t ∧ t.store.arrayOp = .erase k ∧ t.store.tasks = ts ∧
        t.store.operation = s.store.operation ∧ t.catalog = s.catalog ∧
        t.portA = s.portA.takeNotice .supplyOk ∧ t.portB = s.portB.takeNotice .supplyOk)) ∧
  (∀ s : State, s.ctl.start ≠ .ready → s.ctl.start ≠ .held → s.ctl.supply = .warn →
    exec .normalCrossing s = .next { s with ctl := { s.ctl with supply := .normal } }) ∧
  (∀ s : State, s.ctl.supply = .warn → exec .warnCrossing s = .next s) ∧
  (∀ s : State, s.ctl.supply = .normal → exec .normalCrossing s = .next s)

/-- HELD is left at the release level with the supply state set and a lost cause become POWER_ON; the scan loads a valid catalog area
as SEALED with its R and digest, and finds EMPTY otherwise. An area is valid exactly where an open mark stands at its start and a close
mark follows the definitions whose count and check agree with the content (the check's bytes are the model's choice, log 9), and an area
that SEAL has programmed, its four headers and every slot in their order, reads back with its setup record, generation base and
definitions (R23, R102, R107, R108, R110, R121). -/
def Obligations.HeldExitAndScanFindTheCatalog : Prop :=
  (∀ (vdd : Nat) (s : State), s.ctl.start = .held → 2700 ≤ vdd →
    exec (.heldExit vdd) s = .next
      { s with
        ctl :=
          { s.ctl with
            start := .scanning
            cause := some (s.ctl.cause.getD .powerOn)
            supply := if 2950 < vdd then .normal else .warn } }) ∧
  (∀ (s : State) (a : AreaRead), s.ctl.start = .scanning → s.nv.readArea = some a →
    ∃ t, exec .scanEnd s = .next t ∧ t.ctl = { s.ctl with start := .replaying } ∧ t.catalog.state = .sealed ∧
      t.catalog.setup = a.setup ∧ t.catalog.digest = catalogDigest t.catalog.entries a.setup ∧
      t.store = { s.store with reserve := imageReserve t.catalog.entries } ∧
      (∀ e ∈ t.catalog.entries, e.live = none ∧ e.defn ∈ a.definitions) ∧
      (∀ d ∈ a.definitions, ∃ e ∈ t.catalog.entries, e.defn.id = d.id) ∧ t.nv = s.nv) ∧
  (∀ s : State, s.ctl.start = .scanning → s.nv.readArea = none →
    exec .scanEnd s = .next
      { s with
        catalog := { state := .empty, entries := [], setup := .defaults, digest := 0, request := none }
        store := { s.store with reserve := 0 }
        ctl := { s.ctl with start := .replaying } }) ∧
  (∀ (nv : NonVol) (a : AreaRead), nv.readArea = some a ↔
    ∃ (marks : List (Option Definition)) (rest : List AreaSlot), marks.filterMap id = a.definitions ∧
      nv.area.flatMap (fun z => z.content) = .openMark a.setup a.base ::
        (marks.map (fun d => match d with | some d => AreaSlot.definition d | none => .more) ++
          .closeMark a.definitions.length (areaCheck a.setup a.base a.definitions) :: rest)) ∧
  (∀ (s : State) (setup : Setup) (base : Nat) (ds : List Definition) (mapOk : Bool),
    let slots := AreaSlot.openMark setup base ::
      (ds.flatMap (fun d => .definition d :: List.replicate (d.shape.areaSlots - 1) .more) ++
        [.closeMark ds.length (areaCheck setup base ds)])
    slots.length ≤ 1020 → s.nv.area.map (fun z => (z.sector, z.content)) = [(0, []), (1, []), (2, []), (3, [])] →
    s.store.arrayOp = .areaHeader 0 →
    s.store.tasks = [.areaHeader 1, .areaHeader 2, .areaHeader 3] ++ slots.zipIdx.map (fun d => .areaSlot (d.2 / 255) d.1) ++
      [.image .first] →
    ∃ t, execAll (List.replicate (4 + slots.length) (.slotProgramDone true mapOk)) s = .next t ∧
      t.nv.readArea = some { setup := setup, base := base, definitions := ds } ∧
      t.nv.retireMap = (s.store.table.filter (fun x => decide (x.role = .retired))).map (fun x => x.sector) ∧
      t.nv.ring = s.nv.ring)

/-- After the replay of a SEALED catalog every working value equals its committed value, a non-persistent entry is at its default with
version 0, and no definition has changed; without a valid image every entry is at its default and the number is 0. The newest image and
the COMMIT groups of the following numbers after it, the later over the earlier, give every persistent entry its value and version and
the last group the durable number: where they stand in the last sector of the stream, and where they run over sectors, an unclosed or
faulty group being passed over when a later sector carries the restart flag. The outcome is CLEAN, TORN_TAIL when an unclosed group ends
the stream, and TRUNCATED at any other fault that no flagged sector follows. The sectors handed on as skipped are those that lie wholly in
what a skip passed over, and as later those after the one with the end point. The stream holds the opened sectors, and retired ones with
content, from the generation base up, in ascending order of generation (R23, R112 to R117). -/
def Obligations.ReplayRestoresCommittedValues : Prop :=
  (∀ s : State, s.ctl.start = .replaying → s.catalog.state = .sealed → s.IdsAscending →
    ∃ t, exec .replayEnd s = .next t ∧ t.ctl.start = .cleanup ∧
      t.catalog.entries.map (fun e => e.defn) = s.catalog.entries.map (fun e => e.defn) ∧
      (∀ e ∈ t.catalog.entries, ∃ l, e.live = some l ∧ l.working = l.committed ∧
        (e.defn.persistent = false → l.committed = e.defn.default ∧ l.version = 0)) ∧
      (newestImage (atDefaults s.catalog.entries) s.nv.stream = none →
        t.store.durable = 0 ∧ ∀ e ∈ t.catalog.entries,
          e.live = some { working := e.defn.default, committed := e.defn.default, version := 0 }) ∧
      t.nv = s.nv ∧ t.stack = s.stack) ∧
  (∀ (s : State) (older : List StreamSector) (x : StreamSector) (pre tail : List Slot) (n : Nat) (image : List Change)
    (commits : List (List Change)),
    s.ctl.start = .replaying → s.catalog.state = .sealed → s.IdsAscending → s.nv.stream = older ++ [x] →
    x.slots = pre ++ groupSlots .image n image ++
      commits.zipIdx.flatMap (fun (c : List Change × Nat) => groupSlots .commit (n + 1 + c.2) c.1) ++ tail →
    image.map (fun c => c.id) = (s.catalog.entries.filter (fun e => e.defn.persistent)).map (fun e => e.defn.id) →
    (∀ c ∈ image, c.Agrees s.catalog.entries) → (∀ cs ∈ commits, CommitGroupAgrees s.catalog.entries cs) →
    (tail = [] ∨ ∃ m cs j, 0 < j ∧ j < (groupSlots .commit m cs).length ∧ tail = (groupSlots .commit m cs).take j) →
    ∃ t res, exec .replayEnd s = .next t ∧ t.store.durable = n + commits.length ∧ t.ctl.replay = some res ∧
      res.groups = commits.length + 1 ∧ res.outcome = (if tail = [] then .clean else .tornTail) ∧
      (res.tail = true ↔ tail ≠ []) ∧ res.endSector = some x.sector ∧ res.imageGeneration = some x.generation ∧
      ∀ e ∈ t.catalog.entries, e.defn.persistent = true →
        ∃ c, (image ++ commits.flatten).reverse.find? (fun c => decide (c.id = e.defn.id)) = some c ∧
          e.live = some { working := c.value, committed := c.value, version := c.version }) ∧
  (∀ (s : State) (older : List StreamSector) (z : Stretch) (zs : List Stretch) (pre : List Slot) (n : Nat) (image : List Change),
    s.ctl.start = .replaying → s.catalog.state = .sealed → s.IdsAscending →
    s.nv.stream = older ++ (z :: zs).flatMap (fun y => y.sectors) → StretchesFollow s.catalog.entries n (z :: zs) →
    z.before = pre ++ groupSlots .image n image → pre.length < z.first.slots.length →
    image.map (fun c => c.id) = (s.catalog.entries.filter (fun e => e.defn.persistent)).map (fun e => e.defn.id) →
    (∀ c ∈ image, c.Agrees s.catalog.entries) →
    ∃ t res, exec .replayEnd s = .next t ∧ t.ctl.replay = some res ∧
      t.store.durable = n + (stretchCommits (z :: zs)).length ∧ res.groups = (stretchCommits (z :: zs)).length + 1 ∧
      res.imageGeneration = some z.first.generation ∧ (∀ y ∈ (z :: zs).getLast?, y.Ends res.outcome) ∧
      res.skipped =
        ((z :: zs).dropLast.flatMap (fun y => if y.tail = [] then [] else y.behind)).map (fun x => x.sector) ∧
      (∀ (as : List Stretch) (y : Stretch) (bs : List Stretch), z :: zs = as ++ y :: bs → as = [] ∨ y.commits ≠ [] →
        (∀ b ∈ bs, b.commits = []) →
        res.endSector = (y.run.take y.reached).getLast?.map (fun x => x.sector) ∧
        res.later = (y.behind ++ bs.flatMap (fun b => b.sectors)).map (fun x => x.sector) ∧
        (res.tail = true ↔ y.tail ≠ [] ∨ ∃ x ∈ y.unread ++ bs.flatMap (fun b => b.sectors), x.slots ≠ [])) ∧
      ∀ e ∈ t.catalog.entries, e.defn.persistent = true →
        ∃ c, (image ++ (stretchCommits (z :: zs)).flatten).reverse.find? (fun c => decide (c.id = e.defn.id)) = some c ∧
          e.live = some { working := c.value, committed := c.value, version := c.version }) ∧
  (∀ nv : NonVol, nv.stream.Pairwise (fun x y => x.generation ≤ y.generation) ∧
    ∀ x, x ∈ nv.stream ↔ ∃ z ∈ nv.ring, z.generation = .val x.generation ∧ nv.base ≤ x.generation ∧
      x = { sector := z.sector, generation := x.generation, flag := z.restart, slots := z.content } ∧
      (if z.sector ∈ nv.retireMap ∨ z.eraseCount = .val 100000 then z.content ≠ []
       else z.eraseCount ≠ .blank ∧ z.eraseCount ≠ .torn)) ∧
  (∀ s : State, s.ctl.start = .replaying → s.catalog.state ≠ .sealed →
    ∃ t, exec .replayEnd s = .next t ∧ t.ctl.start = .cleanup ∧ t.ctl.replay = some .nothing ∧ t.store.durable = 0 ∧
      t.catalog = s.catalog ∧ t.nv = s.nv)

/-- At the end of cleanup the part is READY: START fills the kept place of both ports with one content, the retired sectors of the ring
counted in it, and port B takes the sealed rate. Each ring sector has taken its role, but for the one on which the store, choosing at
once, starts an erase or opens for an image; the restart note, the compaction and the sector opened last are those of R118, the last one
also with an EMPTY catalog; after NO_IMAGE an image is owed (R82, R87, R109, R111, R117 to R120). -/
def Obligations.CleanupEndPlacesStart : Prop :=
  ∀ (s : State) (res : ReplayResult) (qa qb : List OutMsg), s.ctl.start = .cleanup → s.ctl.replay = some res →
    s.store.pend = none →
    s.portA.outbound = { seq := 0, body := .kept } :: qa → s.portB.outbound = { seq := 0, body := .kept } :: qb →
    (∀ m ∈ qa ++ qb, m.body ≠ .kept) →
    ∃ t r, exec .cleanupEnd s = .next t ∧ t.ctl = { s.ctl with start := .ready } ∧
      t.portA.outbound = { seq := 0, body := .start r } :: qa ∧ t.portB.outbound = { seq := 0, body := .start r } :: qb ∧
      t.portA.outCount = 1 ∧ t.portB.outCount = 1 ∧
      r.cause = s.ctl.cause.getD .powerOn ∧ r.catState = s.catalog.state ∧ r.outcome = res.outcome ∧ r.groups = res.groups ∧
      r.supply = s.ctl.supply ∧ r.digest = s.catalog.digest ∧
      (s.catalog.state = .sealed → r.durable = s.store.durable ∧
        (r.mode = .readOnly ↔ s.nv.ring.length < r.retired + (2 * s.store.reserve + 4))) ∧
      (s.catalog.state ≠ .sealed → r.durable = 0 ∧ r.mode = .writable) ∧
      t.rateInUse = (if s.catalog.state = .sealed then s.catalog.setup.rate else .r115200) ∧
      t.catalog = s.catalog ∧ t.stack = s.stack ∧ t.nv = s.nv ∧ t.attnA = true ∧
      r.retired = (s.nv.ring.filter (fun z => decide (z.sector ∈ s.nv.retireMap ∨ z.eraseCount = .val 100000))).length ∧
      (t.store.imageOwed = true ↔ s.catalog.state = .sealed ∧ res.outcome = .noImage) ∧
      t.store.durable = r.durable ∧ t.store.reserve = (if s.catalog.state = .sealed then s.store.reserve else 0) ∧
      (s.store.operation = .idle → s.store.arrayOp = .none →
        let retired := fun (z : RingSector) => z.sector ∈ s.nv.retireMap ∨ z.eraseCount = .val 100000
        let half := fun (z : RingSector) =>
          z.eraseCount = .blank ∨ z.eraseCount = .torn ∨ z.generation = .torn ∨ (z.generation = .blank ∧ z.content ≠ [])
        let kept := fun (z : RingSector) (g : Nat) => s.catalog.state = .sealed ∧
          (∃ ig, res.imageGeneration = some ig ∧ ig ≤ g) ∧ z.sector ∉ res.skipped ∧ z.sector ∉ res.later ∧ z.content ≠ []
        let roleIs := fun (z : RingSector) (x : Role) =>
          (retired z → x = .retired) ∧ (¬ retired z → half z → x = .stale) ∧
          (¬ retired z → ¬ half z → z.generation = .blank → x = .free) ∧
          (¬ retired z → ¬ half z → ∀ g, z.generation = .val g → (kept z g → x = .full) ∧ (¬ kept z g → x = .stale))
        (∀ y ∈ t.store.table, ∃ z ∈ s.nv.ring, z.sector = y.sector ∧
          (t.store.arrayOp = .erase y.sector ∨ (∃ g f, t.store.arrayOp = .header y.sector g f) ∨ roleIs z y.role)) ∧
        (∀ k, t.store.arrayOp = .erase k →
          s.catalog.state = .sealed ∧ s.ctl.supply = .normal ∧ ∃ z ∈ s.nv.ring, z.sector = k ∧ roleIs z .stale) ∧
        (∀ k g f, t.store.arrayOp = .header k g f →
          f = res.tail ∧ s.catalog.state = .sealed ∧ s.ctl.supply = .normal ∧ t.store.compaction = .running .first ∧
          ∃ z ∈ s.nv.ring, z.sector = k ∧ roleIs z .free) ∧
        (s.catalog.state = .sealed →
          let free := (s.nv.ring.filter (fun z => decide (
            ¬ (z.sector ∈ s.nv.retireMap ∨ z.eraseCount = .val 100000) ∧ z.eraseCount ≠ .blank ∧ z.eraseCount ≠ .torn ∧
            z.generation = .blank ∧ z.content = []))).length
          let wanted := r.mode = .writable ∧ (free < s.store.reserve + 3 ∨ res.outcome = .noImage)
          (wanted → t.store.compaction = .requested .first ∨ t.store.compaction = .running .first ∨
            (t.store.compaction = .none ∧ t.store.mode = .readOnly)) ∧
          (¬ wanted → t.store.compaction = .none ∧ t.store.mode = r.mode)) ∧
        ((∀ k g f, t.store.arrayOp ≠ .header k g f) →
          (s.catalog.state = .sealed → t.store.restartNote = res.tail) ∧
          (∀ k, t.store.openedLast = some k → ∃ y ∈ t.store.table, ∃ g, y.sector = k ∧ y.generation = some g ∧
            ∀ x ∈ t.store.table, ∀ h, x.generation = some h → h ≤ g) ∧
          (t.store.openedLast = none → ∀ x ∈ t.store.table, x.generation = none)))

/-- A message sent whole leaves the head of its port's queue from READY on, and nothing is sent before; ATTN_A is high exactly from
READY on while port A's queue holds a message that is no kept place. Its bytes go out one by one from the head message, on port A each
while one is clocked in, and a filler of zero where there is none; after the last the message is sent (R109, R163 to R165; that the
filler is what goes out before READY while answers wait is the model's choice, log 39). -/
def Obligations.SentMessageLeavesTheQueue : Prop :=
  (∀ (s : State) (m : OutMsg) (rest : List OutMsg), s.ctl.start = .ready → s.portA.outbound = m :: rest →
    exec .messageSentA s = .next { s with portA := { s.portA with outbound := rest, outPos := 0, sent := m.wire } }) ∧
  (∀ (s : State) (m : OutMsg) (rest : List OutMsg), s.ctl.start = .ready → s.portB.outbound = m :: rest →
    exec .messageSentB s = .next { s with portB := { s.portB with outbound := rest, outPos := 0, sent := m.wire } }) ∧
  (∀ s : State, s.ctl.start ≠ .ready → exec .messageSentA s = .next s ∧ exec .messageSentB s = .next s ∧ s.attnA = false) ∧
  (∀ s : State, s.ctl.start = .ready → (s.attnA = true ↔ ∃ m ∈ s.portA.outbound, m.body ≠ .kept)) ∧
  (∀ (s : State) (p : Port) (m : OutMsg) (rest : List OutMsg) (b : Byte), s.ctl.start = .ready → (s.port p).outbound = m :: rest →
    m.wire[(s.port p).outPos]? = some b →
    let s1 := s.modPort p (fun x => { x with outPos := x.outPos + 1 })
    s.nextByte p = some b ∧ (p = .A → s.clockedOut = b) ∧ ((s.port p).outPos + 1 < m.wire.length → s.sendByte p = s1) ∧
    ((s.port p).outPos + 1 = m.wire.length →
      s.sendByte p = { s1 with pending := s1.pending ++ [match p with | .A => .messageSentA | .B => .messageSentB] })) ∧
  (∀ (s : State) (p : Port), s.ctl.start ≠ .ready ∨ (s.port p).outbound = [] → s.nextByte p = none ∧ s.sendByte p = s) ∧
  (∀ (s : State) (v : Levels) (b : Byte), s.nextByte .A = none →
    s.clockedOut = 0 ∧ s.exchangeByte v b = s.receiveByte .A v b)

/-- Every step keeps each port's queue with its reserved places at 4 messages, its window at 2 requests and its cache at 4 entries,
with no seq twice in either (R168 to R172). -/
def Obligations.LinkQueuesStayBounded : Prop :=
  ∀ s t : State, s.portA.LinkBounded → s.portB.LinkBounded → step s = .next t → t.portA.LinkBounded ∧ t.portB.LinkBounded

/-- The reset state meets every invariant that steps keep, with its RAM lost and nothing waiting (R50, R125; the blank array is the
model's choice, log 7). -/
def Obligations.ResetMeetsTheInvariants : Prop :=
  State.reset.RamLost ∧ State.reset.pending = [] ∧ State.reset.IdsAscending ∧ State.reset.PoolConserved ∧
  State.reset.StackBounded ∧ State.reset.Coherent ∧ State.reset.UndoDistinct ∧ State.reset.ChangesFixed ∧
  State.reset.ViewsRestorable ∧ State.reset.portA.NoticesBounded ∧ State.reset.portB.NoticesBounded ∧
  State.reset.portA.LinkBounded ∧ State.reset.portB.LinkBounded

end
end

