-- ==== Sys2Proof/Laws/State.lean ====
section
/-! SUPPORT. One lemma per field per update of State: which field an update sets, and which it leaves. -/

namespace Sys2Proof.Machine

open Sys2Proof

/-! ### The two ports -/

@[simp] theorem State.port_A (s : State) : s.port .A = s.portA := rfl
@[simp] theorem State.port_B (s : State) : s.port .B = s.portB := rfl
@[simp] theorem State.setPort_A (s : State) (x : PortState) : s.setPort .A x = { s with portA := x } := rfl
@[simp] theorem State.setPort_B (s : State) (x : PortState) : s.setPort .B x = { s with portB := x } := rfl
theorem State.port_setPort_self (s : State) (p : Port) (x : PortState) : (s.setPort p x).port p = x := by cases p <;> rfl
theorem State.port_setPort_other (s : State) (p : Port) (x : PortState) :
    (s.setPort p x).port (otherPort p) = s.port (otherPort p) := by cases p <;> rfl
theorem State.port_modPort_self (s : State) (p : Port) (f : PortState → PortState) : (s.modPort p f).port p = f (s.port p) := by
  cases p <;> rfl
theorem State.port_modPort_other (s : State) (p : Port) (f : PortState → PortState) :
    (s.modPort p f).port (otherPort p) = s.port (otherPort p) := by cases p <;> rfl
theorem State.modPort_modPort (s : State) (p : Port) (f g : PortState → PortState) :
    (s.modPort p f).modPort p g = s.modPort p (fun x => g (f x)) := by cases p <;> rfl
theorem State.modPort_id (s : State) (p : Port) : s.modPort p (fun x => x) = s := by cases p <;> rfl
@[simp] theorem otherPort_otherPort (p : Port) : otherPort (otherPort p) = p := by cases p <;> rfl

/-! ### Updates of a port leave everything else -/

@[simp] theorem State.setPort_nv (s : State) (p : Port) (x : PortState) : (s.setPort p x).nv = s.nv := by cases p <;> rfl
@[simp] theorem State.setPort_catalog (s : State) (p : Port) (x : PortState) : (s.setPort p x).catalog = s.catalog := by cases p <;> rfl
@[simp] theorem State.setPort_stack (s : State) (p : Port) (x : PortState) : (s.setPort p x).stack = s.stack := by cases p <;> rfl
@[simp] theorem State.setPort_commit (s : State) (p : Port) (x : PortState) : (s.setPort p x).commit = s.commit := by cases p <;> rfl
@[simp] theorem State.setPort_store (s : State) (p : Port) (x : PortState) : (s.setPort p x).store = s.store := by cases p <;> rfl
@[simp] theorem State.setPort_ctl (s : State) (p : Port) (x : PortState) : (s.setPort p x).ctl = s.ctl := by cases p <;> rfl
@[simp] theorem State.setPort_breakLow (s : State) (p : Port) (x : PortState) : (s.setPort p x).breakLow = s.breakLow := by cases p <;> rfl
@[simp] theorem State.setPort_rateInUse (s : State) (p : Port) (x : PortState) : (s.setPort p x).rateInUse = s.rateInUse := by cases p <;> rfl
@[simp] theorem State.setPort_pending (s : State) (p : Port) (x : PortState) : (s.setPort p x).pending = s.pending := by cases p <;> rfl
@[simp] theorem State.setPort_draws (s : State) (p : Port) (x : PortState) : (s.setPort p x).draws = s.draws := by cases p <;> rfl

@[simp] theorem State.modPort_nv (s : State) (p : Port) (f : PortState → PortState) : (s.modPort p f).nv = s.nv := by cases p <;> rfl
@[simp] theorem State.modPort_catalog (s : State) (p : Port) (f : PortState → PortState) : (s.modPort p f).catalog = s.catalog := by cases p <;> rfl
@[simp] theorem State.modPort_stack (s : State) (p : Port) (f : PortState → PortState) : (s.modPort p f).stack = s.stack := by cases p <;> rfl
@[simp] theorem State.modPort_commit (s : State) (p : Port) (f : PortState → PortState) : (s.modPort p f).commit = s.commit := by cases p <;> rfl
@[simp] theorem State.modPort_store (s : State) (p : Port) (f : PortState → PortState) : (s.modPort p f).store = s.store := by cases p <;> rfl
@[simp] theorem State.modPort_ctl (s : State) (p : Port) (f : PortState → PortState) : (s.modPort p f).ctl = s.ctl := by cases p <;> rfl
@[simp] theorem State.modPort_breakLow (s : State) (p : Port) (f : PortState → PortState) : (s.modPort p f).breakLow = s.breakLow := by cases p <;> rfl
@[simp] theorem State.modPort_rateInUse (s : State) (p : Port) (f : PortState → PortState) : (s.modPort p f).rateInUse = s.rateInUse := by cases p <;> rfl
@[simp] theorem State.modPort_pending (s : State) (p : Port) (f : PortState → PortState) : (s.modPort p f).pending = s.pending := by cases p <;> rfl
@[simp] theorem State.modPort_draws (s : State) (p : Port) (f : PortState → PortState) : (s.modPort p f).draws = s.draws := by cases p <;> rfl

@[simp] theorem State.counting_nv (s : State) (p : Port) (f : Counters → Counters) : (s.counting p f).nv = s.nv := by cases p <;> rfl
@[simp] theorem State.counting_catalog (s : State) (p : Port) (f : Counters → Counters) : (s.counting p f).catalog = s.catalog := by cases p <;> rfl
@[simp] theorem State.counting_stack (s : State) (p : Port) (f : Counters → Counters) : (s.counting p f).stack = s.stack := by cases p <;> rfl
@[simp] theorem State.counting_commit (s : State) (p : Port) (f : Counters → Counters) : (s.counting p f).commit = s.commit := by cases p <;> rfl
@[simp] theorem State.counting_store (s : State) (p : Port) (f : Counters → Counters) : (s.counting p f).store = s.store := by cases p <;> rfl
@[simp] theorem State.counting_ctl (s : State) (p : Port) (f : Counters → Counters) : (s.counting p f).ctl = s.ctl := by cases p <;> rfl
@[simp] theorem State.counting_breakLow (s : State) (p : Port) (f : Counters → Counters) : (s.counting p f).breakLow = s.breakLow := by cases p <;> rfl
@[simp] theorem State.counting_rateInUse (s : State) (p : Port) (f : Counters → Counters) : (s.counting p f).rateInUse = s.rateInUse := by cases p <;> rfl
@[simp] theorem State.counting_pending (s : State) (p : Port) (f : Counters → Counters) : (s.counting p f).pending = s.pending := by cases p <;> rfl
@[simp] theorem State.counting_draws (s : State) (p : Port) (f : Counters → Counters) : (s.counting p f).draws = s.draws := by cases p <;> rfl

@[simp] theorem State.stray_nv (s : State) (p : Port) : (s.stray p).nv = s.nv := by cases p <;> rfl
@[simp] theorem State.stray_catalog (s : State) (p : Port) : (s.stray p).catalog = s.catalog := by cases p <;> rfl
@[simp] theorem State.stray_stack (s : State) (p : Port) : (s.stray p).stack = s.stack := by cases p <;> rfl
@[simp] theorem State.stray_commit (s : State) (p : Port) : (s.stray p).commit = s.commit := by cases p <;> rfl
@[simp] theorem State.stray_store (s : State) (p : Port) : (s.stray p).store = s.store := by cases p <;> rfl
@[simp] theorem State.stray_ctl (s : State) (p : Port) : (s.stray p).ctl = s.ctl := by cases p <;> rfl
@[simp] theorem State.stray_breakLow (s : State) (p : Port) : (s.stray p).breakLow = s.breakLow := by cases p <;> rfl
@[simp] theorem State.stray_rateInUse (s : State) (p : Port) : (s.stray p).rateInUse = s.rateInUse := by cases p <;> rfl
@[simp] theorem State.stray_pending (s : State) (p : Port) : (s.stray p).pending = s.pending := by cases p <;> rfl
@[simp] theorem State.stray_draws (s : State) (p : Port) : (s.stray p).draws = s.draws := by cases p <;> rfl

@[simp] theorem State.noticeTo_nv (s : State) (p : Port) (n : Notice) : (s.noticeTo p n).nv = s.nv := by cases p <;> rfl
@[simp] theorem State.noticeTo_catalog (s : State) (p : Port) (n : Notice) : (s.noticeTo p n).catalog = s.catalog := by cases p <;> rfl
@[simp] theorem State.noticeTo_stack (s : State) (p : Port) (n : Notice) : (s.noticeTo p n).stack = s.stack := by cases p <;> rfl
@[simp] theorem State.noticeTo_commit (s : State) (p : Port) (n : Notice) : (s.noticeTo p n).commit = s.commit := by cases p <;> rfl
@[simp] theorem State.noticeTo_store (s : State) (p : Port) (n : Notice) : (s.noticeTo p n).store = s.store := by cases p <;> rfl
@[simp] theorem State.noticeTo_ctl (s : State) (p : Port) (n : Notice) : (s.noticeTo p n).ctl = s.ctl := by cases p <;> rfl
@[simp] theorem State.noticeTo_breakLow (s : State) (p : Port) (n : Notice) : (s.noticeTo p n).breakLow = s.breakLow := by cases p <;> rfl
@[simp] theorem State.noticeTo_rateInUse (s : State) (p : Port) (n : Notice) : (s.noticeTo p n).rateInUse = s.rateInUse := by cases p <;> rfl
@[simp] theorem State.noticeTo_pending (s : State) (p : Port) (n : Notice) : (s.noticeTo p n).pending = s.pending := by cases p <;> rfl
@[simp] theorem State.noticeTo_draws (s : State) (p : Port) (n : Notice) : (s.noticeTo p n).draws = s.draws := by cases p <;> rfl

@[simp] theorem State.noticeBoth_nv (s : State) (n : Notice) : (s.noticeBoth n).nv = s.nv := by rfl
@[simp] theorem State.noticeBoth_catalog (s : State) (n : Notice) : (s.noticeBoth n).catalog = s.catalog := by rfl
@[simp] theorem State.noticeBoth_stack (s : State) (n : Notice) : (s.noticeBoth n).stack = s.stack := by rfl
@[simp] theorem State.noticeBoth_commit (s : State) (n : Notice) : (s.noticeBoth n).commit = s.commit := by rfl
@[simp] theorem State.noticeBoth_store (s : State) (n : Notice) : (s.noticeBoth n).store = s.store := by rfl
@[simp] theorem State.noticeBoth_ctl (s : State) (n : Notice) : (s.noticeBoth n).ctl = s.ctl := by rfl
@[simp] theorem State.noticeBoth_breakLow (s : State) (n : Notice) : (s.noticeBoth n).breakLow = s.breakLow := by rfl
@[simp] theorem State.noticeBoth_rateInUse (s : State) (n : Notice) : (s.noticeBoth n).rateInUse = s.rateInUse := by rfl
@[simp] theorem State.noticeBoth_pending (s : State) (n : Notice) : (s.noticeBoth n).pending = s.pending := by rfl
@[simp] theorem State.noticeBoth_draws (s : State) (n : Notice) : (s.noticeBoth n).draws = s.draws := by rfl

@[simp] theorem State.noticesTo_nv (s : State) (p : Port) (ns : List Notice) : (s.noticesTo p ns).nv = s.nv := by cases p <;> rfl
@[simp] theorem State.noticesTo_catalog (s : State) (p : Port) (ns : List Notice) : (s.noticesTo p ns).catalog = s.catalog := by cases p <;> rfl
@[simp] theorem State.noticesTo_stack (s : State) (p : Port) (ns : List Notice) : (s.noticesTo p ns).stack = s.stack := by cases p <;> rfl
@[simp] theorem State.noticesTo_commit (s : State) (p : Port) (ns : List Notice) : (s.noticesTo p ns).commit = s.commit := by cases p <;> rfl
@[simp] theorem State.noticesTo_store (s : State) (p : Port) (ns : List Notice) : (s.noticesTo p ns).store = s.store := by cases p <;> rfl
@[simp] theorem State.noticesTo_ctl (s : State) (p : Port) (ns : List Notice) : (s.noticesTo p ns).ctl = s.ctl := by cases p <;> rfl
@[simp] theorem State.noticesTo_breakLow (s : State) (p : Port) (ns : List Notice) : (s.noticesTo p ns).breakLow = s.breakLow := by cases p <;> rfl
@[simp] theorem State.noticesTo_rateInUse (s : State) (p : Port) (ns : List Notice) : (s.noticesTo p ns).rateInUse = s.rateInUse := by cases p <;> rfl
@[simp] theorem State.noticesTo_pending (s : State) (p : Port) (ns : List Notice) : (s.noticesTo p ns).pending = s.pending := by cases p <;> rfl
@[simp] theorem State.noticesTo_draws (s : State) (p : Port) (ns : List Notice) : (s.noticesTo p ns).draws = s.draws := by cases p <;> rfl

@[simp] theorem State.startLease_nv (s : State) (p : Port) : (s.startLease p).nv = s.nv := by cases p <;> rfl
@[simp] theorem State.startLease_catalog (s : State) (p : Port) : (s.startLease p).catalog = s.catalog := by cases p <;> rfl
@[simp] theorem State.startLease_stack (s : State) (p : Port) : (s.startLease p).stack = s.stack := by cases p <;> rfl
@[simp] theorem State.startLease_commit (s : State) (p : Port) : (s.startLease p).commit = s.commit := by cases p <;> rfl
@[simp] theorem State.startLease_store (s : State) (p : Port) : (s.startLease p).store = s.store := by cases p <;> rfl
@[simp] theorem State.startLease_ctl (s : State) (p : Port) : (s.startLease p).ctl = s.ctl := by cases p <;> rfl
@[simp] theorem State.startLease_breakLow (s : State) (p : Port) : (s.startLease p).breakLow = s.breakLow := by cases p <;> rfl
@[simp] theorem State.startLease_rateInUse (s : State) (p : Port) : (s.startLease p).rateInUse = s.rateInUse := by cases p <;> rfl
@[simp] theorem State.startLease_pending (s : State) (p : Port) : (s.startLease p).pending = s.pending := by cases p <;> rfl
@[simp] theorem State.startLease_draws (s : State) (p : Port) : (s.startLease p).draws = s.draws := by cases p <;> rfl

@[simp] theorem State.stopLease_nv (s : State) (p : Port) : (s.stopLease p).nv = s.nv := by cases p <;> rfl
@[simp] theorem State.stopLease_catalog (s : State) (p : Port) : (s.stopLease p).catalog = s.catalog := by cases p <;> rfl
@[simp] theorem State.stopLease_stack (s : State) (p : Port) : (s.stopLease p).stack = s.stack := by cases p <;> rfl
@[simp] theorem State.stopLease_commit (s : State) (p : Port) : (s.stopLease p).commit = s.commit := by cases p <;> rfl
@[simp] theorem State.stopLease_store (s : State) (p : Port) : (s.stopLease p).store = s.store := by cases p <;> rfl
@[simp] theorem State.stopLease_ctl (s : State) (p : Port) : (s.stopLease p).ctl = s.ctl := by cases p <;> rfl
@[simp] theorem State.stopLease_breakLow (s : State) (p : Port) : (s.stopLease p).breakLow = s.breakLow := by cases p <;> rfl
@[simp] theorem State.stopLease_rateInUse (s : State) (p : Port) : (s.stopLease p).rateInUse = s.rateInUse := by cases p <;> rfl
@[simp] theorem State.stopLease_pending (s : State) (p : Port) : (s.stopLease p).pending = s.pending := by cases p <;> rfl
@[simp] theorem State.stopLease_draws (s : State) (p : Port) : (s.stopLease p).draws = s.draws := by cases p <;> rfl

@[simp] theorem State.restartLease_nv (s : State) (p : Port) : (s.restartLease p).nv = s.nv := by cases p <;> rfl
@[simp] theorem State.restartLease_catalog (s : State) (p : Port) : (s.restartLease p).catalog = s.catalog := by cases p <;> rfl
@[simp] theorem State.restartLease_stack (s : State) (p : Port) : (s.restartLease p).stack = s.stack := by cases p <;> rfl
@[simp] theorem State.restartLease_commit (s : State) (p : Port) : (s.restartLease p).commit = s.commit := by cases p <;> rfl
@[simp] theorem State.restartLease_store (s : State) (p : Port) : (s.restartLease p).store = s.store := by cases p <;> rfl
@[simp] theorem State.restartLease_ctl (s : State) (p : Port) : (s.restartLease p).ctl = s.ctl := by cases p <;> rfl
@[simp] theorem State.restartLease_breakLow (s : State) (p : Port) : (s.restartLease p).breakLow = s.breakLow := by cases p <;> rfl
@[simp] theorem State.restartLease_rateInUse (s : State) (p : Port) : (s.restartLease p).rateInUse = s.rateInUse := by cases p <;> rfl
@[simp] theorem State.restartLease_pending (s : State) (p : Port) : (s.restartLease p).pending = s.pending := by cases p <;> rfl
@[simp] theorem State.restartLease_draws (s : State) (p : Port) : (s.restartLease p).draws = s.draws := by cases p <;> rfl

@[simp] theorem State.enlist_nv (s : State) (p : Port) (q k : Byte) : (s.enlist p q k).nv = s.nv := by cases p <;> rfl
@[simp] theorem State.enlist_catalog (s : State) (p : Port) (q k : Byte) : (s.enlist p q k).catalog = s.catalog := by cases p <;> rfl
@[simp] theorem State.enlist_stack (s : State) (p : Port) (q k : Byte) : (s.enlist p q k).stack = s.stack := by cases p <;> rfl
@[simp] theorem State.enlist_commit (s : State) (p : Port) (q k : Byte) : (s.enlist p q k).commit = s.commit := by cases p <;> rfl
@[simp] theorem State.enlist_store (s : State) (p : Port) (q k : Byte) : (s.enlist p q k).store = s.store := by cases p <;> rfl
@[simp] theorem State.enlist_ctl (s : State) (p : Port) (q k : Byte) : (s.enlist p q k).ctl = s.ctl := by cases p <;> rfl
@[simp] theorem State.enlist_breakLow (s : State) (p : Port) (q k : Byte) : (s.enlist p q k).breakLow = s.breakLow := by cases p <;> rfl
@[simp] theorem State.enlist_rateInUse (s : State) (p : Port) (q k : Byte) : (s.enlist p q k).rateInUse = s.rateInUse := by cases p <;> rfl
@[simp] theorem State.enlist_pending (s : State) (p : Port) (q k : Byte) : (s.enlist p q k).pending = s.pending := by cases p <;> rfl
@[simp] theorem State.enlist_draws (s : State) (p : Port) (q k : Byte) : (s.enlist p q k).draws = s.draws := by cases p <;> rfl

@[simp] theorem State.reply_nv (s : State) (p : Port) (q k : Byte) (r : Reply) : (s.reply p q k r).nv = s.nv := by cases p <;> rfl
@[simp] theorem State.reply_catalog (s : State) (p : Port) (q k : Byte) (r : Reply) : (s.reply p q k r).catalog = s.catalog := by cases p <;> rfl
@[simp] theorem State.reply_stack (s : State) (p : Port) (q k : Byte) (r : Reply) : (s.reply p q k r).stack = s.stack := by cases p <;> rfl
@[simp] theorem State.reply_commit (s : State) (p : Port) (q k : Byte) (r : Reply) : (s.reply p q k r).commit = s.commit := by cases p <;> rfl
@[simp] theorem State.reply_store (s : State) (p : Port) (q k : Byte) (r : Reply) : (s.reply p q k r).store = s.store := by cases p <;> rfl
@[simp] theorem State.reply_ctl (s : State) (p : Port) (q k : Byte) (r : Reply) : (s.reply p q k r).ctl = s.ctl := by cases p <;> rfl
@[simp] theorem State.reply_breakLow (s : State) (p : Port) (q k : Byte) (r : Reply) : (s.reply p q k r).breakLow = s.breakLow := by cases p <;> rfl
@[simp] theorem State.reply_rateInUse (s : State) (p : Port) (q k : Byte) (r : Reply) : (s.reply p q k r).rateInUse = s.rateInUse := by cases p <;> rfl
@[simp] theorem State.reply_pending (s : State) (p : Port) (q k : Byte) (r : Reply) : (s.reply p q k r).pending = s.pending := by cases p <;> rfl
@[simp] theorem State.reply_draws (s : State) (p : Port) (q k : Byte) (r : Reply) : (s.reply p q k r).draws = s.draws := by cases p <;> rfl

@[simp] theorem State.refuse_nv (s : State) (p : Port) (q k : Byte) (c : RefuseCode) (id : Nat) : (s.refuse p q k c id).nv = s.nv := by cases p <;> rfl
@[simp] theorem State.refuse_catalog (s : State) (p : Port) (q k : Byte) (c : RefuseCode) (id : Nat) : (s.refuse p q k c id).catalog = s.catalog := by cases p <;> rfl
@[simp] theorem State.refuse_stack (s : State) (p : Port) (q k : Byte) (c : RefuseCode) (id : Nat) : (s.refuse p q k c id).stack = s.stack := by cases p <;> rfl
@[simp] theorem State.refuse_commit (s : State) (p : Port) (q k : Byte) (c : RefuseCode) (id : Nat) : (s.refuse p q k c id).commit = s.commit := by cases p <;> rfl
@[simp] theorem State.refuse_store (s : State) (p : Port) (q k : Byte) (c : RefuseCode) (id : Nat) : (s.refuse p q k c id).store = s.store := by cases p <;> rfl
@[simp] theorem State.refuse_ctl (s : State) (p : Port) (q k : Byte) (c : RefuseCode) (id : Nat) : (s.refuse p q k c id).ctl = s.ctl := by cases p <;> rfl
@[simp] theorem State.refuse_breakLow (s : State) (p : Port) (q k : Byte) (c : RefuseCode) (id : Nat) : (s.refuse p q k c id).breakLow = s.breakLow := by cases p <;> rfl
@[simp] theorem State.refuse_rateInUse (s : State) (p : Port) (q k : Byte) (c : RefuseCode) (id : Nat) : (s.refuse p q k c id).rateInUse = s.rateInUse := by cases p <;> rfl
@[simp] theorem State.refuse_pending (s : State) (p : Port) (q k : Byte) (c : RefuseCode) (id : Nat) : (s.refuse p q k c id).pending = s.pending := by cases p <;> rfl
@[simp] theorem State.refuse_draws (s : State) (p : Port) (q k : Byte) (c : RefuseCode) (id : Nat) : (s.refuse p q k c id).draws = s.draws := by cases p <;> rfl

@[simp] theorem State.refuseUncached_nv (s : State) (p : Port) (q k : Byte) (c : RefuseCode) : (s.refuseUncached p q k c).nv = s.nv := by cases p <;> rfl
@[simp] theorem State.refuseUncached_catalog (s : State) (p : Port) (q k : Byte) (c : RefuseCode) : (s.refuseUncached p q k c).catalog = s.catalog := by cases p <;> rfl
@[simp] theorem State.refuseUncached_stack (s : State) (p : Port) (q k : Byte) (c : RefuseCode) : (s.refuseUncached p q k c).stack = s.stack := by cases p <;> rfl
@[simp] theorem State.refuseUncached_commit (s : State) (p : Port) (q k : Byte) (c : RefuseCode) : (s.refuseUncached p q k c).commit = s.commit := by cases p <;> rfl
@[simp] theorem State.refuseUncached_store (s : State) (p : Port) (q k : Byte) (c : RefuseCode) : (s.refuseUncached p q k c).store = s.store := by cases p <;> rfl
@[simp] theorem State.refuseUncached_ctl (s : State) (p : Port) (q k : Byte) (c : RefuseCode) : (s.refuseUncached p q k c).ctl = s.ctl := by cases p <;> rfl
@[simp] theorem State.refuseUncached_breakLow (s : State) (p : Port) (q k : Byte) (c : RefuseCode) : (s.refuseUncached p q k c).breakLow = s.breakLow := by cases p <;> rfl
@[simp] theorem State.refuseUncached_rateInUse (s : State) (p : Port) (q k : Byte) (c : RefuseCode) : (s.refuseUncached p q k c).rateInUse = s.rateInUse := by cases p <;> rfl
@[simp] theorem State.refuseUncached_pending (s : State) (p : Port) (q k : Byte) (c : RefuseCode) : (s.refuseUncached p q k c).pending = s.pending := by cases p <;> rfl
@[simp] theorem State.refuseUncached_draws (s : State) (p : Port) (q k : Byte) (c : RefuseCode) : (s.refuseUncached p q k c).draws = s.draws := by cases p <;> rfl

@[simp] theorem State.answered_nv (s : State) (p : Port) (q k : Byte) (b : Body) (keep : Bool) : (s.answered p q k b keep).nv = s.nv := by cases p <;> rfl
@[simp] theorem State.answered_catalog (s : State) (p : Port) (q k : Byte) (b : Body) (keep : Bool) : (s.answered p q k b keep).catalog = s.catalog := by cases p <;> rfl
@[simp] theorem State.answered_stack (s : State) (p : Port) (q k : Byte) (b : Body) (keep : Bool) : (s.answered p q k b keep).stack = s.stack := by cases p <;> rfl
@[simp] theorem State.answered_commit (s : State) (p : Port) (q k : Byte) (b : Body) (keep : Bool) : (s.answered p q k b keep).commit = s.commit := by cases p <;> rfl
@[simp] theorem State.answered_store (s : State) (p : Port) (q k : Byte) (b : Body) (keep : Bool) : (s.answered p q k b keep).store = s.store := by cases p <;> rfl
@[simp] theorem State.answered_ctl (s : State) (p : Port) (q k : Byte) (b : Body) (keep : Bool) : (s.answered p q k b keep).ctl = s.ctl := by cases p <;> rfl
@[simp] theorem State.answered_breakLow (s : State) (p : Port) (q k : Byte) (b : Body) (keep : Bool) : (s.answered p q k b keep).breakLow = s.breakLow := by cases p <;> rfl
@[simp] theorem State.answered_rateInUse (s : State) (p : Port) (q k : Byte) (b : Body) (keep : Bool) : (s.answered p q k b keep).rateInUse = s.rateInUse := by cases p <;> rfl
@[simp] theorem State.answered_pending (s : State) (p : Port) (q k : Byte) (b : Body) (keep : Bool) : (s.answered p q k b keep).pending = s.pending := by cases p <;> rfl
@[simp] theorem State.answered_draws (s : State) (p : Port) (q k : Byte) (b : Body) (keep : Bool) : (s.answered p q k b keep).draws = s.draws := by cases p <;> rfl

@[simp] theorem State.closeBulk_nv (s : State) (p : Port) (d : DoneRec) : (s.closeBulk p d).nv = s.nv := by cases p <;> rfl
@[simp] theorem State.closeBulk_catalog (s : State) (p : Port) (d : DoneRec) : (s.closeBulk p d).catalog = s.catalog := by cases p <;> rfl
@[simp] theorem State.closeBulk_stack (s : State) (p : Port) (d : DoneRec) : (s.closeBulk p d).stack = s.stack := by cases p <;> rfl
@[simp] theorem State.closeBulk_commit (s : State) (p : Port) (d : DoneRec) : (s.closeBulk p d).commit = s.commit := by cases p <;> rfl
@[simp] theorem State.closeBulk_store (s : State) (p : Port) (d : DoneRec) : (s.closeBulk p d).store = s.store := by cases p <;> rfl
@[simp] theorem State.closeBulk_ctl (s : State) (p : Port) (d : DoneRec) : (s.closeBulk p d).ctl = s.ctl := by cases p <;> rfl
@[simp] theorem State.closeBulk_breakLow (s : State) (p : Port) (d : DoneRec) : (s.closeBulk p d).breakLow = s.breakLow := by cases p <;> rfl
@[simp] theorem State.closeBulk_rateInUse (s : State) (p : Port) (d : DoneRec) : (s.closeBulk p d).rateInUse = s.rateInUse := by cases p <;> rfl
@[simp] theorem State.closeBulk_pending (s : State) (p : Port) (d : DoneRec) : (s.closeBulk p d).pending = s.pending := by cases p <;> rfl
@[simp] theorem State.closeBulk_draws (s : State) (p : Port) (d : DoneRec) : (s.closeBulk p d).draws = s.draws := by cases p <;> rfl

@[simp] theorem State.setBulk_nv (s : State) (p : Port) (b : BulkCtx) : (s.setBulk p b).nv = s.nv := by cases p <;> rfl
@[simp] theorem State.setBulk_catalog (s : State) (p : Port) (b : BulkCtx) : (s.setBulk p b).catalog = s.catalog := by cases p <;> rfl
@[simp] theorem State.setBulk_stack (s : State) (p : Port) (b : BulkCtx) : (s.setBulk p b).stack = s.stack := by cases p <;> rfl
@[simp] theorem State.setBulk_commit (s : State) (p : Port) (b : BulkCtx) : (s.setBulk p b).commit = s.commit := by cases p <;> rfl
@[simp] theorem State.setBulk_store (s : State) (p : Port) (b : BulkCtx) : (s.setBulk p b).store = s.store := by cases p <;> rfl
@[simp] theorem State.setBulk_ctl (s : State) (p : Port) (b : BulkCtx) : (s.setBulk p b).ctl = s.ctl := by cases p <;> rfl
@[simp] theorem State.setBulk_breakLow (s : State) (p : Port) (b : BulkCtx) : (s.setBulk p b).breakLow = s.breakLow := by cases p <;> rfl
@[simp] theorem State.setBulk_rateInUse (s : State) (p : Port) (b : BulkCtx) : (s.setBulk p b).rateInUse = s.rateInUse := by cases p <;> rfl
@[simp] theorem State.setBulk_pending (s : State) (p : Port) (b : BulkCtx) : (s.setBulk p b).pending = s.pending := by cases p <;> rfl
@[simp] theorem State.setBulk_draws (s : State) (p : Port) (b : BulkCtx) : (s.setBulk p b).draws = s.draws := by cases p <;> rfl

@[simp] theorem State.openBulk_nv (s : State) (p : Port) (b : BulkCtx) : (s.openBulk p b).nv = s.nv := by cases p <;> rfl
@[simp] theorem State.openBulk_catalog (s : State) (p : Port) (b : BulkCtx) : (s.openBulk p b).catalog = s.catalog := by cases p <;> rfl
@[simp] theorem State.openBulk_stack (s : State) (p : Port) (b : BulkCtx) : (s.openBulk p b).stack = s.stack := by cases p <;> rfl
@[simp] theorem State.openBulk_commit (s : State) (p : Port) (b : BulkCtx) : (s.openBulk p b).commit = s.commit := by cases p <;> rfl
@[simp] theorem State.openBulk_store (s : State) (p : Port) (b : BulkCtx) : (s.openBulk p b).store = s.store := by cases p <;> rfl
@[simp] theorem State.openBulk_ctl (s : State) (p : Port) (b : BulkCtx) : (s.openBulk p b).ctl = s.ctl := by cases p <;> rfl
@[simp] theorem State.openBulk_breakLow (s : State) (p : Port) (b : BulkCtx) : (s.openBulk p b).breakLow = s.breakLow := by cases p <;> rfl
@[simp] theorem State.openBulk_rateInUse (s : State) (p : Port) (b : BulkCtx) : (s.openBulk p b).rateInUse = s.rateInUse := by cases p <;> rfl
@[simp] theorem State.openBulk_pending (s : State) (p : Port) (b : BulkCtx) : (s.openBulk p b).pending = s.pending := by cases p <;> rfl
@[simp] theorem State.openBulk_draws (s : State) (p : Port) (b : BulkCtx) : (s.openBulk p b).draws = s.draws := by cases p <;> rfl

@[simp] theorem State.setWatch_nv (s : State) (p : Port) (rs : List IdRange) : (s.setWatch p rs).nv = s.nv := by cases p <;> rfl
@[simp] theorem State.setWatch_catalog (s : State) (p : Port) (rs : List IdRange) : (s.setWatch p rs).catalog = s.catalog := by cases p <;> rfl
@[simp] theorem State.setWatch_stack (s : State) (p : Port) (rs : List IdRange) : (s.setWatch p rs).stack = s.stack := by cases p <;> rfl
@[simp] theorem State.setWatch_commit (s : State) (p : Port) (rs : List IdRange) : (s.setWatch p rs).commit = s.commit := by cases p <;> rfl
@[simp] theorem State.setWatch_store (s : State) (p : Port) (rs : List IdRange) : (s.setWatch p rs).store = s.store := by cases p <;> rfl
@[simp] theorem State.setWatch_ctl (s : State) (p : Port) (rs : List IdRange) : (s.setWatch p rs).ctl = s.ctl := by cases p <;> rfl
@[simp] theorem State.setWatch_breakLow (s : State) (p : Port) (rs : List IdRange) : (s.setWatch p rs).breakLow = s.breakLow := by cases p <;> rfl
@[simp] theorem State.setWatch_rateInUse (s : State) (p : Port) (rs : List IdRange) : (s.setWatch p rs).rateInUse = s.rateInUse := by cases p <;> rfl
@[simp] theorem State.setWatch_pending (s : State) (p : Port) (rs : List IdRange) : (s.setWatch p rs).pending = s.pending := by cases p <;> rfl
@[simp] theorem State.setWatch_draws (s : State) (p : Port) (rs : List IdRange) : (s.setWatch p rs).draws = s.draws := by cases p <;> rfl

@[simp] theorem State.framingFault_nv (s : State) (p : Port) : (s.framingFault p).nv = s.nv := by cases p <;> rfl
@[simp] theorem State.framingFault_catalog (s : State) (p : Port) : (s.framingFault p).catalog = s.catalog := by cases p <;> rfl
@[simp] theorem State.framingFault_stack (s : State) (p : Port) : (s.framingFault p).stack = s.stack := by cases p <;> rfl
@[simp] theorem State.framingFault_commit (s : State) (p : Port) : (s.framingFault p).commit = s.commit := by cases p <;> rfl
@[simp] theorem State.framingFault_store (s : State) (p : Port) : (s.framingFault p).store = s.store := by cases p <;> rfl
@[simp] theorem State.framingFault_ctl (s : State) (p : Port) : (s.framingFault p).ctl = s.ctl := by cases p <;> rfl
@[simp] theorem State.framingFault_breakLow (s : State) (p : Port) : (s.framingFault p).breakLow = s.breakLow := by cases p <;> rfl
@[simp] theorem State.framingFault_rateInUse (s : State) (p : Port) : (s.framingFault p).rateInUse = s.rateInUse := by cases p <;> rfl
@[simp] theorem State.framingFault_pending (s : State) (p : Port) : (s.framingFault p).pending = s.pending := by cases p <;> rfl
@[simp] theorem State.framingFault_draws (s : State) (p : Port) : (s.framingFault p).draws = s.draws := by cases p <;> rfl

/-! ### Updates of the store leave everything else -/

@[simp] theorem State.modStore_store (s : State) (f : Store → Store) : (s.modStore f).store = f s.store := rfl
@[simp] theorem State.modStore_nv (s : State) (f : Store → Store) : (s.modStore f).nv = s.nv := rfl
@[simp] theorem State.modStore_catalog (s : State) (f : Store → Store) : (s.modStore f).catalog = s.catalog := rfl
@[simp] theorem State.modStore_stack (s : State) (f : Store → Store) : (s.modStore f).stack = s.stack := rfl
@[simp] theorem State.modStore_commit (s : State) (f : Store → Store) : (s.modStore f).commit = s.commit := rfl
@[simp] theorem State.modStore_ctl (s : State) (f : Store → Store) : (s.modStore f).ctl = s.ctl := rfl
@[simp] theorem State.modStore_breakLow (s : State) (f : Store → Store) : (s.modStore f).breakLow = s.breakLow := rfl
@[simp] theorem State.modStore_rateInUse (s : State) (f : Store → Store) : (s.modStore f).rateInUse = s.rateInUse := rfl
@[simp] theorem State.modStore_pending (s : State) (f : Store → Store) : (s.modStore f).pending = s.pending := rfl
@[simp] theorem State.modStore_draws (s : State) (f : Store → Store) : (s.modStore f).draws = s.draws := rfl
@[simp] theorem State.modStore_portA (s : State) (f : Store → Store) : (s.modStore f).portA = s.portA := rfl
@[simp] theorem State.modStore_portB (s : State) (f : Store → Store) : (s.modStore f).portB = s.portB := rfl

/-! ### Updates of the store's own fields -/

@[simp] theorem Store.closeOff_operation (st : Store) : st.closeOff.operation = st.operation := rfl
@[simp] theorem Store.closeOff_pend (st : Store) : st.closeOff.pend = st.pend := rfl
@[simp] theorem Store.closeOff_compaction (st : Store) : st.closeOff.compaction = st.compaction := rfl
@[simp] theorem Store.closeOff_mode (st : Store) : st.closeOff.mode = st.mode := rfl
@[simp] theorem Store.closeOff_durable (st : Store) : st.closeOff.durable = st.durable := rfl
@[simp] theorem Store.closeOff_reserve (st : Store) : st.closeOff.reserve = st.reserve := rfl
@[simp] theorem Store.closeOff_restartNote (st : Store) : st.closeOff.restartNote = st.restartNote := rfl
@[simp] theorem Store.closeOff_openedLast (st : Store) : st.closeOff.openedLast = st.openedLast := rfl
@[simp] theorem Store.closeOff_writing (st : Store) : st.closeOff.writing = st.writing := rfl
@[simp] theorem Store.closeOff_arrayOp (st : Store) : st.closeOff.arrayOp = st.arrayOp := rfl
@[simp] theorem Store.closeOff_tasks (st : Store) : st.closeOff.tasks = st.tasks := rfl
@[simp] theorem Store.closeOff_wipeFault (st : Store) : st.closeOff.wipeFault = st.wipeFault := rfl
@[simp] theorem Store.closeOff_imageOwed (st : Store) : st.closeOff.imageOwed = st.imageOwed := rfl
@[simp] theorem Store.beginPosition_operation (st : Store) (a : Attempt) : (st.beginPosition a).operation = st.operation := by cases a <;> rfl
@[simp] theorem Store.beginPosition_pend (st : Store) (a : Attempt) : (st.beginPosition a).pend = st.pend := by cases a <;> rfl
@[simp] theorem Store.beginPosition_compaction (st : Store) (a : Attempt) : (st.beginPosition a).compaction = st.compaction := by cases a <;> rfl
@[simp] theorem Store.beginPosition_mode (st : Store) (a : Attempt) : (st.beginPosition a).mode = st.mode := by cases a <;> rfl
@[simp] theorem Store.beginPosition_durable (st : Store) (a : Attempt) : (st.beginPosition a).durable = st.durable := by cases a <;> rfl
@[simp] theorem Store.beginPosition_reserve (st : Store) (a : Attempt) : (st.beginPosition a).reserve = st.reserve := by cases a <;> rfl
@[simp] theorem Store.beginPosition_restartNote (st : Store) (a : Attempt) : (st.beginPosition a).restartNote = st.restartNote := by cases a <;> rfl
@[simp] theorem Store.beginPosition_openedLast (st : Store) (a : Attempt) : (st.beginPosition a).openedLast = st.openedLast := by cases a <;> rfl
@[simp] theorem Store.beginPosition_writing (st : Store) (a : Attempt) : (st.beginPosition a).writing = st.writing := by cases a <;> rfl
@[simp] theorem Store.beginPosition_arrayOp (st : Store) (a : Attempt) : (st.beginPosition a).arrayOp = st.arrayOp := by cases a <;> rfl
@[simp] theorem Store.beginPosition_tasks (st : Store) (a : Attempt) : (st.beginPosition a).tasks = st.tasks := by cases a <;> rfl
@[simp] theorem Store.beginPosition_wipeFault (st : Store) (a : Attempt) : (st.beginPosition a).wipeFault = st.wipeFault := by cases a <;> rfl
@[simp] theorem Store.beginPosition_imageOwed (st : Store) (a : Attempt) : (st.beginPosition a).imageOwed = st.imageOwed := by cases a <;> rfl
@[simp] theorem Store.dropRequest_operation (st : Store) : st.dropRequest.operation = st.operation := rfl
@[simp] theorem Store.dropRequest_pend (st : Store) : st.dropRequest.pend = st.pend := rfl
@[simp] theorem Store.dropRequest_mode (st : Store) : st.dropRequest.mode = st.mode := rfl
@[simp] theorem Store.dropRequest_durable (st : Store) : st.dropRequest.durable = st.durable := rfl
@[simp] theorem Store.dropRequest_reserve (st : Store) : st.dropRequest.reserve = st.reserve := rfl
@[simp] theorem Store.dropRequest_restartNote (st : Store) : st.dropRequest.restartNote = st.restartNote := rfl
@[simp] theorem Store.dropRequest_openedLast (st : Store) : st.dropRequest.openedLast = st.openedLast := rfl
@[simp] theorem Store.dropRequest_writing (st : Store) : st.dropRequest.writing = st.writing := rfl
@[simp] theorem Store.dropRequest_arrayOp (st : Store) : st.dropRequest.arrayOp = st.arrayOp := rfl
@[simp] theorem Store.dropRequest_tasks (st : Store) : st.dropRequest.tasks = st.tasks := rfl
@[simp] theorem Store.dropRequest_wipeFault (st : Store) : st.dropRequest.wipeFault = st.wipeFault := rfl
@[simp] theorem Store.dropRequest_imageOwed (st : Store) : st.dropRequest.imageOwed = st.imageOwed := rfl
@[simp] theorem Store.dropRequest_table (st : Store) : st.dropRequest.table = st.table := rfl

/-! ### Updates of the array -/

@[simp] theorem NonVol.programMap_ring (nv : NonVol) (ks : List Nat) (ok : Bool) (n : Nat) : (nv.programMap ks ok n).ring = nv.ring := rfl
@[simp] theorem NonVol.programMap_area (nv : NonVol) (ks : List Nat) (ok : Bool) (n : Nat) : (nv.programMap ks ok n).area = nv.area := rfl
@[simp] theorem NonVol.programMap_true (nv : NonVol) (ks : List Nat) (n : Nat) : (nv.programMap ks true n).retireMap = ks := rfl
@[simp] theorem NonVol.programAreaHeader_ring (nv : NonVol) (k : Nat) (ks : List Nat) (ok : Bool) (n : Nat) :
    (nv.programAreaHeader k ks ok n).ring = nv.ring := by unfold NonVol.programAreaHeader; dsimp only; split <;> rfl

/-! ### The state after a reset -/

@[simp] theorem State.held_nv (nv : NonVol) (c : Option ResetCause) (v : Supply) (n : Nat) (cs : List Instr) : (State.held nv c v n cs).nv = nv := rfl
@[simp] theorem State.held_catalog (nv : NonVol) (c : Option ResetCause) (v : Supply) (n : Nat) (cs : List Instr) : (State.held nv c v n cs).catalog = .reset := rfl
@[simp] theorem State.held_stack (nv : NonVol) (c : Option ResetCause) (v : Supply) (n : Nat) (cs : List Instr) : (State.held nv c v n cs).stack = .reset := rfl
@[simp] theorem State.held_commit (nv : NonVol) (c : Option ResetCause) (v : Supply) (n : Nat) (cs : List Instr) : (State.held nv c v n cs).commit = none := rfl
@[simp] theorem State.held_store (nv : NonVol) (c : Option ResetCause) (v : Supply) (n : Nat) (cs : List Instr) : (State.held nv c v n cs).store = .reset := rfl
@[simp] theorem State.held_portA (nv : NonVol) (c : Option ResetCause) (v : Supply) (n : Nat) (cs : List Instr) : (State.held nv c v n cs).portA = .reset := rfl
@[simp] theorem State.held_portB (nv : NonVol) (c : Option ResetCause) (v : Supply) (n : Nat) (cs : List Instr) : (State.held nv c v n cs).portB = .reset := rfl
@[simp] theorem State.held_breakLow (nv : NonVol) (c : Option ResetCause) (v : Supply) (n : Nat) (cs : List Instr) : (State.held nv c v n cs).breakLow = false := rfl
@[simp] theorem State.held_pending (nv : NonVol) (c : Option ResetCause) (v : Supply) (n : Nat) (cs : List Instr) : (State.held nv c v n cs).pending = cs := rfl
@[simp] theorem State.held_draws (nv : NonVol) (c : Option ResetCause) (v : Supply) (n : Nat) (cs : List Instr) : (State.held nv c v n cs).draws = n := rfl

end Sys2Proof.Machine
end

