-- ==== Sys2Proof/Laws/Link.lean ====
section
/-! SUPPORT. What the common check order and an answer can do: a request that reaches its own checks, the early ends of a request,
and an answer to a request admitted in the same event (R168 to R171, R182). -/

namespace Sys2Proof.Machine

open Sys2Proof

/-- The port after the arrival and admission of a request (R70, R170). -/
def PortState.admitted (x : PortState) (period : Nat) (q kind : Byte) : PortState :=
  { x with lease := x.lease.restarted period, outstanding := x.outstanding ++ [{ seq := q, kind := kind }] }

/-- The state after the arrival and admission of a request. -/
def State.admitted (s : State) (p : Port) (q kind : Byte) : State :=
  s.modPort p (fun x => x.admitted (s.leasePeriod p) q kind)

theorem State.enlist_restartLease (s : State) (p : Port) (q kind : Byte) :
    (s.restartLease p).enlist p q kind = s.admitted p q kind := by cases p <;> rfl

/-- An admitted request was not outstanding. -/
theorem PortState.admission_admitted_fresh {x : PortState} {q k : Byte} (h : x.admission q k = .admitted) :
    ∀ o ∈ x.outstanding, o.seq ≠ q := by
  intro o ho hq
  unfold PortState.admission at h
  split at h
  · cases h
  · exact ‹¬ _› (List.any_eq_true.mpr ⟨o, ho, by simpa using hq⟩)

/-- An admitted request found a place in the window and in the queue (R170). -/
theorem PortState.admission_admitted_room {x : PortState} {q k : Byte} (h : x.admission q k = .admitted) :
    x.outstanding.length < Config.windowSize ∧ x.outbound.length + x.outstanding.length ≤ 3 := by
  unfold PortState.admission at h
  split at h
  · cases h
  · split at h
    · split at h <;> cases h
    · split at h
      · split at h <;> cases h
      · split at h
        · rename_i h1 h2
          simp only [PortState.hasRoom, decide_eq_true_eq] at h2
          exact ⟨by omega, h2⟩
        · cases h

theorem State.receives_restartLease (s : State) (p r : Port) : (s.restartLease r).receives p = s.receives p := by
  cases r <;> rfl

theorem PortState.admission_restart (s : State) (p : Port) (q k : Byte) :
    ((s.restartLease p).port p).admission q k = (s.port p).admission q k := by cases p <;> rfl

theorem State.permits_admitted (s : State) (p : Port) (q k kind : Byte) : (s.admitted p q k).permits p kind = s.permits p kind := by
  cases p <;> rfl

theorem State.ready_admitted (s : State) (p : Port) (q k : Byte) : (s.admitted p q k).ready = s.ready := by cases p <;> rfl

/-- What follows an admitted request (R182 step 3). -/
theorem State.takeRequest_admitted {s : State} {p : Port} {q kind : Byte} (next : State → State) (hr : s.receives p = true)
    (ha : (s.port p).admission q kind = .admitted) : s.takeRequest p q kind next = next (s.admitted p q kind) := by
  simp only [State.takeRequest, hr, if_true, PortState.admission_restart, ha, State.enlist_restartLease]

/-- A request that reaches its own checks runs them on the admitted state (R182 step 8). -/
theorem State.request_reaches {α : Type} {s : State} {p : Port} {q kind : Byte} {fields : Option α} {a : α}
    (own : α → State → State) (h : s.Reaches p q kind) (hf : fields = some a) :
    s.request p q kind fields own = own a (s.admitted p q kind) := by
  obtain ⟨hr, ha, hy, hp⟩ := h
  simp only [State.request, State.takeRequest_admitted _ hr ha, State.checkRequest, hf, State.ready_admitted, hy, if_true,
    State.permits_admitted, hp]

/-- An answer on a port that admitted the request in the same event (R169, R171). -/
theorem PortState.answer_admitted {x : PortState} {q kind : Byte} (period : Nat) (b : Body) (keep : Bool)
    (h : ∀ o ∈ x.outstanding, o.seq ≠ q) :
    (x.admitted period q kind).answer q b keep = x.answered period q kind b keep := by
  have hn : x.outstanding.find? (fun o => o.seq == q) = none := by simpa using h
  have hf : x.outstanding.filter (fun o => o.seq != q) = x.outstanding := by simpa using h
  simp [PortState.admitted, PortState.answer, List.find?_append, hn, PortState.place, PortState.answered, List.filter_append, hf]

/-- The answer itself, on the admitted state. -/
theorem State.answer_admitted {s : State} {p : Port} {q kind : Byte} (b : Body) (keep : Bool)
    (h : ∀ o ∈ (s.port p).outstanding, o.seq ≠ q) :
    (s.admitted p q kind).modPort p (fun x => x.answer q b keep) = s.answered p q kind b keep := by
  unfold State.admitted State.answered
  rw [State.modPort_modPort]
  cases p <;> simp only [State.modPort, State.setPort, State.port] at * <;> simp only [PortState.answer_admitted _ b keep h]

theorem State.reply_admitted {s : State} {p : Port} {q kind : Byte} (r : Reply) (h : ∀ o ∈ (s.port p).outstanding, o.seq ≠ q) :
    (s.admitted p q kind).reply p q kind r = s.answered p q kind (.reply kind r) true := State.answer_admitted _ _ h

theorem State.refuse_admitted {s : State} {p : Port} {q kind : Byte} (c : RefuseCode) (id : Nat)
    (h : ∀ o ∈ (s.port p).outstanding, o.seq ≠ q) :
    (s.admitted p q kind).refuse p q kind c id = s.refused p q kind c id := State.answer_admitted _ _ h

theorem State.refuseUncached_admitted {s : State} {p : Port} {q kind : Byte} (c : RefuseCode)
    (h : ∀ o ∈ (s.port p).outstanding, o.seq ≠ q) :
    (s.admitted p q kind).refuseUncached p q kind c = s.answered p q kind (.refuse kind c 0) false := State.answer_admitted _ _ h
@[simp] theorem State.admitted_nv (s : State) (p : Port) (q k : Byte) : (s.admitted p q k).nv = s.nv := by cases p <;> rfl
@[simp] theorem State.admitted_catalog (s : State) (p : Port) (q k : Byte) : (s.admitted p q k).catalog = s.catalog := by cases p <;> rfl
@[simp] theorem State.admitted_stack (s : State) (p : Port) (q k : Byte) : (s.admitted p q k).stack = s.stack := by cases p <;> rfl
@[simp] theorem State.admitted_commit (s : State) (p : Port) (q k : Byte) : (s.admitted p q k).commit = s.commit := by cases p <;> rfl
@[simp] theorem State.admitted_store (s : State) (p : Port) (q k : Byte) : (s.admitted p q k).store = s.store := by cases p <;> rfl
@[simp] theorem State.admitted_ctl (s : State) (p : Port) (q k : Byte) : (s.admitted p q k).ctl = s.ctl := by cases p <;> rfl
@[simp] theorem State.admitted_breakLow (s : State) (p : Port) (q k : Byte) : (s.admitted p q k).breakLow = s.breakLow := by cases p <;> rfl
@[simp] theorem State.admitted_rateInUse (s : State) (p : Port) (q k : Byte) : (s.admitted p q k).rateInUse = s.rateInUse := by cases p <;> rfl
@[simp] theorem State.admitted_pending (s : State) (p : Port) (q k : Byte) : (s.admitted p q k).pending = s.pending := by cases p <;> rfl
@[simp] theorem State.admitted_draws (s : State) (p : Port) (q k : Byte) : (s.admitted p q k).draws = s.draws := by cases p <;> rfl
theorem State.admitted_port (s : State) (p : Port) (q k : Byte) :
    (s.admitted p q k).port p = (s.port p).admitted (s.leasePeriod p) q k := by cases p <;> rfl
theorem State.admitted_port_other (s : State) (p : Port) (q k : Byte) :
    (s.admitted p q k).port (otherPort p) = s.port (otherPort p) := by cases p <;> rfl

/-- An answer in a state whose port has admitted the request, whatever else has changed (R169, R171). -/
theorem State.answer_of_port {s : State} {x : PortState} {p : Port} {q kind : Byte} {n : Nat} (b : Body) (keep : Bool)
    (hp : s.port p = x.admitted n q kind) (h : ∀ o ∈ x.outstanding, o.seq ≠ q) :
    s.modPort p (fun y => y.answer q b keep) = s.setPort p (x.answered n q kind b keep) := by
  simp only [State.modPort, hp, PortState.answer_admitted _ _ _ h]

theorem State.reply_of_port {s : State} {x : PortState} {p : Port} {q kind : Byte} {n : Nat} (r : Reply)
    (hp : s.port p = x.admitted n q kind) (h : ∀ o ∈ x.outstanding, o.seq ≠ q) :
    s.reply p q kind r = s.setPort p (x.answered n q kind (.reply kind r) true) := State.answer_of_port _ _ hp h

/-- A request that reaches its own checks was not outstanding. -/
theorem State.Reaches.fresh {s : State} {p : Port} {q k : Byte} (h : s.Reaches p q k) : ∀ o ∈ (s.port p).outstanding, o.seq ≠ q :=
  PortState.admission_admitted_fresh h.2.1

end Sys2Proof.Machine
end

