-- ==== Sys2Proof/Laws/Ops.lean ====
section
/-! SUPPORT. What each shared operation on ports, notices, leases, ownership, frames and transfers can do, said once (R24 to R31, R45 to
R48, R69 to R74, R150 to R153, R178). -/

namespace Sys2Proof.Machine

open Sys2Proof

/-! ### Counters and notices -/

/-- A counter goes up by one and stops at 65535 (R178). -/
theorem bump_eq_min (n : Nat) (h : n ≤ Config.counterMax) : bump n = min (n + 1) Config.counterMax := by
  unfold bump; split <;> omega

theorem bump_le (n : Nat) (h : n ≤ Config.counterMax) : bump n ≤ Config.counterMax := by rw [bump_eq_min n h]; omega

/-- The notice queue after a notice is taken or dropped (R152, R153). -/
def noticesAfter (ns : List Notice) (n : Notice) : List Notice :=
  if ns.length < Config.noticeSize then ns ++ [n] else if ns.any Notice.isLost then ns.map Notice.bumped else ns

/-- The lost count after a notice is taken or dropped (R153). -/
def lostAfter (ns : List Notice) (lost : Nat) : Nat :=
  if ns.length < Config.noticeSize then lost else if ns.any Notice.isLost then lost else bump lost

/-- Taking a notice changes the notice queue and the lost count only (R152, R153). -/
theorem PortState.takeNotice_eq (x : PortState) (n : Notice) :
    x.takeNotice n = { x with notices := noticesAfter x.notices n, lost := lostAfter x.notices x.lost } := by
  unfold PortState.takeNotice noticesAfter lostAfter
  split
  · rfl
  · split <;> rfl

/-- A run of notices changes the notice queue and the lost count only. -/
theorem PortState.takeNotices_frame (ns : List Notice) (x : PortState) :
    ∃ N L, ns.foldl PortState.takeNotice x = { x with notices := N, lost := L } := by
  induction ns generalizing x with
  | nil => exact ⟨x.notices, x.lost, rfl⟩
  | cons n ns ih =>
    obtain ⟨N, L, h⟩ := ih (x.takeNotice n)
    exact ⟨N, L, by rw [List.foldl_cons, h, PortState.takeNotice_eq]⟩

theorem State.noticeBoth_port (s : State) (n : Notice) (p : Port) : (s.noticeBoth n).port p = (s.port p).takeNotice n := by
  cases p <;> rfl

/-! ### Ownership -/

/-- Taking ownership: the owner, the lease and a notice to each port (R30). -/
theorem State.takeOwnership_port (s : State) (p : Port) :
    (s.takeOwnership p).port p =
      ({ s.port p with lease := leaseOf (s.leasePeriod p) } : PortState).takeNotice (.ownerChanged (some p)) ∧
    (s.takeOwnership p).port (otherPort p) = (s.port (otherPort p)).takeNotice (.ownerChanged (some p)) := by
  cases p <;> exact ⟨rfl, rfl⟩

/-- Dropping the owner leaves the frames, the pool and everything outside the stack and the owner's timer (R63, R73). -/
theorem State.dropOwner_eq (s : State) :
    s.dropOwner = match s.stack.owner with
      | none => s
      | some p => { s with stack := { s.stack with owner := none } }.modPort p (fun x => { x with lease := .stopped }) := rfl

theorem State.dropOwner_stack (s : State) : s.dropOwner.stack = { s.stack with owner := none } := by
  unfold State.dropOwner
  split
  · rename_i h; rw [← h]
  · simp

/-- Release: the stack loses its owner and each port gets OWNER_CHANGED naming none (R31). -/
theorem State.release_stack (s : State) : s.release.stack = { s.stack with owner := none } := by
  simp only [State.release, State.noticeBoth_stack, State.dropOwner_stack]

/-! ### Frames -/

/-- Rolling back every frame from the top down empties the stack, returns every record, and restores the entries (R48). -/
theorem State.rollbackMany_all (s : State) :
    State.rollbackMany s.depth s =
      { s with
        catalog := { s.catalog with entries := restoreFrames s.stack.frames s.catalog.entries }
        stack := { s.stack with frames := [], free := s.stack.free + s.inUse } } := by
  suffices h : ∀ (n : Nat) (s : State), n = s.stack.frames.length → State.rollbackMany n s =
      { s with
        catalog := { s.catalog with entries := restoreFrames s.stack.frames s.catalog.entries }
        stack := { s.stack with frames := [], free := s.stack.free + s.inUse } } from h _ s rfl
  intro n
  induction n with
  | zero =>
    intro s h
    have h0 : s.stack.frames = [] := by simpa using h.symm
    simp only [State.rollbackMany, h0, restoreFrames, State.inUse, List.map_nil, List.sum_nil, Nat.add_zero]
    rw [← h0]
  | succ n ih =>
    intro s h
    cases hf : s.stack.frames with
    | nil => simp [hf] at h
    | cons f fs =>
      rw [State.rollbackMany, ih _ (by simpa [State.rollbackTop, hf] using h)]
      simp [State.rollbackTop, hf, restoreFrames, State.inUse, Nat.add_assoc]

/-- Setting a working value keeps every definition, committed value and version (R27). -/
theorem setWorking_defns (es : List Entry) (id : Nat) (v : Value) :
    (setWorking es id v).map (fun e => e.defn) = es.map (fun e => e.defn) := by
  simp only [setWorking, List.map_map]
  apply List.map_congr_left
  intro e _
  dsimp only [Function.comp]
  split <;> rfl

theorem setWorking_committed (es : List Entry) (id : Nat) (v : Value) :
    (setWorking es id v).map Entry.committed = es.map Entry.committed := by
  simp only [setWorking, List.map_map]
  apply List.map_congr_left
  intro e _
  dsimp only [Function.comp]
  split
  · unfold Entry.committed; cases e.live <;> rfl
  · rfl

/-- A merge conserves the records in use and the free ones together (R28, R47). -/
theorem State.mergeTop_conserves (s : State) : s.mergeTop.stack.free + s.mergeTop.inUse = s.stack.free + s.inUse := by
  unfold State.mergeTop
  split
  · rename_i f g fs h
    have hm : (mergeMoved f.undo g.undo).length ≤ f.undo.length := List.length_filter_le _ _
    simp only [State.inUse, h, List.map_cons, List.sum_cons, List.length_append]
    omega
  · rfl

/-- A write takes a record of the pool exactly when the top frame holds none for the id (R29, R39). -/
theorem State.stage_stack (s : State) (id : Nat) (v : Value) :
    (s.stage id v).stack = if s.needsRecord id then
      s.stack.takeRecord id (match findEntry s.catalog.entries id with | some e => e.working | none => v) else s.stack := rfl

/-! ### Requests -/

/-- Every request command is its arrival at the common check order, and what follows an admission (R182). -/
theorem exec_request (c : Instr) (p : Port) (q k : Byte) (h : requestOf c = some (p, q, k)) (s : State) :
    ∃ next : State → State, exec c s = .next (s.takeRequest p q k next) := by
  cases c <;> simp only [requestOf, Option.some.injEq, Prod.mk.injEq, reduceCtorEq] at h <;> obtain ⟨rfl, rfl, rfl⟩ := h <;>
    exact ⟨_, rfl⟩

theorem readEmpty_nil : readEmpty [] = some () := rfl

end Sys2Proof.Machine
end

