-- ==== Sys2Proof/Laws/Store.lean ====
section
/-! SUPPORT. What the store's operations leave alone: starting work changes the store only; choosing work, entering READ_ONLY and
ending a pending append change the store, the commit in flight and the ports, and leave the array, the catalog, the stack and the
durable number (R88, R89, R99). -/

namespace Sys2Proof.Machine

open Sys2Proof

/-- Two states differ in the store only, and its durable number and reserve agree. -/
structure State.StoreDiffers (s t : State) : Prop where
  nv : t.nv = s.nv
  catalog : t.catalog = s.catalog
  stack : t.stack = s.stack
  commit : t.commit = s.commit
  ctl : t.ctl = s.ctl
  portA : t.portA = s.portA
  portB : t.portB = s.portB
  breakLow : t.breakLow = s.breakLow
  rateInUse : t.rateInUse = s.rateInUse
  pending : t.pending = s.pending
  draws : t.draws = s.draws
  durable : t.store.durable = s.store.durable
  reserve : t.store.reserve = s.store.reserve

theorem State.StoreDiffers.refl (s : State) : s.StoreDiffers s := by constructor <;> rfl

theorem State.StoreDiffers.trans {s t u : State} (h : s.StoreDiffers t) (k : t.StoreDiffers u) : s.StoreDiffers u := by
  obtain ⟨a1, a2, a3, a4, a5, a6, a7, a8, a9, a10, a11, a12, a13⟩ := h
  obtain ⟨b1, b2, b3, b4, b5, b6, b7, b8, b9, b10, b11, b12, b13⟩ := k
  constructor
  exacts [b1.trans a1, b2.trans a2, b3.trans a3, b4.trans a4, b5.trans a5, b6.trans a6, b7.trans a7, b8.trans a8, b9.trans a9,
    b10.trans a10, b11.trans a11, b12.trans a12, b13.trans a13]

theorem State.modStore_storeDiffers (s : State) (f : Store → Store) (hd : (f s.store).durable = s.store.durable)
    (hr : (f s.store).reserve = s.store.reserve) : s.StoreDiffers (s.modStore f) := by
  constructor <;> first | rfl | assumption

theorem State.openSector_storeDiffers (s : State) (g : GroupWrite) (k : Nat) : s.StoreDiffers (s.openSector g k) := by
  unfold State.openSector
  exact s.modStore_storeDiffers _ rfl rfl

theorem State.programNext_storeDiffers (s : State) : s.StoreDiffers s.programNext := by
  unfold State.programNext
  repeat' split
  all_goals first | exact .refl s | exact s.modStore_storeDiffers _ rfl rfl | exact s.openSector_storeDiffers _ _

theorem State.startAppend_storeDiffers (s : State) (a : PendingAppend) : s.StoreDiffers (s.startAppend a) :=
  (s.modStore_storeDiffers _ (by simp) (by simp)).trans (State.programNext_storeDiffers _)

theorem State.requestRoom_storeDiffers (s : State) : s.StoreDiffers s.requestRoom := by
  unfold State.requestRoom
  repeat' split
  all_goals first | exact .refl s | exact s.modStore_storeDiffers _ rfl rfl

theorem State.startCompaction_storeDiffers (s : State) (a : Attempt) : s.StoreDiffers (s.startCompaction a) :=
  (s.modStore_storeDiffers _ (by dsimp only; split <;> rfl) (by dsimp only; split <;> rfl)).trans (State.programNext_storeDiffers _)

theorem State.compactionTest_storeDiffers (s : State) : s.StoreDiffers s.compactionTest := by
  unfold State.compactionTest
  split
  · exact s.modStore_storeDiffers _ rfl rfl
  · exact .refl s

theorem State.startErase_storeDiffers (s : State) (k : Nat) : s.StoreDiffers (s.startErase k) := s.modStore_storeDiffers _ rfl rfl

/-- Two states agree on the array, the catalog, the stack, the controller, the durable number and the reserve: what choosing work may
not touch. -/
structure State.WorkDiffers (s t : State) : Prop where
  nv : t.nv = s.nv
  catalog : t.catalog = s.catalog
  stack : t.stack = s.stack
  ctl : t.ctl = s.ctl
  breakLow : t.breakLow = s.breakLow
  rateInUse : t.rateInUse = s.rateInUse
  pending : t.pending = s.pending
  draws : t.draws = s.draws
  durable : t.store.durable = s.store.durable
  reserve : t.store.reserve = s.store.reserve

theorem State.WorkDiffers.refl (s : State) : s.WorkDiffers s := by constructor <;> rfl

theorem State.StoreDiffers.work {s t : State} (h : s.StoreDiffers t) : s.WorkDiffers t :=
  ⟨h.nv, h.catalog, h.stack, h.ctl, h.breakLow, h.rateInUse, h.pending, h.draws, h.durable, h.reserve⟩

theorem State.WorkDiffers.trans {s t u : State} (h : s.WorkDiffers t) (k : t.WorkDiffers u) : s.WorkDiffers u := by
  obtain ⟨a1, a2, a3, a4, a5, a6, a7, a8, a9, a10⟩ := h
  obtain ⟨b1, b2, b3, b4, b5, b6, b7, b8, b9, b10⟩ := k
  constructor
  exacts [b1.trans a1, b2.trans a2, b3.trans a3, b4.trans a4, b5.trans a5, b6.trans a6, b7.trans a7, b8.trans a8, b9.trans a9,
    b10.trans a10]

theorem State.modPort_workDiffers (s : State) (p : Port) (f : PortState → PortState) : s.WorkDiffers (s.modPort p f) := by
  cases p <;> constructor <;> rfl

theorem State.noticeBoth_workDiffers (s : State) (n : Notice) : s.WorkDiffers (s.noticeBoth n) := by constructor <;> rfl

theorem State.commitFails_workDiffers (s : State) (c : RefuseCode) : s.WorkDiffers (s.commitFails c) := by
  unfold State.commitFails
  split
  · exact .refl s
  · rename_i k _
    have h1 : s.WorkDiffers (({ s with commit := none } : State).startLease k.port) := by constructor <;> simp
    dsimp only
    split
    · exact h1
    · exact h1.trans (State.modPort_workDiffers _ _ _)

theorem State.cancelAppend_workDiffers (s : State) (c : RefuseCode) : s.WorkDiffers (s.cancelAppend c) := by
  unfold State.cancelAppend
  split
  · exact .refl s
  · exact (s.modStore_storeDiffers _ rfl rfl).work.trans (State.commitFails_workDiffers _ _)

theorem State.enterReadOnly_workDiffers (s : State) : s.WorkDiffers s.enterReadOnly := by
  have h1 : s.WorkDiffers ((s.modStore (fun st => { st with mode := .readOnly })).noticeBoth
      (.storeReadOnly (s.store.count .retired))) :=
    (s.modStore_storeDiffers _ rfl rfl).work.trans (State.noticeBoth_workDiffers _ _)
  unfold State.enterReadOnly
  dsimp only
  repeat' split
  all_goals first
    | exact h1
    | exact h1.trans (State.modStore_storeDiffers _ _ rfl rfl).work
    | exact h1.trans (State.cancelAppend_workDiffers _ _)
    | exact (h1.trans (State.modStore_storeDiffers _ _ rfl rfl).work).trans (State.cancelAppend_workDiffers _ _)

theorem State.readOnlyTest_workDiffers (s : State) : s.WorkDiffers s.readOnlyTest := by
  unfold State.readOnlyTest
  split
  · exact s.enterReadOnly_workDiffers
  · exact .refl s

theorem State.reclaim_workDiffers (s : State) : s.WorkDiffers s.reclaim := by
  unfold State.reclaim
  repeat' split
  all_goals first
    | exact .refl s
    | exact (s.modStore_storeDiffers _ rfl rfl).work.trans (State.enterReadOnly_workDiffers _)

theorem State.chooseErase_workDiffers (s : State) : s.WorkDiffers s.chooseErase := by
  unfold State.chooseErase
  repeat' split
  all_goals first | exact (s.startErase_storeDiffers _).work | exact s.reclaim_workDiffers

theorem State.chooseWork_workDiffers (s : State) : s.WorkDiffers s.chooseWork := by
  unfold State.chooseWork
  repeat' split
  all_goals first | exact (s.startCompaction_storeDiffers _).work | exact s.chooseErase_workDiffers

/-- A pending append may start exactly where it fits and no image is owed (R89, R118). -/
theorem Store.appendMayStart_iff (st : Store) (a : PendingAppend) :
    st.appendMayStart a = true ↔ st.imageOwed = false ∧ st.appendFits a = true := by
  simp [Store.appendMayStart]

/-- What the store's choice of its next operation leaves alone (R88). -/
theorem State.choose_workDiffers (s : State) : s.WorkDiffers s.choose := by
  unfold State.choose
  split
  · dsimp only
    repeat' split
    all_goals first
      | exact s.requestRoom_storeDiffers.work.trans (State.chooseWork_workDiffers _)
      | exact s.requestRoom_storeDiffers.work.trans (State.startAppend_storeDiffers _ _).work
      | exact s.chooseWork_workDiffers
      | exact (s.startAppend_storeDiffers _).work
  · exact .refl s

end Sys2Proof.Machine
end

