-- ==== Sys2Proof/Tests/Slice0.lean ====
section
/-! SUPPORT. Small tests: ill-formed commands are refused by the check, worked examples of the manual, and for every obligation with
hypotheses a concrete state and operands that meet them, at the boundary values of its clauses. -/

namespace Sys2Proof.Tests

-- one test after another: elaborated side by side, they ask for one thread each
set_option Elab.async false

open Sys2Proof Sys2Proof.Machine

/-! ### Small states -/

/-- The state a command leaves. -/
def after (c : Instr) (s : State) : State :=
  match exec c s with
  | .next t => t
  | .fault _ => s
  | .refused _ => s

/-- READY with both queues empty, over a blank array and an EMPTY catalog. -/
def ready : State :=
  let s := State.held .blank (some .powerOn) .normal 0 []
  { s with
    ctl := { s.ctl with start := .ready }
    portA := { s.portA with outbound := [] }
    portB := { s.portB with outbound := [] } }

/-- A persistent UNSIGNED entry of width 1, from 0 to `upper`. -/
def number (id : Nat) (upper : Int) (link : Nat) (default : Int) (stopOnly : Bool) : Definition :=
  { id := id, shape := .unsigned 1 0 upper, link := link, default := .num default, persistent := true, stopOnly := stopOnly,
    constant := false }

/-- An entry with values. -/
def valued (d : Definition) (working committed : Int) (version : Nat) : Entry :=
  { defn := d, live := some { working := .num working, committed := .num committed, version := version } }

/-- A sector record with its use. -/
def sectorOf (k : Nat) (role : Role) (used : Nat) : SectorRec :=
  { sector := k, role := role, generation := none, eraseCount := some 1, used := used }

/-- Two entries in BUILDING, the first linked to the second. -/
def building : State :=
  { ready with
    catalog :=
      { state := .building, setup := .defaults, digest := 0, request := none
        entries := [{ defn := number 1 10 2 1 true, live := none }, { defn := number 2 20 0 5 false, live := none }] } }

/-- The same two entries SEALED, port B in FULL, one ring sector filling and the others free. -/
def sealedReady : State :=
  { ready with
    catalog :=
      { state := .sealed, setup := { Setup.defaults with mode := .full }, digest := 0, request := none
        entries := [valued (number 1 10 2 1 true) 1 1 0, valued (number 2 20 0 5 false) 5 5 0] }
    store :=
      { Store.reset with
        table := sectorOf 4 .filling 10 :: [5, 6, 7, 8, 9, 10, 11, 12, 13, 14, 15].map (fun k => sectorOf k .free 1)
        reserve := 1 } }

/-- A port as owner of a stack with these frames, entry 1 staged at 3. -/
def owning (p : Port) (frames : List Frame) : State :=
  ({ sealedReady with
    catalog :=
      { sealedReady.catalog with entries := [valued (number 1 10 2 1 true) 3 1 0, valued (number 2 20 0 5 false) 5 5 0] }
    stack := { frames := frames, owner := some p, free := 192 - (frames.map (fun f => f.undo.length)).sum } } : State).modPort p
      (fun x => { x with lease := .running 20 })

/-- Frame 1 with a record of entry 1. -/
def frame1 : Frame := { label := none, undo := [{ id := 1, prior := .num 1 }] }

/-- A frame without records. -/
def bare : Frame := { label := none, undo := [] }

/-- Port A owns at depth 1. -/
def owned : State := owning .A [frame1]

/-- A commit of port A in flight over that. -/
def flight : InFlight :=
  { port := .A, seq := 9, number := 1, changes := [{ id := 1, value := .num 3, version := 1 }], persistentCount := 1,
    suppressed := false, runSample := false }

/-- Its group. -/
def pendingGroup (a : Attempt) : PendingAppend := { number := 1, entries := flight.changes, attempt := a }

/-- The commit is in flight and its request outstanding, the array programming slot `m` of `k`, `more` slots following. -/
def inFlight (a : Attempt) (k : Nat) (m : Slot) (more : List Slot) : State :=
  { owned with
    commit := some flight
    portA := { owned.portA with outstanding := [{ seq := 9, kind := kCommit }], lease := .stopped }
    store :=
      { owned.store with
        operation := .appending, pend := some (pendingGroup a), arrayOp := .slot k m
        writing := some
          { kind := .commit, attempt := a, remaining := m :: more, begun := some { sector := k, generation := none, shared := true }
            sectors := [k] } } }

/-- A read context over these ids. -/
def reading (view : View) (items : List Nat) (next : Nat) : ReadCtx :=
  { view := view, items := items, next := next, sent := 16 * next, firstNumber := if next = 0 then none else some 0,
    lastNumber := if next = 0 then none else some 0 }

/-- A write context of one block with two credits shared out as given. -/
def writing (blocks credits pending : Nat) (buffer : List Block) (e : Option FirstError) : WriteCtx :=
  { declared := blocks, blocks := blocks, expected := 0, received := buffer.length, applied := 0, creditsOpen := credits,
    creditsPending := pending, buffer := buffer, firstError := e, running := 0xFFFFFFFF#32 }

/-- A context put in force at port A. -/
def bulkAt (s : State) (b : BulkCtx) : State := s.modPort .A (fun x => { x with bulk := b })

/-- A block that sets entry 2 to 7, without a check. -/
def block0 : Block := { index := 0, count := 1, checkPresent := 0, body := [0, 2, 1, 0, 0, 0, 7] }

/-- The same block with a check over its item. -/
def block0Checked : Block := { index := 0, count := 1, checkPresent := 1, body := [0, 2, 1, 0, 0, 0, 7] ++ put32 (crc32 [0, 2, 1, 0, 0, 0, 7]) }

/-- A finished transfer. -/
def finished : DoneRec :=
  { kind := .read, ending := .complete, blocks := 1, items := 1, firstNumber := 0, lastNumber := 0, torn := false,
    firstError := none }

/-! ### Well-formedness -/

theorem test_wf_payload_bound :
    (Instr.set .A 0 (List.replicate 640 0)).wf = true ∧ (Instr.set .A 0 (List.replicate 641 0)).wf = false ∧
    (Instr.block .B (List.replicate 641 0)).wf = false := by decide +kernel

/-- One ill-formed term for each remaining request (R161). -/
theorem test_wf_requests_bound :
    [Instr.describe .A 0, fun b => .status .A 0 b false, .linkReset .A 0, fun b => .restart .A 0 b true, .define .A 0,
      .setup .A 0, .seal .A 0, .wipe .A 0, .beginFrame .A 0, .get .A 0, .rollback .A 0, .merge .A 0, .abandon .A 0,
      fun b => .commit .A 0 b false, .bulkRead .A 0, .bulkWrite .A 0, .bulkAbort .A 0, .watch .A 0, .unwatch .A 0,
      .unknownKind .A 0 0x7F].all (fun c => !(c (List.replicate 641 0)).wf) = true := by decide +kernel

theorem test_wf_unknown_kind :
    (Instr.unknownKind .A 0 0x7F []).wf = true ∧ (Instr.unknownKind .A 0 kGet []).wf = false ∧
    (Instr.unknownKind .A 0 kBlock []).wf = false := by decide

theorem test_wf_cut_message :
    (Instr.cutMessage [0xC3, 0x3C, 0, 0]).wf = true ∧ (Instr.cutMessage (frame 7 kCommit [])).wf = false := by decide +kernel

theorem test_wf_held_exit : (Instr.heldExit 2700).wf = true ∧ (Instr.heldExit 2699).wf = false := by decide

/-- The table gives no row bits. -/
theorem test_no_row_has_bits : decodeTableWord 8 0x21 = none := rfl

/-! ### Worked examples of the manual -/

/-- The nine bytes 31h to 39h (R180). -/
def nine : List Byte := [0x31, 0x32, 0x33, 0x34, 0x35, 0x36, 0x37, 0x38, 0x39]

/-- R180 gives 29B1h and CBF43926h. -/
theorem test_checks_of_nine_bytes : crc16 nine = 0x29B1#16 ∧ crc32 nine = 0xCBF43926#32 := by decide +kernel

/-- The SET of 10.13 as bytes, check bytes computed (Table 10.11). -/
def setMessage : List Byte := frame 0x2C 0x21 [0x05, 0x78, 0x02, 0x06, 0x41, 0x58, 0x49, 0x53, 0x20, 0x32]

/-- The state of 10.13: entry 1400 a TEXT, port A at depth 1, 187 records free. -/
def before10_13 : State :=
  { owned with
    catalog :=
      { owned.catalog with
        entries :=
          [{ defn := { number 1400 0 0 0 false with shape := .text 24, default := .text [] }
             live := some { working := .text [], committed := .text [], version := 0 } }] }
    stack := { frames := [bare], owner := some .A, free := 187 } }

/-- The 18 bytes of Table 10.11 queue the SET, whose REPLY is 21h 01h BAh under seq 2Ch. -/
theorem test_set_on_the_wire :
    setMessage.length = 18 ∧
    (before10_13.feed .A { run := false, arrayOk := true } setMessage).pending =
      [.set .A 0x2C [0x05, 0x78, 0x02, 0x06, 0x41, 0x58, 0x49, 0x53, 0x20, 0x32]] ∧
    (after (.set .A 0x2C [0x05, 0x78, 0x02, 0x06, 0x41, 0x58, 0x49, 0x53, 0x20, 0x32]) before10_13).portA.outbound.map
      (fun m => (m.seq, m.body.kindCode, m.body.payload)) = [(0x2C, 0x80, [0x21, 0x01, 0xBA])] := by decide +kernel

/-- The same bytes with form 01h are refused with MALFORMED, id 0, and do not enter the cache (10.13). -/
theorem test_set_with_the_wrong_form :
    let t := after (.set .A 0x2C [0x05, 0x78, 0x01, 0x06, 0x41, 0x58, 0x49, 0x53, 0x20, 0x32]) before10_13
    t.portA.outbound = [{ seq := 0x2C, body := .refuse 0x21 .malformed 0 }] ∧ t.portA.cache = [] := by decide +kernel

/-- An UNSIGNED entry for the example of 3.6. -/
def rpm (id link : Nat) (working committed : Int) (version : Nat) : Entry :=
  { defn := { number id 6000 link 0 false with shape := .unsigned 2 0 6000 }
    live := some { working := .num working, committed := .num committed, version := version } }

/-- The state of 3.6: four records in frame 1, entry 1100 written back to its committed value. -/
def before3_6 : State :=
  { sealedReady with
    catalog :=
      { sealedReady.catalog with
        entries := [rpm 1100 0 3000 3000 0, rpm 1200 1100 2000 1500 4, rpm 1250 0 2 0 2, rpm 1310 1200 400 0 0] }
    store := { sealedReady.store with durable := 7 }
    stack :=
      { frames :=
          [{ label := none
             undo := [{ id := 1200, prior := .num 1500 }, { id := 1310, prior := .num 0 }, { id := 1250, prior := .num 0 },
               { id := 1100, prior := .num 3000 }] }]
        owner := some .A, free := 188 } }

/-- The commit of 3.6: number 8, entries 1200, 1250 and 1310 with versions 5, 3 and 1, in that order. -/
theorem test_commit_change_list :
    (after (.commit .A 1 [] false) before3_6).commit.map (fun c => (c.number, c.changes.map (fun x => (x.id, x.version)))) =
      some (8, [(1200, 5), (1250, 3), (1310, 1)]) := by decide +kernel

/-- A request beyond the window of two is refused with WINDOW_FULL (R170). -/
theorem test_window_full :
    (after (.get .A 3 [0, 1]) { owned with portA :=
      { owned.portA with outstanding := [{ seq := 1, kind := kCommit }, { seq := 2, kind := kSeal }] } }).portA.outbound =
      [{ seq := 3, body := .refuse kGet .windowFull 0 }] := by decide +kernel

/-- From reset, the four start events make the part READY with START at the head of port A's queue (R119, R120; log 4). -/
theorem test_start_from_reset :
    let t := after .cleanupEnd (after .replayEnd (after .scanEnd (after (.heldExit 3300) State.reset)))
    t.ctl.start = .ready ∧ t.attnA = true ∧
      t.portA.outbound.map (fun m => m.wire.length) = [24] ∧ t.catalog.state = .empty := by decide +kernel

/-! ### Witnesses: the hypotheses of each obligation hold together at a concrete state -/

theorem witness_StepRunsFrontCommand : State.reset.pending = [] := rfl

theorem witness_FedMessageQueuesItsCommand :
    (Instr.set .A 0x2C [0, 1]).wf = true ∧
    messageOfInstr (.set .A 0x2C [0, 1]) = some { seq := 0x2C, kind := kSet, payload := [0, 1] } ∧
    owned.receives .A = true ∧ owned.portA.rx = .hunt ∧
    ([7, 7] : List Byte).length ≤ Config.maxPayload ∧ owned.receives .B = true ∧ owned.portB.rx = .hunt ∧
    instrOfMessage .B { run := false, arrayOk := true } { seq := 5, kind := kHold, payload := [7, 7] } = .hold .B := by
  decide +kernel

/-- A counter at both sides of its limit, a bad check, a length of 641 (R162, R178). -/
theorem witness_DroppedMessagesAreCounted :
    ready.receives .A = true ∧ ready.receives (faultPort .stopBitLow) = true ∧
    (rxRun ready.portA.rx [0xC3, 0x3C, 0]).2 = [] ∧ (rxRun ready.portA.rx [0xC3, 0x3C, 0]).1 ≠ .hunt ∧
    (rxRun ready.portA.rx [0x3C]).1 = .hunt ∧ bump 65534 = 65535 ∧ bump 65535 = 65535 ∧
    ([] : List Byte).length ≤ Config.maxPayload ∧ ([0, 0] : List Byte) ≠ checkBytes 7 kCommit [] ∧
    Config.maxPayload < be16 0x02 0x81 ∧ ¬ Config.maxPayload < be16 0x02 0x80 := by decide +kernel

/-- `ready` with one request outstanding at port A. -/
def oneOutstanding : State := { ready with portA := { ready.portA with outstanding := [{ seq := 1, kind := kSeal }] } }

theorem witness_DuplicateRequestIsAbsorbed :
    requestOf (.seal .A 1 []) = some (.A, 1, kSeal) ∧ oneOutstanding.receives .A = true ∧
    ∃ o ∈ oneOutstanding.portA.outstanding, o.seq = 1 := by decide

/-- `ready` with these numbers of messages queued and requests outstanding at port A, and an answer to seq 1 in its cache. -/
def filled (messages requests : Nat) : State :=
  { ready with
    portA :=
      { ready.portA with
        outbound := List.replicate messages { seq := 0, body := .reply kUnwatch (.unwatch 0) }
        outstanding := ([{ seq := 8, kind := kSeal }, { seq := 9, kind := kCommit }] : List Outstanding).take requests
        cache := [{ seq := 1, kind := kUnwatch, body := .reply kUnwatch (.unwatch 0) }] } }

/-- One place free beyond the reservations with the seq in the cache, with a full window, and no place free. -/
theorem witness_RequestsBeyondTheWindowAreTurnedAway :
    requestOf (.unwatch .A 1 []) = some (.A, 1, kUnwatch) ∧ (filled 3 0).receives .A = true ∧
    (∀ o ∈ (filled 1 2).portA.outstanding, o.seq ≠ 1) ∧
    ((filled 3 0).portA.outbound.length + (filled 3 0).portA.outstanding.length = 3 ∧
      ((filled 3 0).portA.cache.find? (fun e => e.seq == 1 && e.kind == kUnwatch)).isSome = true) ∧
    ((filled 1 2).portA.outbound.length + (filled 1 2).portA.outstanding.length = 3 ∧
      (filled 1 2).portA.cache.find? (fun e => e.seq == 2 && e.kind == kUnwatch) = none ∧
      2 ≤ (filled 1 2).portA.outstanding.length) ∧
    (filled 4 0).portA.outbound.length + (filled 4 0).portA.outstanding.length = 4 := by decide +kernel

/-- The part in SCANNING. -/
def scanning : State := { ready with ctl := { ready.ctl with start := .scanning } }

theorem witness_KindAndFormComeBeforeStarting :
    scanning.receives .B = true ∧ scanning.portB.admission 1 0x7F = .admitted ∧
    requestOf (.get .B 1 [0, 1]) = some (.B, 1, kGet) ∧ kindNamed (.get .B 1 [0, 1]) = true ∧
    scanning.portB.admission 1 kGet = .admitted ∧ payloadReads (.get .B 1 [0]) = false ∧ payloadReads (.get .B 1 [0, 1]) = true ∧
    scanning.ctl.start ≠ .ready := by decide

/-- A request of port A alone, a staging request in OBSERVE before SEALED, and one in FULL. -/
theorem witness_PortBRequestsAreLimited :
    requestOf (.wipe .B 1 []) = some (.B, 1, kWipe) ∧ requestOf (.abandon .B 1 []) = some (.B, 1, kAbandon) ∧
    kindNamed (.abandon .B 1 []) = true ∧ payloadReads (.abandon .B 1 []) = true ∧ ready.receives .B = true ∧
    ready.portB.admission 1 kWipe = .admitted ∧ ready.portB.admission 1 kAbandon = .admitted ∧ ready.ctl.start = .ready ∧
    kWipe ∈ [kDefine, kSetup, kSeal, kWipe, kRestart] ∧
    kAbandon ∈ [kBegin, kSet, kRollback, kMerge, kAbandon, kCommit, kBulkWrite] ∧ ready.catalog.state ≠ .sealed ∧
    ready.catalog.setup.mode = .observe ∧
    requestOf (.abandon .B 1 []) = some (.B, 1, kAbandon) ∧ sealedReady.portB.admission 1 kAbandon = .admitted ∧
    sealedReady.receives .B = true ∧ sealedReady.ctl.start = .ready ∧ sealedReady.catalog.state = .sealed ∧
    sealedReady.catalog.setup.mode ≠ .observe := by decide

theorem witness_NothingIsTakenWithoutReceiving :
    requestOf (.describe .A 1 []) = some (.A, 1, kDescribe) ∧ State.reset.receives .A = false ∧
    ({ ready with breakLow := true } : State).receives .B = false := by decide

theorem witness_DescribeAndStatusOnlyReport : owned.Reaches .A 1 kDescribe ∧ owned.Reaches .B 1 kStatus := by decide +kernel

/-- A context put in force at port B, the owner of a stack with these frames. -/
def bulkAtB (frames : List Frame) (b : BulkCtx) : State := (owning .B frames).modPort .B (fun x => { x with bulk := b })

/-- No transfer, a read, and a write at level 1 and at level 2. -/
theorem witness_LinkResetClearsItsPort :
    (owned.Reaches .A 1 kLinkReset ∧ owned.portA.bulk.active = false) ∧
    ((bulkAt owned (.reading (reading .working [1, 2] 0))).Reaches .A 1 kLinkReset ∧
      (bulkAt owned (.reading (reading .working [1, 2] 0))).portA.bulk = .reading (reading .working [1, 2] 0)) ∧
    ((bulkAt owned (.writing (writing 1 2 0 [] none))).Reaches .A 1 kLinkReset ∧
      (bulkAt owned (.writing (writing 1 2 0 [] none))).portA.bulk = .writing (writing 1 2 0 [] none) ∧
      owned.stack.frames = frame1 :: [] ∧ owned.stack.owner = some .A) ∧
    ((bulkAt (owning .A [bare, frame1]) (.writing (writing 1 2 0 [] none))).Reaches .A 1 kLinkReset ∧
      (owning .A [bare, frame1]).stack.frames = bare :: [frame1] ∧ (owning .A [bare, frame1]).stack.owner = some .A) := by
  decide +kernel

theorem witness_BreakResetsPortB :
    (owned.ctl.start = .ready ∧ owned.breakLow = false ∧ owned.portB.bulk.active = false) ∧
    (∀ f ∈ [[frame1], [bare, frame1]], (bulkAtB f (.paused (reading .committed [1] 0))).ctl.start = .ready ∧
      (bulkAtB f (.paused (reading .committed [1] 0))).breakLow = false ∧
      (bulkAtB f (.paused (reading .committed [1] 0))).portB.bulk = .paused (reading .committed [1] 0) ∧
      (bulkAtB f (.writing (writing 1 2 0 [] none))).portB.bulk = .writing (writing 1 2 0 [] none) ∧
      (bulkAtB f (.writing (writing 1 2 0 [] none))).stack.frames = f ∧
      (bulkAtB f (.writing (writing 1 2 0 [] none))).stack.owner = some .B) ∧
    scanning.ctl.start ≠ .ready ∧ ({ ready with breakLow := true } : State).breakLow = true := by decide

theorem witness_RestartIsACommandReset :
    (inFlight .first 4 (.closeMark 1 0) []).Reaches .A 1 kRestart ∧
    (inFlight .first 4 (.closeMark 1 0) []).store.arrayOp = .slot 4 (.closeMark 1 0) ∧
    owned.Reaches .A 1 kRestart ∧ owned.store.arrayOp = .none := by decide +kernel

/-- A recorded cause, a lost cause, and each operation in progress that the clauses name. -/
theorem witness_ResetsLoseTheRam :
    ¬ (owned.ctl.start = .held ∧ owned.ctl.cause = none) ∧ (State.reset.ctl.start = .held ∧ State.reset.ctl.cause = none) ∧
    owned.store.arrayOp = .none ∧ (inFlight .first 4 (.closeMark 1 0) []).store.arrayOp = .slot 4 (.closeMark 1 0) ∧
    ({ owned with store := { owned.store with arrayOp := .header 5 9 true } } : State).store.arrayOp = .header 5 9 true := by decide

/-- The payload of a DEFINE of id 3, UNSIGNED of a width, 0 to 9, default 1. -/
def definePayload (width : Byte) : List Byte := [0, 3, 1, width, 0, 0, 0, 0, 0, 0, 0, 0, 0, 0, 9, 0, 1, 0, 0, 0, 1]

/-- A catalog of `n` entries in BUILDING. -/
def entries (n : Nat) : State :=
  { building with
    catalog := { building.catalog with entries := (List.range n).map (fun i => { defn := number (i + 4) 10 0 1 false, live := none }) } }

/-- Each arm: SEALED, 256 entries and 255, an id in use, a width of 3, and an accepted definition. -/
theorem witness_DefineAddsTheEntry :
    sealedReady.Reaches .A 1 kDefine ∧ building.Reaches .A 1 kDefine ∧
    (readDefine (definePayload 1)).isSome = true ∧
    (sealedReady.catalog.state ≠ .empty ∧ sealedReady.catalog.state ≠ .building) ∧
    (entries 256).catalog.entries.length = 256 ∧ (entries 255).catalog.entries.length = 255 ∧
    (∀ e ∈ building.catalog.entries, e.defn.id ≠ 3) ∧
    ((readDefine (definePayload 3)).bind DefineReq.definition) = none ∧
    (((readDefine (definePayload 1)).bind DefineReq.definition).map (fun d => d.id)) = some 3 := by decide +kernel

/-- A DEFINE with these fields and no attributes. -/
def request (id kindCode width link : Nat) (lower upper : Word32) (choices : List Int) (default : WireValue) : DefineReq :=
  { id := id, kindCode := kindCode, width := width, persistent := false, stopOnly := false, constant := false, link := link
    lower := lower, upper := upper, choices := choices, default := default }

/-- Each kind at a bound of its conditions: the last value of a domain and the first beyond it, 2 choices and 1, 32 bytes and 33. -/
theorem witness_DefineAddsTheEntry_definition :
    (request 65534 1 1 0 0 255 [] (.number 255)).definition.isSome = true ∧
    (request 65535 1 1 0 0 255 [] (.number 255)).definition = none ∧
    (request 1 1 1 0 0 256 [] (.number 255)).definition = none ∧
    (request 1 2 1 2 0xFFFFFF80 127 [] (.number 0xFFFFFF80)).definition.isSome = true ∧
    (request 1 2 1 2 0xFFFFFF7F 127 [] (.number 0)).definition = none ∧
    (request 1 3 4 0 0 0 [-1, 7] (.number 0xFFFFFFFF)).definition.isSome = true ∧
    (request 1 3 4 0 0 0 [7] (.number 7)).definition = none ∧
    (request 1 4 32 0 0 0 [] (.text [])).definition.isSome = true ∧
    (request 1 4 33 0 0 0 [] (.text [])).definition = none ∧
    (request 1 4 32 2 0 0 [] (.text [])).definition = none := by decide +kernel

/-- Mode codes 2 and 3, rate codes 5 and 6. -/
theorem witness_SetupReplacesTheRecord :
    building.Reaches .A 1 kSetup ∧ building.catalog.state = .building ∧ sealedReady.Reaches .A 1 kSetup ∧
    ¬ (2 < (2 : Byte).toNat ∨ 5 < (5 : Byte).toNat) ∧ (2 < (3 : Byte).toNat) ∧ (5 < (6 : Byte).toNat) := by decide +kernel

/-- Each arm of SEAL; the validation passes on `building`. -/
theorem witness_SealStartsTheCatalogWrite :
    building.Reaches .A 1 kSeal ∧ building.catalog.state = .building ∧ sealValidation building.catalog.entries = none ∧
    sealedReady.Reaches .A 1 kSeal ∧ sealedReady.catalog.state ≠ .building ∧
    sealValidation [{ defn := number 1 10 2 1 true, live := none }] ≠ none ∧ building.ctl.supply = .normal := by decide +kernel

/-- A link that names nothing, one between kinds of persistence, a cycle of two, a default above that of the entry linked to, and one
slot group too many: 113 texts of 9 slots take 1017. -/
theorem witness_SealStartsTheCatalogWrite_validation :
    let entry := fun (d : Definition) => ({ defn := d, live := none } : Entry)
    let texts := fun (n : Nat) => (List.range n).map (fun k => entry
      { id := k + 1, shape := .text 128, link := 0, default := .text [], persistent := true, stopOnly := false, constant := false })
    sealValidation [entry (number 1 10 3 1 false), entry (number 2 10 3 1 false)] = some (.linkInvalid, 1) ∧
    sealValidation [entry (number 1 10 2 1 false), entry { number 2 10 0 1 false with persistent := false }] =
      some (.linkInvalid, 1) ∧
    sealValidation [entry (number 1 10 0 1 false), entry (number 2 10 3 1 false), entry (number 3 10 2 1 false)] =
      some (.linkCycle, 2) ∧
    sealValidation [entry (number 1 10 2 5 false), entry (number 2 10 0 4 false)] = some (.linkViolation, 1) ∧
    sealValidation (texts 113) = none ∧ sealValidation (texts 114) = some (.catalogTooLarge, 114) ∧
    ((texts 114).map (fun e => e.defn.id)).Pairwise (· < ·) := by decide +kernel

theorem witness_WipeClearsTheCatalog :
    building.Reaches .A 1 kWipe ∧ building.catalog.state = .building ∧ building.store.operation = .idle ∧
    (sealedReady.stack.frames = [] ∧ sealedReady.portA.bulk.active = false ∧ sealedReady.portB.bulk.active = false) ∧
    owned.Reaches .A 1 kWipe ∧ owned.stack.frames ≠ [] := by decide +kernel

/-- A step of a nontrivial state: the owner's lease expires. -/
theorem witness_CatalogStaysInIdOrder :
    owned.IdsAscending ∧ step { owned with pending := [.leaseExpiry .A] } = .next (after (.leaseExpiry .A) owned) :=
  ⟨by decide +kernel, rfl⟩

/-- Each arm of BEGIN: BUILDING, the other owner, depths 8 and 7, a commit in flight, a write, depth 0 and above. -/
theorem witness_BeginPushesAFrame :
    building.Reaches .A 1 kBegin ∧ readLabel [] = some none ∧ readLabel [1, 2, 3, 4] = some (some [1, 2, 3, 4]) ∧
    (owning .B [frame1]).Reaches .A 1 kBegin ∧ (owning .B [frame1]).stack.owner = some (otherPort .A) ∧
    (owning .A (List.replicate 8 bare)).stack.frames.length = 8 ∧ (owning .A (List.replicate 7 bare)).stack.frames.length = 7 ∧
    (inFlight .first 4 (.closeMark 1 0) []).Reaches .A 1 kBegin ∧
    (bulkAt owned (.writing (writing 1 2 0 [] none))).portA.bulk.locks = true ∧
    sealedReady.Reaches .A 1 kBegin ∧ sealedReady.stack.frames = [] ∧ owned.Reaches .A 1 kBegin := by decide +kernel

/-- The payload of a SET of entry `id` to a number. -/
def setPayload (id : Byte) (n : Byte) : List Byte := [0, id, 1, 0, 0, 0, n]

/-- Entry 1 has a record and entry 2 has none; values that pass and one that does not; a pool with its last record and empty; TUNE. -/
theorem witness_SetStagesAValue :
    owned.Reaches .A 1 kSet ∧ readSet (setPayload 2 7) = some { id := 2, value := .number 7 } ∧
    owned.catalog.state = .sealed ∧ owned.stack.owner = some .A ∧ owned.commit = none ∧ owned.portA.bulk.locks = false ∧
    valueCheck owned.catalog.entries Entry.working 2 (.number 7) = .ok (.num 7) ∧
    (∃ u ∈ frame1.undo, u.id = 1) ∧ (¬ ∃ u ∈ frame1.undo, u.id = 2) ∧
    (valueCheck owned.catalog.entries Entry.working 2 (.number 21)).toOption = none ∧
    (valueCheck owned.catalog.entries Entry.working 2 (.number 20)).toOption = some (.num 20) ∧
    (findEntry owned.catalog.entries 1).map (fun e => (e.defn.constant, e.defn.link)) = some (false, 2) ∧
    (findEntry owned.catalog.entries 2).map Entry.working = some (.num 5) ∧
    (valueCheck owned.catalog.entries Entry.working 1 (.number 5)).toOption = some (.num 5) ∧
    (valueCheck owned.catalog.entries Entry.working 1 (.number 6)).toOption = none ∧
    findEntry owned.catalog.entries 3 = none ∧
    ({ owned with stack := { owned.stack with free := 0 } } : State).stack.free = 0 ∧
    ({ owning .B [frame1] with catalog := { owned.catalog with setup := { Setup.defaults with mode := .tune } } } : State).Reaches
      .B 1 kSet := by decide +kernel

theorem witness_GetReportsThePortsView :
    owned.Reaches .A 1 kGet ∧ owned.Reaches .B 1 kGet ∧ (findEntry owned.catalog.entries (be16 0 1)).isSome = true ∧
    findEntry owned.catalog.entries (be16 0 3) = none ∧ owned.stack.owner = some .A ∧ owned.stack.owner ≠ some .B ∧
    building.Reaches .A 1 kGet ∧ building.catalog.state ≠ .sealed := by decide +kernel

/-- Depths 0, 1 and 2, a label that matches and one that does not. -/
theorem witness_RollbackRemovesTheTopFrame :
    owned.Reaches .A 1 kRollback ∧ readLabel [] = some none ∧ sealedReady.stack.frames = [] ∧ owned.stack.frames = [frame1] ∧
    (owning .A [{ bare with label := some [1, 2, 3, 4] }, frame1]).Reaches .A 1 kRollback ∧
    readLabel [1, 2, 3, 4] = some (some [1, 2, 3, 4]) ∧ bare.label ≠ some [1, 2, 3, 4] ∧
    (frame1.undo.map (fun u => u.id)).Nodup := by decide +kernel

/-- Depths 1 and 2; one record moves and one is returned. -/
theorem witness_MergeFoldsTheTopFrame :
    (owning .A [{ bare with undo := [{ id := 1, prior := .num 3 }, { id := 2, prior := .num 5 }] }, frame1]).Reaches .A 1 kMerge ∧
    readLabel [] = some none ∧ owned.Reaches .A 1 kMerge ∧ owned.stack.frames.length = 1 ∧
    (owning .A [bare, frame1]).stack.frames.length = 2 ∧ (owning .A [bare, frame1]).stack.owner = some .A ∧
    (owning .A [bare, frame1]).commit = none ∧ (owning .A [bare, frame1]).portA.bulk.locks = false := by decide +kernel

theorem witness_AbandonEmptiesTheStack :
    (owning .A [bare, frame1]).Reaches .A 1 kAbandon ∧ (owning .A [bare, frame1]).stack.frames ≠ [] ∧
    (owning .A [bare, frame1]).stack.owner = some .A ∧ sealedReady.Reaches .A 1 kAbandon ∧ sealedReady.stack.frames = [] ∧
    (owning .B [frame1]).Reaches .A 1 kAbandon ∧ (inFlight .first 4 (.closeMark 1 0) []).Reaches .A 1 kAbandon := by decide +kernel

theorem witness_UndoPoolIsConserved :
    owned.PoolConserved ∧ step { owned with pending := [.leaseExpiry .A] } = .next (after (.leaseExpiry .A) owned) :=
  ⟨by decide +kernel, rfl⟩

theorem witness_DepthAndOwnerStayBound :
    owned.StackBounded ∧ (owning .A (List.replicate 8 bare)).StackBounded ∧
    step { owned with pending := [.leaseExpiry .A] } = .next (after (.leaseExpiry .A) owned) :=
  ⟨by decide +kernel, by decide +kernel, rfl⟩

/-- The commit in flight whose close mark is being programmed, that program waiting as the next command. -/
def closing : State := { inFlight .first 4 (.closeMark 1 0) [] with pending := [.slotProgramDone true true] }

theorem closing_coherent : closing.Coherent := by
  refine ⟨by decide +kernel, by decide +kernel, ⟨by decide +kernel, by decide +kernel, by decide +kernel, ?_⟩,
    ⟨by decide +kernel, by decide +kernel, by decide +kernel, ?_⟩, ?_,
    ⟨by decide +kernel, by decide +kernel, by decide +kernel, trivial, by decide +kernel, by decide +kernel⟩⟩
  · intro w h; cases h
  · intro w h; cases h
  · intro c h; cases h; decide +kernel

theorem witness_OwnershipStaysCoherent :
    closing.StackBounded ∧ closing.Coherent ∧ step closing = .next (after (.slotProgramDone true true) { closing with pending := [] }) :=
  ⟨by decide +kernel, closing_coherent, rfl⟩

theorem witness_ViewsAgreeAtDepthZero :
    (closing.StackBounded ∧ closing.Coherent ∧ closing.IdsAscending ∧ closing.UndoDistinct ∧ closing.ChangesFixed ∧
      closing.ViewsRestorable ∧ step closing = .next (after (.slotProgramDone true true) { closing with pending := [] })) ∧
    sealedReady.ViewsRestorable ∧ sealedReady.stack.frames = [] := by
  refine ⟨⟨by decide +kernel, closing_coherent, by decide +kernel, by decide +kernel, ?_, by decide +kernel, rfl⟩,
    by decide +kernel, rfl⟩
  intro c h; cases h; decide +kernel

/-- `owned` with a link that its working values break: entry 1 at 10 over entry 2 at 5. -/
def linkBroken : State :=
  { owned with
    catalog :=
      { owned.catalog with
        entries := [valued (number 1 10 2 1 true) 10 1 0, valued (number 2 20 0 5 false) 5 5 0] } }

/-- One state for each check of COMMIT, the last number among them. -/
theorem witness_RefusedCommitChangesNothing :
    building.Reaches .A 1 kCommit ∧ sealedReady.Reaches .A 1 kCommit ∧ (owning .A [bare, frame1]).Reaches .A 1 kCommit ∧
    (inFlight .first 4 (.closeMark 1 0) []).Reaches .A 1 kCommit ∧ owned.Reaches .A 1 kCommit ∧
    (bulkAt owned (.reading (reading .committed [1] 0))).Reaches .A 1 kCommit ∧
    (bulkAt owned (.reading (reading .committed [1] 0))).portA.bulk.active = true ∧
    owned.runFailure true = some 1 ∧ owned.runFailure false = none ∧ linkBroken.linkFailure = some 1 ∧ linkBroken.IdsAscending ∧
    owned.linkFailure = none ∧ ({ owned with ctl := { owned.ctl with supply := .warn } } : State).Reaches .A 1 kCommit ∧
    4294967295 ≤ ({ owned with store := { owned.store with durable := 4294967295 } } : State).store.durable ∧
    ({ owned with store := { owned.store with durable := 4294967295 } } : State).Reaches .A 1 kCommit := by decide +kernel

theorem witness_RunCheckGuardsStopOnlyEntries :
    owned.runFailure true = some 1 ∧ owned.IdsAscending ∧ sealedReady.runFailure true = none := by decide +kernel

theorem witness_AcceptedCommitIsInFlight :
    owned.Reaches .A 1 kCommit ∧ owned.commitCheck .A false = none ∧ owned.store.compaction = .none ∧
    owned.store.appendFits owned.groupOf = true ∧ owned.store.imageOwed = false ∧
    ({ owned with store := { owned.store with durable := 4294967294 } } : State).commitCheck .A false = none := by decide +kernel

/-- With sector 4 FILLING the open mark goes there, with none the header of sector 5; beside an erase the group waits. -/
theorem witness_AcceptedCommitIsInFlight_starts :
    let opens := { owned with store := { owned.store with table := owned.store.table.drop 1, restartNote := true } }
    let busy := { owned with store := { owned.store with operation := .erasing } }
    owned.store.operation = .idle ∧ (∀ x ∈ owned.store.table, x.role ≠ .stale ∧ x.role ≠ .erasing) ∧
    (∀ s ∈ [opens, busy], s.Reaches .A 1 kCommit ∧ s.commitCheck .A false = none ∧ s.store.compaction = .none ∧
      s.store.appendFits s.groupOf = true ∧ s.store.imageOwed = false) ∧
    (∀ x ∈ opens.store.table, x.role ≠ .filling) ∧ busy.store.operation ≠ .idle ∧
    (after (.commit .A 1 [] false) owned).store.arrayOp = .slot 4 (.openMark .commit 1) ∧
    (after (.commit .A 1 [] false) opens).store.arrayOp = .header 5 1 true ∧
    (after (.commit .A 1 [] false) busy).store.arrayOp = .none := by decide +kernel

/-- Beside a RUNNING compaction, a REQUESTED one, and an erase that leaves no room, for which compaction becomes REQUESTED. -/
theorem witness_AcceptedCommitIsInFlight_waits :
    let beside := fun (op : Operation) (c : Compaction) (table : List SectorRec) =>
      { owned with store := { owned.store with operation := op, compaction := c, table := table } }
    let full := [sectorOf 4 .full 256, sectorOf 5 .erasing 256]
    let cases := [beside .compacting (.running .first) owned.store.table, beside .erasing (.requested .second) full,
      beside .erasing .none full]
    (∀ s ∈ cases, s.Reaches .A 1 kCommit ∧ s.commitCheck .A false = none ∧ s.store.operation ≠ .idle ∧
      (after (.commit .A 1 [] false) s).commit.isSome = true ∧ (after (.commit .A 1 [] false) s).store.writing = none) ∧
    cases.map (fun s => (after (.commit .A 1 [] false) s).store.compaction) =
      [.running .first, .requested .second, .requested .first] := by decide +kernel

/-- IDLE: a requested image that fits, and no room in a ring of FULL sectors. -/
theorem witness_AcceptedCommitIsInFlight_room :
    let asked := { owned with store := { owned.store with compaction := .requested .second } }
    let full := { owned with store := { owned.store with table := [sectorOf 4 .full 256, sectorOf 5 .retired 9] } }
    (∀ s ∈ [asked, full], s.Reaches .A 1 kCommit ∧ s.commitCheck .A false = none ∧ s.store.operation = .idle ∧
      ∀ x ∈ s.store.table, x.role ≠ .stale ∧ x.role ≠ .erasing) ∧
    (let t := after (.commit .A 1 [] false) asked
     t.store.compaction = .running .second ∧ t.store.arrayOp = .header 5 1 false ∧ t.commit.isSome = true) ∧
    (let t := after (.commit .A 1 [] false) full
     t.store.mode = .readOnly ∧ t.commit = none ∧ t.portB.notices = [.storeReadOnly 1] ∧
     t.portA.outbound = owned.portA.outbound ++ [{ seq := 1, body := .refuse kCommit .storeReadOnly 0 }]) := by decide +kernel

/-- `owned` since a start with NO_IMAGE, its COMMIT the next command. -/
def owing : State :=
  { owned with store := { owned.store with imageOwed := true }, pending := [.commit .A 1 [] false] }

/-- The COMMIT is taken, and the image it waits for is begun in its place. -/
theorem witness_AcceptedCommitIsInFlight_owed :
    owing.store.imageOwed = true ∧ owing.store.operation ≠ .appending ∧
    step owing = .next (after (.commit .A 1 [] false) { owing with pending := [] }) ∧
    (after (.commit .A 1 [] false) owing).commit.isSome = true ∧
    (after (.commit .A 1 [] false) owing).store.operation = .compacting :=
  ⟨by decide +kernel, by decide +kernel, rfl, by decide +kernel, by decide +kernel⟩

/-- The close mark of the commit, its answer owed and suppressed. -/
theorem witness_CloseMarkIsTheDurabilityPoint :
    closing.store.arrayOp = .slot 4 (.closeMark 1 0) ∧ closing.store.writing.map (fun g => g.remaining) = some [.closeMark 1 0] ∧
    closing.store.operation = .appending ∧ closing.commit = some flight ∧ closing.stack.frames = [frame1] ∧
    closing.stack.owner = some flight.port ∧ flight.suppressed = false ∧
    (∃ o ∈ closing.portA.outstanding, o.seq = flight.seq) ∧
    ({ flight with suppressed := true } : InFlight).suppressed = true ∧
    (let s := { closing with store := { closing.store with
        compaction := .requested .first, table := [sectorOf 4 .filling 255, sectorOf 5 .retired 9] } }
     (after (.slotProgramDone true true) s).portB.notices.contains (.storeReadOnly 1) = true) := by decide +kernel

/-- The hypotheses that every clause shares, with an answer owed. -/
abbrev failing (s : State) (a : Attempt) : Prop :=
  s.store.arrayOp = .slot 4 (.closeMark 1 0) ∧ s.store.writing.isSome = true ∧ s.store.operation = .appending ∧
  s.store.pend = some (pendingGroup a) ∧ s.commit = some flight ∧ flight.suppressed = false ∧
  (∃ o ∈ s.portA.outstanding, o.seq = flight.seq) ∧ s.store.mode = .writable

/-- A first attempt in sector 4 with these other sectors, R being 1: 6 usable ones are enough. -/
def firstAttempt (others : List SectorRec) : State :=
  let s := inFlight .first 4 (.closeMark 1 0) []
  { s with store := { s.store with table := sectorOf 4 .filling 10 :: others } }

/-- A second attempt; a first one with room in FREE sectors, with none but a STALE sector, in WARN, and with 5 usable sectors left. -/
theorem witness_FailedAppendLeavesTheFrame :
    failing (inFlight .second 4 (.closeMark 1 0) []) .second ∧
    (let s := inFlight .first 4 (.closeMark 1 0) []
     failing s .first ∧ s.ctl.supply = .normal ∧ s.catalog.state = .sealed ∧ s.store.compaction = .none ∧
     (s.store.table.filter (fun x => decide (x.role ≠ .retired ∧ x.sector ≠ 4))).length = 11 ∧
     (groupSlots .commit (pendingGroup .first).number (pendingGroup .first).entries).length ≤
       255 * (s.store.table.filter (fun x => decide (x.role = .free ∧ x.sector ≠ 4))).length ∧
     (ringOrderAfter s.store.openedLast).find? (fun i =>
       decide (i ≠ 4) && (s.store.rec? i).any (fun x => decide (x.role = .free))) = some 5) ∧
    (let s := firstAttempt ([5, 6, 7, 8, 9, 10].map (fun k => sectorOf k .stale 256))
     failing s .first ∧ s.ctl.supply = .normal ∧ s.catalog.state = .sealed ∧ s.store.compaction = .none ∧
     (s.store.table.filter (fun x => decide (x.role ≠ .retired ∧ x.sector ≠ 4))).length = 2 * s.store.reserve + 4 ∧
     255 * (s.store.table.filter (fun x => decide (x.role = .free ∧ x.sector ≠ 4))).length <
       (groupSlots .commit (pendingGroup .first).number (pendingGroup .first).entries).length ∧
     ∃ x ∈ s.store.table, x.sector ≠ 4 ∧ x.role = .stale) ∧
    (failing { inFlight .first 4 (.closeMark 1 0) [] with ctl := { ready.ctl with supply := .warn } } .first) ∧
    (let s := firstAttempt ([5, 6, 7, 8, 9].map (fun k => sectorOf k .free 1))
     failing s .first ∧ (s.store.table.filter (fun x => decide (x.role ≠ .retired ∧ x.sector ≠ 4))).length = 5 ∧
     (after (.slotProgramDone false true) s).store.mode = .readOnly) := by decide +kernel

/-- A group of 256 slots. -/
def bigGroup : PendingAppend := { pendingGroup .first with entries := List.replicate 254 { id := 1, value := .num 3, version := 1 } }

/-- A first attempt that lacks room, nothing STALE: the image fits into the one FREE sector, or into none. -/
theorem witness_FailedAppendLeavesTheFrame_room :
    let full := [5, 6, 7, 8, 9].map (fun k => sectorOf k .full 256)
    let big := firstAttempt (full ++ [sectorOf 10 .free 1])
    let s := { big with store := { big.store with pend := some bigGroup } }
    let none := firstAttempt (full ++ [sectorOf 10 .full 256])
    (∀ x ∈ [s, none], x.store.arrayOp = .slot 4 (.closeMark 1 0) ∧ x.store.operation = .appending ∧ x.commit = some flight ∧
      x.store.mode = .writable ∧ x.store.compaction = .none ∧ x.catalog.state = .sealed ∧ x.ctl.start = .ready ∧
      x.ctl.supply = .normal ∧ (x.store.table.filter (fun y => decide (y.role ≠ .retired ∧ y.sector ≠ 4))).length = 6 ∧
      x.store.reserve = 1 ∧ ∀ y ∈ x.store.table, y.role ≠ .stale ∧ y.role ≠ .erasing) ∧
    255 * (s.store.table.filter (fun y => decide (y.role = .free ∧ y.sector ≠ 4))).length <
      (groupSlots .commit bigGroup.number bigGroup.entries).length ∧
    (let t := after (.slotProgramDone false true) s
     t.store.compaction = .running .first ∧ t.store.pend = some { bigGroup with attempt := .second } ∧
     t.store.arrayOp = .header 10 1 true) ∧
    (let t := after (.slotProgramDone false true) none
     t.store.mode = .readOnly ∧ t.store.pend.isNone = true ∧ t.portB.notices = [.storeReadOnly 1]) := by decide +kernel

/-- The header of a sector being opened for a second attempt. -/
theorem witness_FailedAppendLeavesTheFrame_header :
    let s := inFlight .second 4 (.closeMark 1 0) []
    let h := { s with store := { s.store with arrayOp := .header 4 1 true } }
    h.store.arrayOp = .header 4 1 true ∧ h.store.writing.isSome = true ∧ h.store.operation = .appending ∧
    h.store.pend = some (pendingGroup .second) ∧ h.commit = some flight ∧
    (after (.slotProgramDone false true) h).commit = none ∧ (after (.slotProgramDone false true) h).nv.retireMap = [4] := by
  decide +kernel

/-- A compaction image of R = 1 whose program fails in sector 5, among these other sectors, with this append waiting or none. -/
def imageFailing (a : Attempt) (others : List SectorRec) (pend : Option PendingAppend) : State :=
  { inFlight .first 4 (.closeMark 1 0) [] with
    store :=
      { sealedReady.store with
        table := sectorOf 5 .filling 255 :: others, pend := pend, operation := .compacting, compaction := .running a
        arrayOp := .slot 5 (.closeMark 2 0)
        writing := some
          { kind := .image, attempt := a, remaining := [.closeMark 2 0]
            begun := some { sector := 5, generation := some 2, shared := false }, sectors := [5] } } }

/-- Sectors from 6 on in one role. -/
def sectorsOf (n : Nat) (role : Role) : List SectorRec := (List.range n).map (fun k => sectorOf (k + 6) role 1)

/-- A first image that is begun again, that must wait for erases, and that has nothing left to erase; a second one without and with an
append that lacks room; and 5 usable sectors left. -/
theorem witness_FailedAppendLeavesTheFrame_image :
    (∀ s ∈ [imageFailing .first (sectorsOf 6 .free) none, imageFailing .first (sectorsOf 6 .stale) none,
        imageFailing .first (sectorsOf 6 .full) none, imageFailing .second (sectorsOf 6 .free) none,
        imageFailing .second (sectorsOf 6 .stale) (some (pendingGroup .first)), imageFailing .first (sectorsOf 5 .free) none],
      s.store.arrayOp = .slot 5 (.closeMark 2 0) ∧ s.store.writing.isSome = true ∧ s.store.operation = .compacting ∧
      s.catalog.state = .sealed ∧ s.ctl.start = .ready ∧ s.ctl.supply = .normal ∧ s.store.mode = .writable) ∧
    (let t := after (.slotProgramDone false true) (imageFailing .first (sectorsOf 6 .free) none)
     t.store.compaction = .running .second ∧ t.store.arrayOp = .header 6 1 true) ∧
    (let t := after (.slotProgramDone false true) (imageFailing .first (sectorsOf 6 .stale) none)
     t.store.compaction = .requested .second ∧ t.store.operation = .erasing) ∧
    (let t := after (.slotProgramDone false true) (imageFailing .first (sectorsOf 6 .full) none)
     t.store.compaction = .none ∧ t.store.mode = .readOnly) ∧
    (let t := after (.slotProgramDone false true) (imageFailing .second (sectorsOf 6 .free) none)
     t.store.compaction = .none ∧ t.store.mode = .writable) ∧
    (let t := after (.slotProgramDone false true) (imageFailing .second (sectorsOf 6 .stale) (some (pendingGroup .first)))
     t.store.compaction = .requested .first ∧ t.store.pend = some (pendingGroup .first)) ∧
    (let t := after (.slotProgramDone false true) (imageFailing .first (sectorsOf 5 .free) none)
     t.store.compaction = .none ∧ t.store.mode = .readOnly) := by decide +kernel

/-- A second image failure with an append that lacks room, nothing STALE: room for an image in one FREE sector, and none. -/
theorem witness_FailedAppendLeavesTheFrame_second :
    let full := sectorsOf 5 .full
    let big := imageFailing .second (full ++ [sectorOf 11 .free 1]) (some bigGroup)
    let none := imageFailing .second (full ++ [sectorOf 11 .full 256]) (some (pendingGroup .first))
    (∀ x ∈ [big, none], x.store.arrayOp = .slot 5 (.closeMark 2 0) ∧ x.store.operation = .compacting ∧
      (x.store.table.filter (fun y => decide (y.role ≠ .retired ∧ y.sector ≠ 5))).length = 2 * x.store.reserve + 4 ∧
      ∀ y ∈ x.store.table, y.sector ≠ 5 → y.role ≠ .stale ∧ y.role ≠ .erasing) ∧
    (after (.slotProgramDone false true) big).store.compaction = .running .first ∧
    (after (.slotProgramDone false true) big).store.pend = some bigGroup ∧
    (after (.slotProgramDone false true) none).store.mode = .readOnly ∧
    (after (.slotProgramDone false true) none).store.pend.isNone = true := by decide +kernel

theorem witness_DurableNumberStepsByOne :
    closing.StackBounded ∧ closing.Coherent ∧ step closing = .next (after (.slotProgramDone true true) { closing with pending := [] }) ∧
    closing.ctl.start = .ready ∧ (after (.slotProgramDone true true) { closing with pending := [] }).ctl.start = .ready :=
  ⟨by decide +kernel, closing_coherent, rfl, rfl, by decide +kernel⟩

theorem witness_ProgrammedSlotJoinsItsSector :
    let s := inFlight .first 4 (.openMark .commit 1) [.closeMark 1 0]
    s.store.arrayOp = .slot 4 (.openMark .commit 1) ∧
    s.store.writing.map (fun g => g.remaining) = some (.openMark .commit 1 :: .closeMark 1 0 :: []) := by decide

/-- Slot 254 and slot 255 of sector 4, generation 7 in the table: the next slot, and the header of the next sector, whose slot follows. -/
theorem witness_ProgrammedSlotJoinsItsSector_next :
    let at4 := fun (n : Nat) =>
      let s := inFlight .first 4 (.openMark .commit 1) [.closeMark 1 0]
      { s with store := { s.store with table := [{ sectorOf 4 .filling n with generation := some 7 }, sectorOf 5 .free 1] } }
    let opened := after (.slotProgramDone true true) (at4 255)
    (after (.slotProgramDone true true) (at4 254)).store.arrayOp = .slot 4 (.closeMark 1 0) ∧
    opened.store.arrayOp = .header 5 8 false ∧ opened.store.table.map (fun x => x.role) = [.full, .filling] ∧
    opened.store.writing.map (fun g => g.remaining) = some (.closeMark 1 0 :: []) ∧
    (∃ x ∈ opened.store.table, x.sector = 5) ∧ (∀ x ∈ opened.store.table, x.role = .filling ↔ x.sector = 5) ∧
    (after (.slotProgramDone true true) opened).store.arrayOp = .slot 5 (.closeMark 1 0) := by decide +kernel

/-- The close mark of a compaction image that began in sector 5 with generation 2; sectors 6 and 7 hold generations 1 and 2. -/
def imageClosing : State :=
  { sealedReady with
    store :=
      { sealedReady.store with
        table :=
          [{ sectorOf 5 .filling 255 with generation := some 2 }, { sectorOf 6 .full 256 with generation := some 1 },
            { sectorOf 7 .full 256 with generation := some 2 }]
        operation := .compacting, compaction := .running .first, arrayOp := .slot 5 (.closeMark 2 0)
        writing := some
          { kind := .image, attempt := .first, remaining := [.closeMark 2 0]
            begun := some { sector := 5, generation := some 2, shared := false }, sectors := [5] } } }

/-- The close of an image in the last slot of its sector: the older FULL sector is the one that is erased, the other stays. -/
theorem witness_ProgrammedSlotJoinsItsSector_image :
    imageClosing.store.arrayOp = .slot 5 (.closeMark 2 0) ∧
    imageClosing.store.writing.map (fun g => (g.remaining, g.begun.bind (fun b => b.generation))) =
      some ([.closeMark 2 0], some 2) ∧
    imageClosing.store.operation = .compacting ∧ imageClosing.ctl.start = .ready ∧ imageClosing.ctl.supply = .normal ∧
    imageClosing.catalog.state = .sealed ∧
    (after (.slotProgramDone true true) imageClosing).store.table.map (fun x => (x.sector, x.role)) =
      [(5, .full), (6, .erasing), (7, .full)] := by decide +kernel

/-- A sector under erase whose count becomes 99999 or 100000. -/
def erasing (count : Nat) : State :=
  { sealedReady with
    store :=
      { sealedReady.store with
        table := [{ sectorOf 5 .erasing 200 with eraseCount := some count }], operation := .erasing, arrayOp := .erase 5 } }

theorem witness_CleanEraseFreesTheSector :
    (erasing 99998).store.arrayOp = .erase 5 ∧ (erasing 99998).store.operation = .erasing ∧ (erasing 99998).store.pend = none ∧
    (erasing 99998).store.compaction = .none ∧
    (erasing 99998).store.rec? 5 = some { sectorOf 5 .erasing 200 with eraseCount := some 99998 } ∧
    (erasing 99999).store.rec? 5 = some { sectorOf 5 .erasing 200 with eraseCount := some 99999 } ∧
    (after (.sectorEraseDone .clean true) (erasing 99998)).store.table.map (fun x => x.role) = [.free] ∧
    (after (.sectorEraseDone .clean true) (erasing 99999)).store.table.map (fun x => x.role) = [.retired] := by decide +kernel

/-- A sector under erase without a count that reads, among these others. -/
def erasingUncounted (others : List SectorRec) : State :=
  { erasing 0 with
    store := { (erasing 0).store with table := { sectorOf 5 .erasing 200 with eraseCount := none } :: others } }

/-- The previous count is the highest in the ring, and 0 on a blank part. -/
theorem witness_CleanEraseFreesTheSector_uncounted :
    (∀ n ∈ [41, 100000], (erasingUncounted [{ sectorOf 6 .retired 1 with eraseCount := some n }]).store.PreviousCount 5 n) ∧
    (erasingUncounted []).store.PreviousCount 5 0 ∧
    (let count := fun (others : List SectorRec) =>
      ((after (.sectorEraseDone .clean true) (erasingUncounted others)).store.rec? 5).map (fun x => (x.role, x.eraseCount))
     count [] = some (.free, some 1) ∧
     count [{ sectorOf 6 .retired 1 with eraseCount := some 41 }] = some (.free, some 42) ∧
     count [{ sectorOf 6 .retired 1 with eraseCount := some 100000 }] = some (.retired, some 100001)) :=
  ⟨fun n _ => ⟨_, rfl, .inr ⟨rfl, by
      intro y hy m hm
      rcases List.mem_cons.mp hy with rfl | hy
      · cases hm
      · rw [List.mem_singleton.mp hy] at hm; exact (Option.some.inj hm).ge,
      .inl ⟨_, .tail _ (.head _), rfl⟩⟩⟩,
    ⟨_, rfl, .inr ⟨rfl, (by
      intro y hy m hm
      rw [List.mem_singleton.mp hy] at hm
      cases hm), .inr rfl⟩⟩,
    by decide +kernel⟩

/-- A sector under erase beside `n` FREE ones, a commit waiting for room or none. -/
def erasingBeside (n : Nat) (s : State) : State :=
  { s with
    store :=
      { s.store with
        table := sectorOf 5 .erasing 200 :: (List.range n).map (fun k => sectorOf (k + 6) .free 1), operation := .erasing
        arrayOp := .erase 5, writing := none } }

/-- 5 usable sectors left with a commit waiting, and 6 with none (R is 1). -/
theorem witness_CleanEraseFreesTheSector_failed :
    (let s := erasingBeside 5 (inFlight .first 4 (.closeMark 1 0) [])
     s.store.arrayOp = .erase 5 ∧ s.store.operation = .erasing ∧ s.store.compaction = .none ∧ s.store.mode = .writable ∧
     (s.store.table.filter (fun x => decide (x.role ≠ .retired ∧ x.sector ≠ 5))).length < 2 * s.store.reserve + 4 ∧
     s.store.pend = some (pendingGroup .first) ∧ s.commit = some flight ∧ flight.suppressed = false ∧
     (∃ o ∈ s.portA.outstanding, o.seq = flight.seq) ∧ ∃ x ∈ s.store.table, x.sector = 5) ∧
    (let s := erasingBeside 6 sealedReady
     s.store.arrayOp = .erase 5 ∧ s.store.operation = .erasing ∧ s.store.compaction = .none ∧ s.store.pend = none ∧
     2 * s.store.reserve + 4 ≤ (s.store.table.filter (fun x => decide (x.role ≠ .retired ∧ x.sector ≠ 5))).length) := by
  decide +kernel

/-- The last erase, with both attempts of an append and both of an image waiting, sector 4 FILLING: a second one opens sector 5. -/
theorem witness_CleanEraseFreesTheSector_waiting :
    let base := erasingBeside 5 (inFlight .first 4 (.closeMark 1 0) [])
    let table := sectorOf 4 .filling 10 :: base.store.table
    let append := fun (a : Attempt) => { base with store := { base.store with table := table, pend := some (pendingGroup a) } }
    let image := fun (a : Attempt) =>
      { base with store := { base.store with table := table, pend := none, compaction := .requested a } }
    let done := fun (s : State) => (after (.sectorEraseDone .clean true) s).store
    (∀ s ∈ [append .first, append .second, image .first, image .second],
      s.store.arrayOp = .erase 5 ∧ s.store.operation = .erasing ∧ s.catalog.state = .sealed ∧ s.ctl.start = .ready ∧
      s.ctl.supply = .normal ∧ s.store.mode = .writable ∧ s.store.rec? 5 = some (sectorOf 5 .erasing 200) ∧
      s.store.imageOwed = false ∧ ∀ y ∈ s.store.table, y.sector ≠ 5 → y.role ≠ .stale ∧ y.role ≠ .erasing) ∧
    (append .first).store.compaction = .none ∧
    [.first, .second].map (fun a => (done (append a)).arrayOp) = [.slot 4 (.openMark .commit 1), .header 5 1 false] ∧
    [.first, .second].map (fun a => (done (image a)).arrayOp) = [.slot 4 (.openMark .image 0), .header 5 1 false] ∧
    [.first, .second].map (fun a => (done (image a)).compaction) = [.running .first, .running .second] := by decide +kernel

/-- SEAL or WIPE erasing sector `k` of the catalog area, the next one to follow. -/
def areaErase (op : Operation) (k : Nat) : State :=
  { building with
    catalog := { building.catalog with request := some 9 }
    portA := { building.portA with outstanding := [{ seq := 9, kind := kSeal }] }
    store := { sealedReady.store with operation := op, arrayOp := .erase k, tasks := [.erase (k + 1)] } }

/-- Sectors 0 and 3, SEAL and WIPE. -/
theorem witness_CleanEraseFreesTheSector_area :
    ∀ k ∈ [0, 3], ∀ op ∈ [Operation.catalogWrite, .wipeErase],
      (areaErase op k).store.arrayOp = .erase k ∧ k < 4 ∧ (areaErase op k).store.tasks = .erase (k + 1) :: [] ∧
      (areaErase op k).ctl.supply = .normal ∧ (areaErase op k).store.operation = op ∧
      (areaErase op k).catalog.request = some 9 ∧ ∃ o ∈ (areaErase op k).portA.outstanding, o.seq = 9 := by decide +kernel

/-- SEAL or WIPE erasing ring sector 5 beside `free` FREE ones, these steps to follow. -/
def ringErase (op : Operation) (free : Nat) (tasks : List Task) : State :=
  let s := areaErase op 0
  { s with store := { s.store with table := sectorOf 5 .erasing 200 :: sectorsOf free .free, arrayOp := .erase 5, tasks := tasks } }

/-- An erase between others and a last one, of SEAL with and without room for the image and of WIPE. -/
theorem witness_CleanEraseFreesTheSector_ring :
    (∀ s ∈ [ringErase .catalogWrite 2 [.erase 6], ringErase .wipeErase 2 [.erase 6], ringErase .catalogWrite 2 [.programArea],
        ringErase .catalogWrite 0 [.programArea], ringErase .wipeErase 2 [.retireMap]],
      s.store.arrayOp = .erase 5 ∧ s.ctl.supply = .normal ∧ s.store.rec? 5 = some (sectorOf 5 .erasing 200) ∧
      (sectorOf 5 .erasing 200).eraseCount = some 1 ∧ s.catalog.request = some 9 ∧ ∃ o ∈ s.portA.outstanding, o.seq = 9) ∧
    (∀ r ∈ [EraseResult.clean, .verifyFail], ∀ op ∈ [Operation.catalogWrite, .wipeErase],
      (after (.sectorEraseDone r true) (ringErase op 2 [.erase 6])).store.arrayOp = .erase 6) ∧
    (after (.sectorEraseDone .verifyFail true) (ringErase .catalogWrite 2 [.programArea])).store.arrayOp = .areaHeader 0 ∧
    (after (.sectorEraseDone .verifyFail true) (ringErase .catalogWrite 0 [.programArea])).catalog.state = .building ∧
    (after (.sectorEraseDone .clean true) (ringErase .wipeErase 2 [.retireMap])).store.arrayOp = .retireMap := by decide +kernel

/-- The close mark of the initial image is being programmed. -/
def lastOfImage : State :=
  { building with
    catalog := { building.catalog with state := .sealing, request := some 9 }
    portA := { building.portA with outstanding := [{ seq := 9, kind := kSeal }] }
    store :=
      { sealedReady.store with
        operation := .catalogWrite, arrayOp := .slot 4 (.closeMark 2 0)
        writing := some
          { kind := .image, attempt := .first, remaining := [.closeMark 2 0]
            begun := some { sector := 4, generation := some 1, shared := false }, sectors := [4] } } }

theorem witness_InitialImageCompletesSeal :
    lastOfImage.store.arrayOp = .slot 4 (.closeMark 2 0) ∧
    lastOfImage.store.writing.map (fun g => g.remaining) = some [.closeMark 2 0] ∧ lastOfImage.store.operation = .catalogWrite ∧
    lastOfImage.catalog.request = some 9 ∧ lastOfImage.store.pend = none ∧
    ∃ o ∈ lastOfImage.portA.outstanding, o.seq = 9 := by decide

/-- With R = 1, 5 usable ring sectors beside 2 RETIRED ones, and 6 beside 1. -/
theorem witness_InitialImageCompletesSeal_readOnly :
    let sealing := fun (usable retired : Nat) =>
      { lastOfImage with store := { lastOfImage.store with
          table := sectorOf 4 .filling 5 :: (sectorsOf (usable - 1) .free ++ sectorsOf retired .retired) } }
    (sealing 5 2).store.mode = .writable ∧ (sealing 6 1).store.mode = .writable ∧
    ((sealing 5 2).store.table.filter (fun x => decide (x.role ≠ .retired))).length < 2 * (sealing 5 2).store.reserve + 4 ∧
    2 * (sealing 6 1).store.reserve + 4 ≤ ((sealing 6 1).store.table.filter (fun x => decide (x.role ≠ .retired))).length ∧
    (let t := after (.slotProgramDone true true) (sealing 5 2)
     t.store.mode = .readOnly ∧ t.portA.notices = [.storeReadOnly 2] ∧ t.portB.notices = [.storeReadOnly 2]) ∧
    (after (.slotProgramDone true true) (sealing 6 1)).store.mode = .writable := by decide +kernel

/-- SEAL programming the catalog area: this program in progress, these steps to follow. -/
def areaWrite (op : ArrayOp) (tasks : List Task) : State :=
  { lastOfImage with
    nv := { NonVol.blank with retireMap := [7] }
    store := { lastOfImage.store with table := sectorsOf 6 .free, arrayOp := op, tasks := tasks, writing := none } }

/-- The headers of sectors 0 and 3, a slot between others, and the last slot of the area. -/
theorem witness_InitialImageCompletesSeal_area :
    (∀ k ∈ [0, 3], (areaWrite (.areaHeader k) [.areaSlot 0 (.openMark .defaults 1)]).store.arrayOp = .areaHeader k) ∧
    (areaWrite (.areaSlot 0 .more) [.areaSlot 0 .more]).store.tasks = .areaSlot 0 .more :: [] ∧
    (after (.slotProgramDone true true) (areaWrite (.areaHeader 0) [.areaSlot 0 .more])).nv.retireMap = [] ∧
    (let s := areaWrite (.areaSlot 0 .more) [.image .first]
     s.store.tasks = [.image .first] ∧ s.ctl.supply = .normal ∧ s.store.openedLast = none ∧
     (∀ x ∈ s.store.table, x.role ≠ .filling ∧ x.generation = none) ∧ s.catalog.request = some 9 ∧
     (∃ o ∈ s.portA.outstanding, o.seq = 9) ∧
     (after (.slotProgramDone true true) s).store.arrayOp = .header 6 1 false ∧
     (after (.slotProgramDone false true) s).catalog.state = .building) := by decide +kernel

/-- The retire map is being programmed at the end of a WIPE. -/
def lastOfWipe : State :=
  { ready with
    catalog := { ready.catalog with state := .wiping, request := some 9 }
    portA := { ready.portA with outstanding := [{ seq := 9, kind := kWipe }] }
    store := { sealedReady.store with operation := .wipeErase, arrayOp := .retireMap } }

theorem witness_RetireMapCompletesWipe :
    let s := { lastOfWipe with store := { lastOfWipe.store with table := sectorsOf 2 .retired ++ [sectorOf 9 .free 1] } }
    lastOfWipe.store.arrayOp = .retireMap ∧ lastOfWipe.catalog.request = some 9 ∧
    (∃ o ∈ lastOfWipe.portA.outstanding, o.seq = 9) ∧ (after (.slotProgramDone true true) s).nv.retireMap = [6, 7] := by decide

/-- Ranges at both ends of the ids, an empty one, and a WORKING read by the owner. -/
theorem witness_BulkReadFixesItsItemSet :
    owned.Reaches .A 1 kBulkRead ∧ readBulkRead [0, 1, 0, 2, 1] = some { lo := 1, hi := 2, view := .working } ∧
    owned.catalog.state = .sealed ∧ owned.portA.bulk = .idle ∧ owned.stack.owner = some .A ∧ owned.commit = none ∧
    readBulkRead [0xFF, 0xFE, 0xFF, 0xFE, 0] = some { lo := 65534, hi := 65534, view := .committed } ∧
    readBulkRead [0xFF, 0xFF, 0xFF, 0xFF, 0] = some { lo := 65535, hi := 65535, view := .committed } ∧
    sealedReady.Reaches .B 1 kBulkRead ∧ (inFlight .first 4 (.closeMark 1 0) []).Reaches .A 1 kBulkRead := by decide +kernel

/-- Counts 0, 1, 256 and 257, depths 0, 7 and 8. -/
theorem witness_BulkWriteOpensAFrame :
    owned.Reaches .A 1 kBulkWrite ∧ owned.catalog.state = .sealed ∧ owned.portA.bulk = .idle ∧ owned.commit = none ∧
    be16 0 0 = 0 ∧ be16 0 1 = 1 ∧ be16 1 0 = 256 ∧ be16 1 1 = 257 ∧
    sealedReady.Reaches .A 1 kBulkWrite ∧ sealedReady.stack.frames = [] ∧
    (owning .A (List.replicate 7 bare)).stack.frames.length = 7 ∧ (owning .A (List.replicate 8 bare)).stack.frames.length = 8 ∧
    (owning .B [frame1]).stack.owner = some (otherPort .A) := by decide +kernel

theorem witness_BulkAbortEndsTheTransfer :
    owned.Reaches .A 1 kBulkAbort ∧ building.Reaches .A 1 kBulkAbort ∧ owned.portA.bulk.active = false ∧
    (bulkAt owned (.paused (reading .working [1, 2] 0))).Reaches .A 1 kBulkAbort ∧
    (bulkAt owned (.paused (reading .working [1, 2] 0))).portA.bulk = .paused (reading .working [1, 2] 0) ∧
    (bulkAt owned (.writing (writing 1 2 0 [] none))).Reaches .A 1 kBulkAbort ∧
    (bulkAt owned (.writing (writing 1 2 0 [] none))).stack.frames = [frame1] ∧
    (bulkAt owned (.writing (writing 1 2 0 [] none))).stack.owner = some .A := by decide +kernel

/-- Index 15 and 16, one credit and none. -/
theorem witness_BlockUsesACreditOrIsStray :
    owned.receives .A = true ∧ (readBlock [15, 1, 0]).isSome = true ∧ readBlock [16, 1, 0] = none ∧ readBlock [0, 1] = none ∧
    (bulkAt owned (.writing (writing 1 1 0 [block0] none))).portA.bulk = .writing (writing 1 1 0 [block0] none) ∧
    1 ≤ (writing 1 1 0 [block0] none).creditsOpen ∧ (writing 1 0 0 [block0, block0] none).creditsOpen = 0 := by decide +kernel

theorem witness_HoldPausesAndGoResumes :
    owned.receives .A = true ∧ (bulkAt owned (.reading (reading .working [1] 0))).portA.bulk = .reading (reading .working [1] 0) ∧
    (bulkAt owned (.paused (reading .working [1] 0))).portA.bulk = .paused (reading .working [1] 0) ∧
    owned.portA.bulk = .idle ∧ (bulkAt owned (.closing finished)).portA.bulk = .closing finished := by decide +kernel

/-- A read of 17 items at its first and at its last block, one message queued. -/
def seventeen : List Nat := List.range 17

theorem witness_DataBlockIsPlaced :
    owned.ctl.start = .ready ∧ owned.portA.outbound.length ≤ 1 ∧ owned.portA.notices = [] ∧
    (bulkAt owned (.reading (reading .working seventeen 0))).portA.bulk = .reading (reading .working seventeen 0) ∧
    16 * (reading .working seventeen 0).next < seventeen.length ∧ 16 * ((reading .working seventeen 0).next + 1) < seventeen.length ∧
    16 * (reading .working seventeen 1).next < seventeen.length ∧
    seventeen.length ≤ 16 * ((reading .working seventeen 1).next + 1) := by decide +kernel

theorem witness_CreditAndBulkDoneArePlaced :
    owned.ctl.start = .ready ∧ owned.portA.outbound.length ≤ 1 ∧ owned.portA.nextGrant = .bulk ∧
    (bulkAt owned (.writing (writing 1 1 1 [] none))).portA.bulk = .writing (writing 1 1 1 [] none) ∧
    1 ≤ (writing 1 1 1 [] none).creditsPending ∧ (bulkAt owned (.closing finished)).portA.bulk = .closing finished := by decide +kernel

/-- The first block of two, with its 16 items. -/
def blockOf16 : Block := { index := 0, count := 16, checkPresent := 0, body := (List.replicate 16 [0, 2, 1, 0, 0, 0, 7]).flatten }

/-- A write of 17 items whose first block waits. -/
def writing17 (b : Block) (e : Option FirstError) : WriteCtx := { writing 2 1 0 [b] e with declared := 17 }

/-- An error before it, an index out of order, an inconsistent block, and a block whose items apply. -/
theorem witness_BlockProcessingAppliesItems :
    (bulkAt owned (.writing (writing17 blockOf16 none))).portA.bulk = .writing (writing17 blockOf16 none) ∧
    blockOf16.index ≠ (writing17 blockOf16 none).blocks - 1 ∧ blockOf16.index = (writing17 blockOf16 none).expected ∧
    ((writing17 blockOf16 none).consistent blockOf16).isSome = true ∧ (writing17 block0 none).consistent block0 = none ∧
    ({ block0 with index := 2 } : Block).index ≠ (writing17 block0 none).expected ∧
    (writing17 block0 (some { error := .overrun, block := 0, item := 0 })).firstError ≠ none ∧
    (applyItems .A 0 0 [{ id := 2, value := .number 7 }] owned).2 = (1, none) ∧
    (applyItems .A 0 0 [{ id := 2, value := .number 21 }] owned).2 =
      (0, some { error := .item .outOfRange, block := 0, item := 0 }) ∧
    (valueCheck owned.catalog.entries Entry.working 2 (.number 7)).toOption = some (.num 7) ∧
    (findEntry owned.catalog.entries 2).isSome = true ∧ owned.stack.frames = frame1 :: [] ∧
    (({ writing17 block0 none with declared := 17 } : WriteCtx).consistent
      { block0Checked with index := 1 }).isSome = true := by decide +kernel

/-- The block of a write of one item, its check agreeing, at depth 1 and at depth 2. -/
theorem witness_LastBlockEndsABulkWrite :
    let w := writing 1 1 0 [block0Checked] none
    (bulkAt owned (.writing w)).portA.bulk = .writing w ∧ block0Checked.index = w.blocks - 1 ∧ block0Checked.index = w.expected ∧
    (w.consistent block0Checked).map (fun f => (f.items, f.check)) =
      some ([{ id := 2, value := .number 7 }], some (~~~ (crc32Update w.running block0Checked.itemBytes))) ∧
    (applyItems .A 0 0 [{ id := 2, value := .number 7 }] (bulkAt owned (.writing w))).2 = (1, none) ∧
    (applyItems .A 0 0 [{ id := 2, value := .number 7 }] (bulkAt owned (.writing w))).1.stack.frames.length = 1 ∧
    (applyItems .A 0 0 [{ id := 2, value := .number 7 }] (bulkAt (owning .A [bare, frame1]) (.writing w))).1.stack.frames.length = 2 := by
  decide +kernel

/-- A write whose one block ends it with an error: one before it, an index out of order, an inconsistent block, an item that fails, and
a check that disagrees. -/
theorem witness_LastBlockEndsABulkWrite_error :
    (let w := writing 1 1 0 [block0Checked] (some { error := .overrun, block := 0, item := 0 })
     (bulkAt owned (.writing w)).portA.bulk = .writing w ∧ w.buffer = block0Checked :: [] ∧ block0Checked.index = w.blocks - 1 ∧
     w.firstError = some { error := .overrun, block := 0, item := 0 } ∧
     (bulkAt owned (.writing w)).stack.owner = some .A ∧ (bulkAt owned (.writing w)).stack.frames = frame1 :: [] ∧
     (after (.blockProcessing .A) (bulkAt owned (.writing w))).stack = Stack.reset) ∧
    (let w : WriteCtx := { writing 1 1 0 [block0Checked] none with expected := 1 }
     w.firstError = none ∧ block0Checked.index ≠ w.expected) ∧
    (let w := writing 1 1 0 [block0] none
     w.firstError = none ∧ block0.index = w.expected ∧ w.consistent block0 = none) ∧
    (let b : Block := { block0Checked with body := [0, 2, 1, 0, 0, 0, 21] ++ put32 0 }
     let w := writing 1 1 0 [b] none
     w.firstError = none ∧ b.index = w.expected ∧ (w.consistent b).map (fun f => f.items) = some [{ id := 2, value := .number 21 }] ∧
     (applyItems .A 0 0 [{ id := 2, value := .number 21 }] owned).2 =
       (0, some { error := .item .outOfRange, block := 0, item := 0 })) ∧
    (let b : Block := { block0Checked with body := [0, 2, 1, 0, 0, 0, 7] ++ put32 0 }
     let w := writing 1 1 0 [b] none
     w.firstError = none ∧ b.index = w.expected ∧
     (w.consistent b).map (fun f => (f.items, f.check)) = some ([{ id := 2, value := .number 7 }], some 0) ∧
     some (0 : Word32) ≠ some (~~~ (crc32Update w.running b.itemBytes)) ∧
     (applyItems .A 0 0 [{ id := 2, value := .number 7 }] (bulkAt (owning .A [bare, frame1]) (.writing w))).2 = (1, none)) := by
  decide +kernel

/-- Four ranges and five, none, the bounds 65534 and 65535, a high below its low; SEALING. -/
theorem witness_WatchReplacesTheFilter :
    owned.Reaches .A 1 kWatch ∧ owned.Reaches .B 1 kUnwatch ∧ owned.catalog.state = .sealed ∧
    lastOfImage.Reaches .A 1 kWatch ∧ lastOfImage.catalog.state = .sealing ∧
    (readWatch (4 :: (List.replicate 4 [0, 1, 0, 2]).flatten)).map (fun rs => rs.length) = some 4 ∧
    (readWatch (5 :: (List.replicate 5 [0, 1, 0, 2]).flatten)).map (fun rs => rs.length) = some 5 ∧ readWatch [0] = some [] ∧
    readWatch [1, 0xFF, 0xFE, 0xFF, 0xFE] = some [{ lo := 65534, hi := 65534 }] ∧
    readWatch [1, 0xFF, 0xFF, 0xFF, 0xFF] = some [{ lo := 65535, hi := 65535 }] ∧
    readWatch [1, 0, 2, 0, 1] = some [{ lo := 2, hi := 1 }] := by decide +kernel

/-- `owned` with notices waiting at port A and a lost count. -/
def noticed (n lost : Nat) : State := owned.modPort .A (fun x => { x with notices := List.replicate n .supplyOk, lost := lost })

/-- Nine notices of which one stays, with and without losses; a contested place. -/
theorem witness_NoticeTakesUpToEight :
    (noticed 9 3).ctl.start = .ready ∧ (noticed 9 3).portA.outbound.length ≤ 1 ∧ (noticed 9 3).portA.notices ≠ [] ∧
    (noticed 9 3).portA.bulk.waits = false ∧ (noticed 8 0).portA.notices ≠ [] ∧
    (let s := (noticed 9 3).modPort .A (fun x => { x with bulk := .closing finished, nextGrant := .notice })
     s.portA.bulk.waits = true ∧ s.portA.nextGrant = .notice) := by decide +kernel

/-- A queue of 32 with losses, and one that a warning fills. -/
theorem witness_NoticeQueuesStayBounded :
    (noticed 32 3).portA.NoticesBounded ∧ (noticed 31 0).portA.NoticesBounded ∧ (noticed 32 3).portB.NoticesBounded ∧
    step { noticed 32 3 with pending := [.warnCrossing] } = .next (after .warnCrossing (noticed 32 3)) :=
  ⟨by decide +kernel, by decide +kernel, by decide +kernel, rfl⟩

/-- The owner without a transfer, with a WORKING read and with a write; the other port, and a stopped timer. -/
theorem witness_LeaseExpiryAbandonsTheStack :
    owned.stack.owner = some .A ∧ owned.portA.lease = .running 20 ∧ owned.portA.bulk.locks = false ∧
    owned.stack.owner ≠ some .B ∧ closing.portA.lease = .stopped ∧
    (bulkAt owned (.reading (reading .working [1] 0))).portA.bulk.locks = true ∧
    (bulkAt owned (.writing (writing 1 2 0 [] none))).portA.bulk.locks = true := by decide +kernel

/-- A pending append that waits while a sector is erased. -/
def waiting : State :=
  let s := inFlight .first 4 (.closeMark 1 0) []
  { s with store := { s.store with operation := .erasing, arrayOp := .erase 5, writing := none } }

theorem witness_WarningCancelsThePendingAppend :
    (waiting.ctl.start = .ready ∧ waiting.ctl.supply = .normal ∧ waiting.store.operation = .erasing ∧
      waiting.store.pend = some (pendingGroup .first) ∧ waiting.commit = some flight ∧ flight.suppressed = false ∧
      ∃ o ∈ waiting.portA.outstanding, o.seq = flight.seq) ∧
    (owned.store.operation = .idle ∧ owned.store.pend = none) ∧
    (scanning.ctl.start ≠ .ready ∧ scanning.ctl.start ≠ .held ∧ scanning.ctl.supply = .normal) := by decide +kernel

/-- A compaction image at a warning, a commit waiting behind it. -/
theorem witness_WarningCancelsThePendingAppend_compacting :
    let s := imageFailing .first (sectorsOf 6 .free) (some (pendingGroup .first))
    s.ctl.start = .ready ∧ s.ctl.supply = .normal ∧ s.store.operation = .compacting ∧ s.store.writing.isSome = true ∧
    s.catalog.state = .sealed ∧ s.store.pend = some (pendingGroup .first) ∧ s.commit = some flight ∧ flight.suppressed = false ∧
    (∃ o ∈ s.portA.outstanding, o.seq = flight.seq) ∧ (after .warnCrossing s).commit = none ∧
    (after .warnCrossing s).store.compaction = .none := by decide +kernel

/-- A supply state put in force. -/
def supplied (s : State) (v : Supply) : State := { s with ctl := { s.ctl with supply := v } }

/-- The initial image of SEAL in sector 4, its open mark being programmed. -/
def imageOfSeal : State :=
  let g : GroupWrite :=
    { kind := .image, attempt := .first, remaining := [.openMark .image 0, .closeMark 2 0]
      begun := some { sector := 4, generation := some 1, shared := false }, sectors := [4] }
  { lastOfImage with store := { lastOfImage.store with arrayOp := .slot 4 (.openMark .image 0), writing := some g } }

/-- A failure of the image of SEAL: begun again in sector 5, with no FREE sector left, and at the second attempt. -/
theorem witness_FailedAppendLeavesTheFrame_seal :
    let full := { imageOfSeal with store := { imageOfSeal.store with table := [sectorOf 4 .filling 2] } }
    let second :=
      { imageOfSeal with
        store := { imageOfSeal.store with writing := imageOfSeal.store.writing.map (fun g => { g with attempt := .second }) } }
    (∀ s ∈ [imageOfSeal, full, second], s.store.arrayOp = .slot 4 (.openMark .image 0) ∧ s.store.writing.isSome = true ∧
      s.store.operation = .catalogWrite ∧ s.catalog.request = some 9 ∧ ∃ o ∈ s.portA.outstanding, o.seq = 9) ∧
    (after (.slotProgramDone false true) imageOfSeal).store.arrayOp = .header 5 1 true ∧
    (after (.slotProgramDone false true) full).catalog.state = .building ∧
    (after (.slotProgramDone false true) second).catalog.state = .building := by decide +kernel

/-- SEALED and IDLE with these sectors, R being 1, the supply in WARN. -/
def idleInWarn (table : List SectorRec) : State :=
  supplied { sealedReady with store := { sealedReady.store with table := table } } .warn

/-- An append, a requested compaction beside it, and an erase of SEAL at a warning. -/
theorem witness_SupplyCrossingsMoveTheState :
    (closing.ctl.start = .ready ∧ closing.ctl.supply = .normal ∧ closing.store.operation = .appending) ∧
    (after .warnCrossing { closing with store := { closing.store with compaction := .requested .first } }).store.compaction = .none ∧
    ((areaErase .catalogWrite 0).ctl.start = .ready ∧ (areaErase .catalogWrite 0).ctl.supply = .normal ∧
      (areaErase .catalogWrite 0).store.pend = none ∧ (areaErase .catalogWrite 0).store.writing = none) ∧
    ((supplied closing .warn).ctl.supply = .warn ∧ (supplied waiting .warn).store.operation = .erasing ∧
      (supplied waiting .warn).catalog.state = .sealed ∧ (supplied waiting .warn).store.mode = .writable ∧
      (supplied waiting .warn).store.compaction = .none) ∧
    ((supplied scanning .warn).ctl.start ≠ .ready ∧ (supplied scanning .warn).ctl.start ≠ .held ∧
      (supplied scanning .warn).ctl.supply = .warn) := by decide +kernel

/-- A compaction image that began in sector 5 behind earlier groups. -/
def imageShared : State :=
  { imageClosing with
    store :=
      { imageClosing.store with
        writing := imageClosing.store.writing.map (fun g =>
          { g with begun := some { sector := 5, generation := some 2, shared := true } }) } }

/-- The shared sector stays, as FULL, and one of the image alone becomes STALE. -/
theorem witness_SupplyCrossingsMoveTheState_shared :
    imageShared.store.writing.map (fun g => (g.sectors, g.begun.any (fun b => decide (b.sector = 5) && b.shared))) =
      some ([5], true) ∧
    imageShared.store.arrayOp = .slot 5 (.closeMark 2 0) ∧ imageShared.store.operation = .compacting ∧
    imageShared.store.pend = none ∧ imageShared.catalog.state = .sealed ∧
    (after .warnCrossing imageShared).store.table.map (fun x => x.role) = [.full, .full, .full] ∧
    (after .warnCrossing imageClosing).store.table.map (fun x => x.role) = [.stale, .full, .full] := by decide +kernel

/-- A warning during a compaction image in a sector of its own, and during the image of SEAL. -/
theorem witness_SupplyCrossingsMoveTheState_image :
    (∀ s ∈ [imageClosing, imageOfSeal], s.ctl.start = .ready ∧ s.ctl.supply = .normal ∧ s.store.writing.isSome = true ∧
      s.store.pend = none) ∧
    imageClosing.store.arrayOp = .slot 5 (.closeMark 2 0) ∧ imageClosing.store.writing.map (fun g => g.sectors) = some [5] ∧
    imageClosing.store.operation = .compacting ∧ imageClosing.catalog.state = .sealed ∧
    imageOfSeal.store.arrayOp = .slot 4 (.openMark .image 0) ∧ imageOfSeal.store.writing.map (fun g => g.sectors) = some [4] ∧
    imageOfSeal.store.operation = .catalogWrite ∧ (after .warnCrossing imageOfSeal).store.tasks = [.image .first] := by
  decide +kernel

/-- The return to NORMAL with 4 FREE sectors and no STALE one, with 4 and one STALE, with 3; and a step of SEAL and WIPE that waits. -/
theorem witness_SupplyCrossingsMoveTheState_return :
    (∀ t ∈ [[5, 6, 7, 8].map (fun k => sectorOf k .free 1), sectorOf 9 .stale 256 :: [5, 6, 7, 8].map (fun k => sectorOf k .free 1),
        [5, 6, 7].map (fun k => sectorOf k .free 1)],
      let s := idleInWarn t
      s.ctl.start = .ready ∧ s.ctl.supply = .warn ∧ s.store.operation = .idle ∧ s.catalog.state = .sealed ∧ s.store.pend = none ∧
      s.store.compaction = .none ∧ s.store.mode = .writable ∧ (∀ x ∈ s.store.table, x.role ≠ .filling) ∧
      (imageGroup s.catalog.entries s.store.durable).length ≤
        255 * (s.store.table.filter (fun x => decide (x.role = .free))).length) ∧
    (∀ op ∈ [Operation.catalogWrite, .wipeErase],
      (supplied (areaErase op 0) .warn).store.operation = op ∧ (supplied (areaErase op 0) .warn).store.tasks = .erase 1 :: [] ∧
      (supplied (areaErase op 0) .warn).store.arrayOp = .erase 0 ∧
      (let s := after (.sectorEraseDone .clean true) (supplied (areaErase op 0) .warn)
       s.ctl.start = .ready ∧ s.ctl.supply = .warn ∧ s.store.tasks = .erase 1 :: [] ∧ s.store.arrayOp = .none ∧
       s.store.writing = none)) := by decide +kernel

/-- The part in SCANNING over a catalog area that holds one definition. -/
def sealedArea : State :=
  { scanning with
    nv :=
      { NonVol.blank with
        area :=
          [{ sector := 0, place := .val 0
             content := areaContent .defaults 1 [number 2 20 0 5 false] Shape.areaSlots }] ++ [1, 2, 3].map AreaSector.blank } }

/-- The release level and both sides of the NORMAL level; a VALID area and a blank one. -/
theorem witness_HeldExitAndScanFindTheCatalog :
    State.reset.ctl.start = .held ∧ 2700 ≤ 2700 ∧ ¬ 2950 < 2950 ∧ 2950 < 2951 ∧ sealedArea.ctl.start = .scanning ∧
    sealedArea.nv.readArea = some { setup := .defaults, base := 1, definitions := [number 2 20 0 5 false] } ∧
    scanning.ctl.start = .scanning ∧ scanning.nv.readArea = none := by decide +kernel

/-- What SEAL programs into the catalog area for one definition, from the header of sector 0 on. -/
def areaRun : State :=
  let ds := [number 2 20 0 5 false]
  let slots := areaContent .defaults 3 ds Shape.areaSlots
  areaWrite (.areaHeader 0) ([.areaHeader 1, .areaHeader 2, .areaHeader 3] ++ slots.zipIdx.map (fun d => .areaSlot (d.2 / 255) d.1) ++
    [.image .first])

/-- The eight programs of that run, and the area they leave. -/
theorem witness_HeldExitAndScanFindTheCatalog_written :
    areaRun.nv.area.map (fun z => (z.sector, z.content)) = [(0, []), (1, []), (2, []), (3, [])] ∧
    areaRun.store.arrayOp = .areaHeader 0 ∧ (areaContent .defaults 3 [number 2 20 0 5 false] Shape.areaSlots).length = 4 ∧
    (match execAll (List.replicate 8 (.slotProgramDone true true)) areaRun with
      | .next t => t.nv.readArea
      | .fault _ => none
      | .refused _ => none) = some { setup := .defaults, base := 3, definitions := [number 2 20 0 5 false] } := by decide +kernel

/-- The part in REPLAYING. -/
def replaying (s : State) : State := { s with ctl := { s.ctl with start := .replaying } }

theorem witness_ReplayRestoresCommittedValues :
    (replaying sealedReady).ctl.start = .replaying ∧ (replaying sealedReady).catalog.state = .sealed ∧
    (replaying sealedReady).IdsAscending ∧
    newestImage (atDefaults (replaying sealedReady).catalog.entries) (replaying sealedReady).nv.stream = none ∧
    (replaying ready).catalog.state ≠ .sealed := by decide +kernel

/-- The image of the two entries at number 7, and the commit of the first at number 8. -/
def image7 : List Change := [{ id := 1, value := .num 1, version := 0 }, { id := 2, value := .num 5, version := 3 }]
def commit8 : List Change := [{ id := 1, value := .num 3, version := 1 }]

/-- REPLAYING over ring sector 4 that holds this content, generation 1. -/
def replayingOver (content : List Slot) : State :=
  let s := replaying sealedReady
  { s with
    nv :=
      { s.nv with
        ring := [{ sector := 4, eraseCount := .val 1, generation := .val 1, restart := false, content := content }] } }

/-- A commit before the image and one after it; nothing behind, the first slot of a third group, and all its slots but the last. -/
theorem witness_ReplayRestoresCommittedValues_image :
    let tails := [[], (groupSlots .commit 9 commit8).take 1, (groupSlots .commit 9 commit8).take 2]
    (groupSlots .commit 9 commit8).length = 3 ∧
    image7.map (fun c => c.id) =
      (sealedReady.catalog.entries.filter (fun e => e.defn.persistent)).map (fun e => e.defn.id) ∧
    (∀ c ∈ image7 ++ commit8, ∃ e ∈ sealedReady.catalog.entries, e.defn.id = c.id ∧ e.defn.persistent = true ∧
      kindTest e.defn.shape c.value = none ∧ (e.defn.constant = true → c.value = e.defn.default)) ∧
    (commit8.map (fun c => c.id)).Pairwise (· < ·) ∧
    ∀ tail ∈ tails,
      let s := replayingOver (groupSlots .commit 7 commit8 ++ groupSlots .image 7 image7 ++ groupSlots .commit 8 commit8 ++ tail)
      s.ctl.start = .replaying ∧ s.catalog.state = .sealed ∧ s.IdsAscending ∧ s.nv.stream.length = 1 ∧
      (after .replayEnd s).store.durable = 8 ∧
      (after .replayEnd s).catalog.entries.map (fun e => e.live.map (fun l => (l.committed, l.version))) =
        [some (.num 3, 1), some (.num 5, 3)] := by decide +kernel

/-- The commits of numbers 8 and 9, between them an unclosed group. -/
def commit9 : List Change := [{ id := 2, value := .num 6, version := 4 }]

/-- A sector of the stream. -/
def streamOf (k gen : Nat) (flag : Bool) (slots : List Slot) : StreamSector :=
  { sector := k, generation := gen, flag := flag, slots := slots }

/-- The image over the end of sector 4 into sector 5, commit 8, a group cut short, and a sector 6 that reading does not reach. -/
def stretch1 : Stretch :=
  { first := streamOf 4 1 false (List.replicate 252 .damaged ++ (groupSlots .image 7 image7).take 3)
    others := [streamOf 5 2 false ((groupSlots .image 7 image7).drop 3 ++ groupSlots .commit 8 commit8 ++ [.openMark .commit 9])]
    unread := [streamOf 6 3 false [.damaged]]
    before := List.replicate 252 .damaged ++ groupSlots .image 7 image7
    commits := [commit8], tail := [.openMark .commit 9] }

/-- Sector 7 with the restart flag: commit 9, then a group that repeats its number, or nothing. -/
def stretch2 (tail : List Slot) : Stretch :=
  { first := streamOf 7 4 true (groupSlots .commit 9 commit9 ++ tail), others := [], unread := [], before := []
    commits := [commit9], tail := tail }

/-- REPLAYING over these sectors. -/
def replayingStream (xs : List StreamSector) : State :=
  let s := replaying sealedReady
  { s with
    nv :=
      { s.nv with
        ring := xs.map (fun x =>
          { sector := x.sector, eraseCount := .val 1, generation := .val x.generation, restart := x.flag, content := x.slots }) } }

/-- A repeated group is a fault, and so is a slot that is no open mark. -/
theorem faulty_tails (tail : List Slot) (h : tail = groupSlots .commit 9 commit9 ∨ tail = [.closeMark 1 0]) :
    FaultyGroup sealedReady.catalog.entries 10 tail := by
  rcases h with rfl | rfl
  · exact ⟨by simp [groupSlots, commit9, Change.slots], .inl ⟨9, commit9, [], by simp, by simp⟩⟩
  · exact ⟨by simp, .inr (.inr ⟨_, _, rfl, by simp, by simp⟩)⟩

theorem stretches_follow (tail : List Slot) (h : tail = [] ∨ tail = groupSlots .commit 9 commit9 ∨ tail = [.closeMark 1 0]) :
    StretchesFollow sealedReady.catalog.entries 7 [stretch1, stretch2 tail] := by
  have n8 : 7 + stretch1.commits.length = 8 := rfl
  refine ⟨⟨by decide +kernel, by decide +kernel, by decide +kernel, by decide +kernel, .inr (.inl ⟨.commit, 9, [], rfl, by simp⟩), ?_⟩,
    fun y hy => ?_, ⟨by simp [n8, stretch2, Stretch.run, streamOf, commitGroups], by simp [stretch2, Stretch.run], by simp [stretch2],
      by simp only [stretch2]; decide +kernel, h.imp_right (fun h => .inr (faulty_tails tail h)), fun hn => absurd rfl hn⟩, ?_, trivial⟩
  · intro _
    refine ⟨by decide, by decide +kernel, ?_⟩
    show ∀ x ∈ [streamOf 6 3 false [.damaged]], _
    simp [streamOf]
  · cases hy; exact ⟨rfl, fun _ => rfl⟩
  · intro y hy; cases hy

/-- The walk passes over the group cut short to the flagged sector; nothing behind commit 9, and two faults. -/
theorem witness_ReplayRestoresCommittedValues_stretches :
    (∀ tail, tail = [] ∨ tail = groupSlots .commit 9 commit9 ∨ tail = [.closeMark 1 0] →
      StretchesFollow (replaying sealedReady).catalog.entries 7 [stretch1, stretch2 tail]) ∧
    ∀ tail ∈ [[], groupSlots .commit 9 commit9, [.closeMark 1 0]],
      let s := replayingStream (stretch1.sectors ++ (stretch2 tail).sectors)
      s.ctl.start = .replaying ∧ s.catalog.state = .sealed ∧ s.IdsAscending ∧
      s.nv.stream = [] ++ [stretch1, stretch2 tail].flatMap (fun y => y.sectors) ∧
      stretch1.before = List.replicate 252 .damaged ++ groupSlots .image 7 image7 ∧ 252 < stretch1.first.slots.length ∧
      (after .replayEnd s).store.durable = 9 ∧
      (after .replayEnd s).ctl.replay.map (fun r => (r.outcome, r.imageGeneration)) =
        some (if tail = [] then .clean else .truncated, some 1) ∧
      (after .replayEnd s).catalog.entries.map (fun e => e.live.map (fun l => (l.committed, l.version))) =
        [some (.num 3, 1), some (.num 6, 4)] :=
  ⟨stretches_follow, by decide +kernel⟩

/-- The skip passes over sector 6; where no commit follows in sector 7, the end point stays in sector 5. -/
theorem witness_ReplayRestoresCommittedValues_skipped :
    let found := fun (xs : List StreamSector) =>
      (after .replayEnd (replayingStream (stretch1.sectors ++ xs))).ctl.replay.map (fun r => (r.skipped, r.later, r.endSector, r.tail))
    (stretch1.reached, stretch1.behind.map (fun x => x.sector)) = (2, [6]) ∧
    found (stretch2 []).sectors = some ([6], [], some 7, false) ∧
    found (stretch2 [.closeMark 1 0]).sectors = some ([6], [], some 7, true) ∧
    found [streamOf 7 4 true [.closeMark 1 0]] = some ([6], [6, 7], some 5, true) := by decide +kernel

/-- The part in CLEANUP with the places for START kept, an answer behind port B's. -/
def cleaning (s : State) : State :=
  { s with
    ctl := { s.ctl with start := .cleanup, replay := some .nothing }
    portA := { s.portA with outbound := [{ seq := 0, body := .kept }] }
    portB := { s.portB with outbound := [{ seq := 0, body := .kept }, { seq := 1, body := .refuse kGet .starting 0 }] } }

theorem witness_CleanupEndPlacesStart :
    (cleaning sealedReady).ctl.start = .cleanup ∧ (cleaning sealedReady).ctl.replay = some .nothing ∧
    (cleaning sealedReady).store.pend = none ∧ (cleaning sealedReady).portA.outbound = { seq := 0, body := .kept } :: [] ∧
    (cleaning sealedReady).portB.outbound = { seq := 0, body := .kept } :: [{ seq := 1, body := .refuse kGet .starting 0 }] ∧
    (∀ m ∈ ([] : List OutMsg) ++ [{ seq := 1, body := .refuse kGet .starting 0 }], m.body ≠ .kept) ∧
    (cleaning sealedReady).catalog.state = .sealed ∧ (cleaning ready).catalog.state ≠ .sealed ∧
    (cleaning sealedReady).store.operation = .idle ∧ (cleaning sealedReady).store.arrayOp = .none := by decide +kernel

/-- A replay that ended in sector 4, and a ring of seven: the sector of the image, an older one, a half-opened, a half-erased, a
retired, a FREE one and one of the catalog's generations without content. -/
def cleaningRing : State :=
  let s := cleaning sealedReady
  let z := fun (k : Nat) (g : Field) (content : List Slot) =>
    ({ sector := k, eraseCount := .val 1, generation := g, restart := false, content := content } : RingSector)
  { s with
    ctl :=
      { s.ctl with
        replay := some
          { outcome := .tornTail, groups := 2, imageGeneration := some 5, endSector := some 4, later := [], skipped := [], tail := true } }
    nv :=
      { s.nv with
        ring :=
          [z 4 (.val 5) [.openMark .image 7], z 5 (.val 4) [.damaged], z 6 .torn [], { z 7 .blank [] with eraseCount := .torn },
            { z 8 (.val 9) [] with eraseCount := .val 100000 }, z 9 .blank [], z 10 (.val 6) []] } }

/-- The roles of R117 by Table 6.3, one retired sector, still WRITABLE, compaction wanted; sector 8 has the highest generation (R87). -/
theorem witness_CleanupEndPlacesStart_roles :
    cleaningRing.ctl.start = .cleanup ∧ cleaningRing.store.pend = none ∧ cleaningRing.store.operation = .idle ∧
    cleaningRing.store.arrayOp = .none ∧ cleaningRing.ctl.replay.map (fun r => r.tail) = some true ∧
    (let t := after .cleanupEnd { cleaningRing with ctl := { cleaningRing.ctl with supply := .warn } }
     t.store.table.map (fun x => x.role) = [.full, .stale, .stale, .stale, .retired, .free, .stale] ∧
     t.store.openedLast = some 8 ∧ t.store.restartNote = true ∧ t.store.mode = .writable ∧
     t.store.compaction = .requested .first) := by decide +kernel

/-- A replay without an image: the image is owed, and begun at once. -/
theorem witness_CleanupEndPlacesStart_noImage :
    let s := { cleaningRing with
      ctl := { cleaningRing.ctl with replay := some { ReplayResult.nothing with outcome := .noImage, tail := true } } }
    s.ctl.start = .cleanup ∧ s.catalog.state = .sealed ∧ s.store.pend = none ∧
    (after .cleanupEnd s).store.imageOwed = true ∧ (after .cleanupEnd cleaningRing).store.imageOwed = false ∧
    (after .cleanupEnd s).store.durable = 0 := by decide +kernel

/-- A message of 10 bytes at its first and its last byte. -/
theorem witness_SentMessageLeavesTheQueue_bytes :
    ∀ n ∈ [0, 9],
      let s := (filled 1 0).modPort .A (fun x => { x with outPos := n })
      s.ctl.start = .ready ∧ s.portA.outbound = { seq := 0, body := .reply kUnwatch (.unwatch 0) } :: [] ∧
      (OutMsg.wire { seq := 0, body := .reply kUnwatch (.unwatch 0) }).length = 10 ∧
      ((OutMsg.wire { seq := 0, body := .reply kUnwatch (.unwatch 0) })[n]?).isSome = true ∧
      ready.nextByte .A = none ∧ (s.sendByte .A).pending = if n = 9 then [.messageSentA] else [] := by decide +kernel

theorem witness_SentMessageLeavesTheQueue :
    (filled 1 0).ctl.start = .ready ∧ (filled 1 0).portA.outbound = { seq := 0, body := .reply kUnwatch (.unwatch 0) } :: [] ∧
    ({ filled 1 0 with portB := (filled 1 0).portA } : State).portB.outbound ≠ [] ∧ scanning.ctl.start ≠ .ready := by decide +kernel

/-- A queue and window at their bound, and a message that leaves. -/
theorem witness_LinkQueuesStayBounded :
    (filled 2 2).portA.LinkBounded ∧ (filled 4 0).portA.LinkBounded ∧ (filled 2 2).portB.LinkBounded ∧
    step { filled 2 2 with pending := [.messageSentA] } = .next (after .messageSentA (filled 2 2)) :=
  ⟨by decide +kernel, by decide +kernel, by decide +kernel, rfl⟩

end Sys2Proof.Tests
end

section
/-! SUPPORT. The requests of the Catalog: DEFINE and its consistency conditions, SETUP and WIPE (R10 to R14, R21, R104). -/

namespace Sys2Proof.Machine

-- one proof after another, as in the tests: side by side they ask for more threads than the memory limit allows
set_option Elab.async false

open Sys2Proof

/-! ### What the catalog's requests share -/

/-- The catalog states in which definitions and setup records are refused (R10, R14). -/
theorem CatState.takesDefinitions_eq_false_iff (c : CatState) : c.takesDefinitions = false ↔ c ≠ .empty ∧ c ≠ .building := by
  cases c <;> simp [CatState.takesDefinitions]

/-- A REPLY to a request admitted in the same event, in a state that differs in its catalog alone (R169, R171). -/
theorem State.reply_admitted_withCatalog {s : State} {p : Port} {q kind : Byte} (c : Catalog) (r : Reply)
    (h : ∀ o ∈ (s.port p).outstanding, o.seq ≠ q) :
    ({ s.admitted p q kind with catalog := c } : State).reply p q kind r =
      { s.answered p q kind (.reply kind r) true with catalog := c } := by
  have hp : ({ s.admitted p q kind with catalog := c } : State).port p = (s.port p).admitted (s.leasePeriod p) q kind := by
    cases p <;> rfl
  rw [State.reply_of_port r hp h]
  cases p <;> rfl

/-! ### SETUP (R14) -/

theorem exec_setup_reaches {p : Port} {q a b m k : Byte} {s : State} (h : s.Reaches p q kSetup) :
    exec (.setup p q [a, b, m, k]) s = .next ((s.admitted p q kSetup).ownSetup p q
      { leaseA := a.toNat, leaseB := b.toNat, modeCode := m.toNat, rateCode := k.toNat }) :=
  congrArg Host.Outcome.next (State.request_reaches (fun r s => s.ownSetup p q r) h rfl)

theorem modeOfCode_eq_none_iff (n : Nat) : modeOfCode n = none ↔ 2 < n := by
  unfold modeOfCode
  split_ifs <;> simp <;> omega

theorem code_of_modeOfCode {n : Nat} {mode : PortBMode} (h : modeOfCode n = some mode) : mode.code = n := by
  unfold modeOfCode at h
  repeat' split at h
  all_goals cases h
  all_goals exact Eq.symm ‹_›

theorem rateOfCode_eq_none_iff (n : Nat) : rateOfCode n = none ↔ 5 < n := by
  unfold rateOfCode
  split_ifs <;> simp <;> omega

theorem code_of_rateOfCode {n : Nat} {rate : Rate} (h : rateOfCode n = some rate) : rate.code = n := by
  unfold rateOfCode at h
  repeat' split at h
  all_goals cases h
  all_goals exact Eq.symm ‹_›

/-- A SETUP carries no record where a code names no mode or no rate (R14). -/
theorem SetupReq.record_eq_none_iff (r : SetupReq) : r.record = none ↔ 2 < r.modeCode ∨ 5 < r.rateCode := by
  rw [← modeOfCode_eq_none_iff, ← rateOfCode_eq_none_iff]
  unfold SetupReq.record
  cases modeOfCode r.modeCode <;> cases rateOfCode r.rateCode <;> simp

/-- A record that a SETUP carries has its periods, and the mode and the rate that its codes name (R14). -/
theorem SetupReq.record_eq_some {r : SetupReq} {u : Setup} (h : r.record = some u) :
    u.leaseA = r.leaseA ∧ u.leaseB = r.leaseB ∧ u.mode.code = r.modeCode ∧ u.rate.code = r.rateCode := by
  unfold SetupReq.record at h
  split at h
  · rename_i hm hk
    cases h
    exact ⟨rfl, rfl, code_of_modeOfCode hm, code_of_rateOfCode hk⟩
  · cases h

/-- Settles O16: R14 in its order, wrong state, bad code, the record replaced. -/
theorem setupReplacesTheRecord : Obligations.SetupReplacesTheRecord := by
  intro p q a b m k s h
  rw [exec_setup_reaches h, State.ownSetup, State.admitted_catalog]
  split
  · rename_i hstate
    rw [(CatState.takesDefinitions_eq_false_iff _).mpr hstate, if_neg Bool.false_ne_true, State.refuse_admitted _ _ h.fresh]
  · rename_i hstate
    rw [← CatState.takesDefinitions_eq_false_iff, Bool.not_eq_false] at hstate
    rw [if_pos hstate]
    split
    · rename_i hcode
      rw [(SetupReq.record_eq_none_iff _).mpr hcode]
      exact congrArg Host.Outcome.next (State.refuse_admitted _ _ h.fresh)
    · rename_i hcode
      cases hu : SetupReq.record ⟨a.toNat, b.toNat, m.toNat, k.toNat⟩ with
      | none => exact absurd ((SetupReq.record_eq_none_iff _).mp hu) hcode
      | some u =>
        obtain ⟨hA, hB, hm, hk⟩ := SetupReq.record_eq_some hu
        refine ⟨u.mode, u.rate, hm, hk, ?_⟩
        dsimp only at hA hB ⊢
        rw [State.reply_admitted_withCatalog _ _ h.fresh, ← hA, ← hB]

/-! ### DEFINE (R10 to R12) -/

theorem exec_define_reaches {p : Port} {q : Byte} {b : List Byte} {r : DefineReq} {s : State} (h : s.Reaches p q kDefine)
    (hr : readDefine b = some r) : exec (.define p q b) s = .next ((s.admitted p q kDefine).ownDefine p q r) :=
  congrArg Host.Outcome.next (State.request_reaches (fun r s => s.ownDefine p q r) h hr)

theorem findEntry_eq_none_iff (es : List Entry) (id : Nat) : findEntry es id = none ↔ ∀ e ∈ es, e.defn.id ≠ id := by
  simp [findEntry]

/-- A new id adds one entry (R1, R12). -/
theorem length_insertEntry {e : Entry} {es : List Entry} (h : ∀ x ∈ es, x.defn.id ≠ e.defn.id) :
    (insertEntry e es).length = es.length + 1 := by
  induction es with
  | nil => rfl
  | cons x xs ih =>
    obtain ⟨hx, hxs⟩ := List.forall_mem_cons.mp h
    unfold insertEntry
    split
    · rfl
    · rw [if_neg (Ne.symm hx), List.length_cons, List.length_cons, ih hxs]

/-! The own checks of DEFINE, one equation per outcome (R10). -/

section
variable {s : State} {r : DefineReq}

theorem State.defineCheck_wrongState (hstate : s.catalog.state.takesDefinitions = false) :
    s.defineCheck r = .error (.wrongState, 0) := by
  simp [State.defineCheck, firstFail, hstate]

theorem State.defineCheck_catalogFull (hstate : s.catalog.state.takesDefinitions = true) (hfull : 256 ≤ s.catalog.entries.length) :
    s.defineCheck r = .error (.catalogFull, 0) := by
  simp [State.defineCheck, firstFail, hstate, Config.maxEntries, Nat.not_lt.mpr hfull]

theorem State.defineCheck_duplicateId (hstate : s.catalog.state.takesDefinitions = true) (hroom : s.catalog.entries.length < 256)
    (hid : findEntry s.catalog.entries r.id ≠ none) : s.defineCheck r = .error (.duplicateId, 0) := by
  simp [State.defineCheck, firstFail, hstate, Config.maxEntries, hroom, hid]

theorem State.defineCheck_new (hstate : s.catalog.state.takesDefinitions = true) (hroom : s.catalog.entries.length < 256)
    (hid : findEntry s.catalog.entries r.id = none) :
    s.defineCheck r = r.definition.elim (.error (.badDefinition, r.id)) .ok := by
  simp only [State.defineCheck, firstFail, hstate, Config.maxEntries, hroom, hid]
  cases r.definition <;> rfl

end

theorem State.defineCheck_admitted (s : State) (p : Port) (q k : Byte) (r : DefineReq) :
    (s.admitted p q k).defineCheck r = s.defineCheck r := by
  simp only [State.defineCheck, State.admitted_catalog]

section
variable {p : Port} {q : Byte} {b : List Byte} {r : DefineReq} {s : State}

theorem exec_define_refused {c : RefuseCode} {id : Nat} (h : s.Reaches p q kDefine) (hr : readDefine b = some r)
    (hcheck : s.defineCheck r = .error (c, id)) : exec (.define p q b) s = .next (s.refused p q kDefine c id) := by
  rw [exec_define_reaches h hr, State.ownDefine, State.defineCheck_admitted, hcheck]
  exact congrArg Host.Outcome.next (State.refuse_admitted c id h.fresh)

theorem exec_define_accepted {d : Definition} (h : s.Reaches p q kDefine) (hr : readDefine b = some r)
    (hcheck : s.defineCheck r = .ok d) : exec (.define p q b) s = .next
      { s.answered p q kDefine
          (.reply kDefine (.define (insertEntry { defn := d, live := none } s.catalog.entries).length)) true with
        catalog := { s.catalog with
          state := .building, entries := insertEntry { defn := d, live := none } s.catalog.entries } } := by
  rw [exec_define_reaches h hr, State.ownDefine, State.defineCheck_admitted, hcheck]
  dsimp only [State.addDefinition]
  rw [State.reply_admitted_withCatalog _ _ h.fresh, State.admitted_catalog]

end

/-! The conditions of R11, kind by kind. -/

/-- A DEFINE offers this shape with this default: its kind, width, bounds, choices and default are consistent (R11). -/
def DefineReq.Offers (r : DefineReq) (sh : Shape) (v : Value) : Prop :=
  r.shape = some sh ∧ valueOfForm sh r.default = some v ∧ kindTest sh v = none

theorem numericWidth_iff (w : Nat) : numericWidth w = true ↔ w = 1 ∨ w = 2 ∨ w = 4 := by
  simp [numericWidth, or_assoc]

theorem inDomain_unsigned_iff (w n : Nat) : inDomain false w n = true ↔ n < 2 ^ (8 * w) := by
  have hpos : 0 < 2 ^ (8 * w) := Nat.two_pow_pos _
  simp only [inDomain, domainLow, domainHigh, Bool.and_eq_true, decide_eq_true_eq, Bool.false_eq_true, if_false]
  omega

theorem inDomain_signed_iff (w : Nat) (n : Int) :
    inDomain true w n = true ↔ -(2 ^ (8 * w - 1) : Int) ≤ n ∧ n < (2 ^ (8 * w - 1) : Int) := by
  simp only [inDomain, domainLow, domainHigh, Bool.and_eq_true, decide_eq_true_eq, if_true, Nat.cast_pow, Nat.cast_ofNat]
  omega

/-- What lies between two numbers of a width domain lies in it. -/
theorem inDomain_of_between {signed : Bool} {w : Nat} {lo n hi : Int} (hlo : inDomain signed w lo = true)
    (hhi : inDomain signed w hi = true) (h : lo ≤ n ∧ n ≤ hi) : inDomain signed w n = true := by
  simp only [inDomain, Bool.and_eq_true, decide_eq_true_eq] at *
  omega

/-- Within bounds of the domain, the test of a numeric kind asks for the bounds alone (R7). -/
theorem kindTest_unsigned_iff {w : Nat} {lo hi : Int} (hlo : inDomain false w lo = true) (hhi : inDomain false w hi = true)
    (n : Int) : kindTest (.unsigned w lo hi) (.num n) = none ↔ lo ≤ n ∧ n ≤ hi := by
  simpa [kindTest] using inDomain_of_between hlo hhi

theorem kindTest_signed_iff {w : Nat} {lo hi : Int} (hlo : inDomain true w lo = true) (hhi : inDomain true w hi = true)
    (n : Int) : kindTest (.signed w lo hi) (.num n) = none ↔ lo ≤ n ∧ n ≤ hi := by
  simpa [kindTest] using inDomain_of_between hlo hhi

theorem kindTest_choice_iff (cs : List Int) (n : Int) : kindTest (.choice cs) (.num n) = none ↔ n ∈ cs := by
  simp [kindTest]

theorem kindTest_text_iff (m : Nat) (bs : List Byte) : kindTest (.text m) (.text bs) = none ↔ bs.length ≤ m := by
  simp [kindTest]

/-- A default that passes the test of a kind other than TEXT is a NUMBER, read by that kind (R7, R181). -/
theorem default_number_iff {sh : Shape} (hsh : ∀ m, sh ≠ .text m) (x : WireValue) (v : Value) :
    valueOfForm sh x = some v ∧ kindTest sh v = none ↔
      ∃ raw : Word32, x = .number raw ∧ kindTest sh (.num (readByKind sh raw)) = none ∧ v = .num (readByKind sh raw) := by
  have hform : valueOfForm sh x = some v ↔ ∃ raw : Word32, x = .number raw ∧ v = .num (readByKind sh raw) := by
    cases sh with
    | text m => exact absurd rfl (hsh m)
    | unsigned w lo hi => cases x <;> simp [valueOfForm, eq_comm (a := v)]
    | signed w lo hi => cases x <;> simp [valueOfForm, eq_comm (a := v)]
    | choice cs => cases x <;> simp [valueOfForm, eq_comm (a := v)]
  rw [hform]
  constructor
  · rintro ⟨⟨raw, hx, rfl⟩, htest⟩
    exact ⟨raw, hx, htest, rfl⟩
  · rintro ⟨raw, hx, htest, rfl⟩
    exact ⟨⟨raw, hx, rfl⟩, htest⟩

/-- A default of a TEXT entry is a byte string within its maximum length (R7). -/
theorem default_text_iff (m : Nat) (x : WireValue) (v : Value) :
    valueOfForm (.text m) x = some v ∧ kindTest (.text m) v = none ↔ ∃ bs, x = .text bs ∧ bs.length ≤ m ∧ v = .text bs := by
  have hform : valueOfForm (.text m) x = some v ↔ ∃ bs, x = .text bs ∧ v = .text bs := by
    cases x <;> simp [valueOfForm, eq_comm (a := v)]
  rw [hform]
  constructor
  · rintro ⟨⟨bs, hx, rfl⟩, htest⟩
    exact ⟨bs, hx, (kindTest_text_iff m bs).mp htest, rfl⟩
  · rintro ⟨bs, hx, hlen, rfl⟩
    exact ⟨⟨bs, hx, rfl⟩, (kindTest_text_iff m bs).mpr hlen⟩

/-- An UNSIGNED definition: bounds in order within the width, and a default between them (R11). -/
theorem DefineReq.offers_unsigned_iff {r : DefineReq} (hk : r.kindCode = 1) (sh : Shape) (v : Value) : r.Offers sh v ↔
    (r.width = 1 ∨ r.width = 2 ∨ r.width = 4) ∧ r.lower.toNat ≤ r.upper.toNat ∧ r.upper.toNat < 2 ^ (8 * r.width) ∧
    sh = .unsigned r.width r.lower.toNat r.upper.toNat ∧
    ∃ raw : Word32, r.default = .number raw ∧ r.lower.toNat ≤ raw.toNat ∧ raw.toNat ≤ r.upper.toNat ∧ v = .num raw.toNat := by
  have hshape : r.shape = some sh ↔ (r.width = 1 ∨ r.width = 2 ∨ r.width = 4) ∧ r.lower.toNat ≤ r.upper.toNat ∧
      r.upper.toNat < 2 ^ (8 * r.width) ∧ sh = .unsigned r.width r.lower.toNat r.upper.toNat := by
    simp only [DefineReq.shape, hk, if_true, Bool.and_eq_true, decide_eq_true_eq, inDomain_unsigned_iff, numericWidth_iff,
      Option.ite_none_right_eq_some, Option.some.injEq, Nat.cast_le, eq_comm (b := sh)]
    constructor
    · rintro ⟨⟨⟨⟨hw, -⟩, hhi⟩, hle⟩, hsh⟩
      exact ⟨hw, hle, hhi, hsh⟩
    · rintro ⟨hw, hle, hhi, hsh⟩
      exact ⟨⟨⟨⟨hw, hle.trans_lt hhi⟩, hhi⟩, hle⟩, hsh⟩
  rw [DefineReq.Offers, hshape, and_assoc, and_assoc, and_assoc]
  refine and_congr_right fun _ => and_congr_right fun hle => and_congr_right fun hhi => and_congr_right fun hsh => ?_
  rw [hsh, default_number_iff (by simp)]
  simp only [readByKind, and_assoc, Nat.cast_le,
    kindTest_unsigned_iff ((inDomain_unsigned_iff _ _).mpr (hle.trans_lt hhi)) ((inDomain_unsigned_iff _ _).mpr hhi)]

/-- A SIGNED definition, likewise (R11). -/
theorem DefineReq.offers_signed_iff {r : DefineReq} (hk : r.kindCode = 2) (sh : Shape) (v : Value) : r.Offers sh v ↔
    (r.width = 1 ∨ r.width = 2 ∨ r.width = 4) ∧ -(2 ^ (8 * r.width - 1) : Int) ≤ r.lower.toInt ∧
    r.lower.toInt ≤ r.upper.toInt ∧ r.upper.toInt < (2 ^ (8 * r.width - 1) : Int) ∧
    sh = .signed r.width r.lower.toInt r.upper.toInt ∧
    ∃ raw : Word32, r.default = .number raw ∧ r.lower.toInt ≤ raw.toInt ∧ raw.toInt ≤ r.upper.toInt ∧ v = .num raw.toInt := by
  have hshape : r.shape = some sh ↔ (r.width = 1 ∨ r.width = 2 ∨ r.width = 4) ∧ -(2 ^ (8 * r.width - 1) : Int) ≤ r.lower.toInt ∧
      r.lower.toInt ≤ r.upper.toInt ∧ r.upper.toInt < (2 ^ (8 * r.width - 1) : Int) ∧
      sh = .signed r.width r.lower.toInt r.upper.toInt := by
    simp only [DefineReq.shape, hk, OfNat.ofNat_ne_one, if_false, if_true, Bool.and_eq_true, decide_eq_true_eq,
      inDomain_signed_iff, numericWidth_iff, Option.ite_none_right_eq_some, Option.some.injEq, eq_comm (b := sh)]
    constructor
    · rintro ⟨⟨⟨⟨hw, hlo, -⟩, -, hhi⟩, hle⟩, hsh⟩
      exact ⟨hw, hlo, hle, hhi, hsh⟩
    · rintro ⟨hw, hlo, hle, hhi, hsh⟩
      exact ⟨⟨⟨⟨hw, hlo, hle.trans_lt hhi⟩, hlo.trans hle, hhi⟩, hle⟩, hsh⟩
  rw [DefineReq.Offers, hshape, and_assoc, and_assoc, and_assoc, and_assoc]
  refine and_congr_right fun _ => and_congr_right fun hlo => and_congr_right fun hle => and_congr_right fun hhi =>
    and_congr_right fun hsh => ?_
  rw [hsh, default_number_iff (by simp)]
  simp only [readByKind, and_assoc, kindTest_signed_iff ((inDomain_signed_iff _ _).mpr ⟨hlo, hle.trans_lt hhi⟩)
    ((inDomain_signed_iff _ _).mpr ⟨hlo.trans hle, hhi⟩)]

/-- A CHOICE definition: 2 to 16 different choices, the default among them (R11). -/
theorem DefineReq.offers_choice_iff {r : DefineReq} (hk : r.kindCode = 3) (sh : Shape) (v : Value) : r.Offers sh v ↔
    r.width = 4 ∧ 2 ≤ r.choices.length ∧ r.choices.length ≤ 16 ∧ r.choices.Nodup ∧ sh = .choice r.choices ∧
    ∃ raw : Word32, r.default = .number raw ∧ raw.toInt ∈ r.choices ∧ v = .num raw.toInt := by
  have hshape : r.shape = some sh ↔ (r.width = 4 ∧ 2 ≤ r.choices.length ∧ r.choices.length ≤ 16 ∧ r.choices.Nodup) ∧
      sh = .choice r.choices := by
    simp [DefineReq.shape, hk, Option.ite_none_right_eq_some, eq_comm (b := sh)]
  rw [DefineReq.Offers, hshape]
  simp only [and_assoc]
  refine and_congr_right fun _ => and_congr_right fun _ => and_congr_right fun _ => and_congr_right fun _ =>
    and_congr_right fun hsh => ?_
  rw [hsh, default_number_iff (by simp)]
  simp only [readByKind, kindTest_choice_iff]

/-- A TEXT definition: a maximum length of 1 to 32, and a default within it (R11). -/
theorem DefineReq.offers_text_iff {r : DefineReq} (hk : r.kindCode = 4) (sh : Shape) (v : Value) : r.Offers sh v ↔
    1 ≤ r.width ∧ r.width ≤ 32 ∧ sh = .text r.width ∧ ∃ bs, r.default = .text bs ∧ bs.length ≤ r.width ∧ v = .text bs := by
  have hshape : r.shape = some sh ↔ (1 ≤ r.width ∧ r.width ≤ 32) ∧ sh = .text r.width := by
    simp [DefineReq.shape, hk, Option.ite_none_right_eq_some, eq_comm (b := sh)]
  rw [DefineReq.Offers, hshape, and_assoc, and_assoc]
  refine and_congr_right fun _ => and_congr_right fun _ => and_congr_right fun hsh => ?_
  rw [hsh, default_text_iff]

/-- Only a kind code of 1 to 4 offers a shape. -/
theorem DefineReq.Offers.kindCode {r : DefineReq} {sh : Shape} {v : Value} (h : r.Offers sh v) :
    r.kindCode = 1 ∨ r.kindCode = 2 ∨ r.kindCode = 3 ∨ r.kindCode = 4 := by
  by_contra hk
  obtain ⟨h1, h2, h3, h4⟩ := (by omega : r.kindCode ≠ 1 ∧ r.kindCode ≠ 2 ∧ r.kindCode ≠ 3 ∧ r.kindCode ≠ 4)
  obtain ⟨hshape, -⟩ := h
  simp [DefineReq.shape, h1, h2, h3, h4] at hshape

/-- What a DEFINE offers, by its kind. -/
theorem DefineReq.offers_iff_byKind {r : DefineReq} {sh : Shape} {v : Value} : r.Offers sh v ↔
    (r.kindCode = 1 ∧ r.Offers sh v) ∨ (r.kindCode = 2 ∧ r.Offers sh v) ∨ (r.kindCode = 3 ∧ r.Offers sh v) ∨
    (r.kindCode = 4 ∧ r.Offers sh v) := by
  rw [← or_and_right, ← or_and_right, ← or_and_right]
  exact ⟨fun h => ⟨h.kindCode, h⟩, And.right⟩

/-- The kinds with an upper link are the numeric ones (R4, R11). -/
theorem DefineReq.Offers.numeric_iff {r : DefineReq} {sh : Shape} {v : Value} (h : r.Offers sh v) :
    sh.numeric = true ↔ r.kindCode = 1 ∨ r.kindCode = 2 := by
  rcases h.kindCode with hk | hk | hk | hk
  · obtain ⟨-, -, -, rfl, -⟩ := (DefineReq.offers_unsigned_iff hk _ _).mp h
    simp [Shape.numeric, hk]
  · obtain ⟨-, -, -, -, rfl, -⟩ := (DefineReq.offers_signed_iff hk _ _).mp h
    simp [Shape.numeric, hk]
  · obtain ⟨-, -, -, -, rfl, -⟩ := (DefineReq.offers_choice_iff hk _ _).mp h
    simp [Shape.numeric, hk]
  · obtain ⟨-, -, rfl, -⟩ := (DefineReq.offers_text_iff hk _ _).mp h
    simp [Shape.numeric, hk]

/-- A DEFINE is stored as the definition of the shape and default it offers, where its id and link are legal too (R11). -/
theorem DefineReq.definition_eq_some_iff (r : DefineReq) (d : Definition) : r.definition = some d ↔
    1 ≤ r.id ∧ r.id ≤ 65534 ∧ r.link ≠ r.id ∧ (r.link = 0 ∨ r.kindCode = 1 ∨ r.kindCode = 2) ∧
    d.id = r.id ∧ d.link = r.link ∧ d.persistent = r.persistent ∧ d.stopOnly = r.stopOnly ∧ d.constant = r.constant ∧
    r.Offers d.shape d.default := by
  constructor
  · intro h
    unfold DefineReq.definition at h
    split at h
    · cases h
    · rename_i sh hsh
      split at h
      · cases h
      · rename_i v hv
        split at h
        · rename_i hc
          obtain ⟨hlo, hhi, hlink, hself, htest⟩ := hc
          cases h
          have hoffers : r.Offers sh v := ⟨hsh, hv, htest⟩
          exact ⟨hlo, hhi, hself, by rwa [← hoffers.numeric_iff], rfl, rfl, rfl, rfl, rfl, hoffers⟩
        · cases h
  · obtain ⟨id, sh, link, v, pers, stop, const⟩ := d
    rintro ⟨hlo, hhi, hself, hlink, rfl, rfl, rfl, rfl, rfl, hoffers⟩
    rw [← hoffers.numeric_iff] at hlink
    obtain ⟨hsh, hv, htest⟩ := hoffers
    simp only [DefineReq.definition, hsh, hv]
    exact if_pos ⟨hlo, hhi, hlink, hself, htest⟩

theorem DefineReq.definition_id {r : DefineReq} {d : Definition} (h : r.definition = some d) : d.id = r.id := by
  obtain ⟨-, -, -, -, hid, -⟩ := (r.definition_eq_some_iff d).mp h
  exact hid

/-- Settles O15: the checks of R10 in order, R12 for the entry, and R11 kind by kind. -/
theorem defineAddsTheEntry : Obligations.DefineAddsTheEntry := by
  refine ⟨fun p q b r s h hr => ?_, fun r d => ?_⟩
  · split
    · rename_i hstate
      exact exec_define_refused h hr
        (State.defineCheck_wrongState ((CatState.takesDefinitions_eq_false_iff _).mpr hstate))
    rename_i hstate
    rw [← CatState.takesDefinitions_eq_false_iff, Bool.not_eq_false] at hstate
    split
    · rename_i hfull
      exact exec_define_refused h hr (State.defineCheck_catalogFull hstate hfull)
    rename_i hroom
    rw [not_le] at hroom
    split
    · rename_i hdup
      exact exec_define_refused h hr (State.defineCheck_duplicateId hstate hroom
        (by simpa [findEntry_eq_none_iff] using hdup))
    rename_i hnew
    have hfresh : ∀ e ∈ s.catalog.entries, e.defn.id ≠ r.id := fun e he hid => hnew ⟨e, he, hid⟩
    have hcheck := State.defineCheck_new hstate hroom ((findEntry_eq_none_iff _ _).mpr hfresh)
    cases hd : r.definition with
    | none => exact exec_define_refused h hr (by rw [hcheck, hd]; rfl)
    | some d =>
      have hlen : (insertEntry { defn := d, live := none } s.catalog.entries).length = s.catalog.entries.length + 1 :=
        length_insertEntry (by simpa only [DefineReq.definition_id hd] using hfresh)
      rw [exec_define_accepted h hr (by rw [hcheck, hd]; rfl), hlen]
  · rw [DefineReq.definition_eq_some_iff, DefineReq.offers_iff_byKind,
      and_congr_right fun hk => DefineReq.offers_unsigned_iff hk _ _,
      and_congr_right fun hk => DefineReq.offers_signed_iff hk _ _,
      and_congr_right fun hk => DefineReq.offers_choice_iff hk _ _,
      and_congr_right fun hk => DefineReq.offers_text_iff hk _ _]

/-! ### WIPE (R21, R104) -/

theorem exec_wipe_reaches {p : Port} {q : Byte} {s : State} (h : s.Reaches p q kWipe) : exec (.wipe p q []) s = .next
    (if (s.admitted p q kWipe).wipeAllowed then (s.admitted p q kWipe).acceptWipe q
     else (s.admitted p q kWipe).refuse p q kWipe .wrongState 0) :=
  congrArg Host.Outcome.next (State.request_reaches
    (fun _ s => if s.wipeAllowed then s.acceptWipe q else s.refuse p q kWipe .wrongState 0) h readEmpty_nil)

theorem State.wipeAllowed_admitted (s : State) (p : Port) (q k : Byte) : (s.admitted p q k).wipeAllowed = s.wipeAllowed := by
  cases p <;> rfl

/-- Where a WIPE is taken (R21). -/
theorem State.wipeAllowed_iff (s : State) : s.wipeAllowed = true ↔
    s.catalog.state = .empty ∨ s.catalog.state = .building ∨
    (s.catalog.state = .sealed ∧ s.stack.frames = [] ∧ s.portA.bulk.active = false ∧ s.portB.bulk.active = false) := by
  unfold State.wipeAllowed
  cases s.catalog.state <;> simp [and_assoc]

/-- A sector that no record of the table calls RETIRED; those of the ring are the ones a catalog write and a wipe erase (R102, R104). -/
theorem Store.not_mem_retiredNumbers_iff (st : Store) (k : Nat) :
    k ∉ st.retiredNumbers ↔ ∀ x ∈ st.table, x.sector = k → x.role ≠ .retired := by
  simp only [Store.retiredNumbers, List.mem_map, List.mem_filter, beq_iff_eq, not_exists, not_and]
  exact ⟨fun h x hx hk hr => h x ⟨hx, hr⟩ hk, fun h x hx hk => h x hx.1 hk hx.2⟩

/-- The erases after that of sector 0 (R102, R104). -/
def Store.laterErases (st : Store) : List Task :=
  ([1, 2, 3] ++ Config.ringNumbers.filter (fun k => !(st.retiredNumbers.contains k))).map Task.erase

theorem Store.eraseTasks_eq (st : Store) : st.eraseTasks = .erase 0 :: st.laterErases := rfl

theorem Config.mem_ringNumbers_iff (k : Nat) : k ∈ Config.ringNumbers ↔ 4 ≤ k ∧ k ≤ 15 := by
  simp only [Config.ringNumbers, List.mem_cons, List.not_mem_nil, or_false]
  omega

theorem Store.erase_mem_laterErases_iff (st : Store) (k : Nat) : Task.erase k ∈ st.laterErases ↔
    k = 1 ∨ k = 2 ∨ k = 3 ∨ (4 ≤ k ∧ k ≤ 15 ∧ ∀ x ∈ st.table, x.sector = k → x.role ≠ .retired) := by
  rw [← Store.not_mem_retiredNumbers_iff, ← and_assoc, ← Config.mem_ringNumbers_iff]
  simp [Store.laterErases]

/-- The first erase starts with the supply NORMAL, and the rest of the tasks are left (R100, R102, R104). -/
theorem State.runTasks_erase_normal {s : State} {k : Nat} {ts : List Task} (ht : s.store.tasks = .erase k :: ts)
    (hn : s.ctl.supply = .normal) : s.runTasks.store.arrayOp = .erase k ∧ s.runTasks.store.tasks = ts := by
  simp [State.runTasks, ht, hn]

/-- The start of an erase leaves everything but the store, and the store's operation, durable number and reserve. -/
theorem State.runTasks_erase_frame {s : State} {k : Nat} {ts : List Task} (ht : s.store.tasks = .erase k :: ts) :
    s.StoreDiffers s.runTasks ∧ s.runTasks.store.operation = s.store.operation := by
  simp only [State.runTasks, ht]
  split
  · exact ⟨.refl s, rfl⟩
  · exact ⟨s.modStore_storeDiffers _ rfl rfl, rfl⟩

theorem State.startWipeErase_frame (s : State) : s.StoreDiffers s.startWipeErase ∧ s.startWipeErase.store.operation = .wipeErase := by
  obtain ⟨hd, ho⟩ := State.runTasks_erase_frame (s := s.modStore fun st =>
    { st with operation := .wipeErase, wipeFault := false, tasks := st.eraseTasks ++ [.retireMap] }) rfl
  exact ⟨(s.modStore_storeDiffers _ rfl rfl).trans hd, ho⟩

/-- The wipe erase begins with sector 0 (R104). -/
theorem State.startWipeErase_normal {s : State} (hn : s.ctl.supply = .normal) :
    s.startWipeErase.store.arrayOp = .erase 0 ∧ s.startWipeErase.store.tasks = s.store.laterErases ++ [.retireMap] :=
  State.runTasks_erase_normal (congrArg (· ++ [Task.retireMap]) s.store.eraseTasks_eq) hn

/-- In a WIPING catalog the end of an operation starts the wipe erase of an IDLE store, and nothing beside an operation (R88, log 14). -/
theorem State.operationEnded_wiping {s : State} (hw : s.catalog.state = .wiping) :
    s.operationEnded = if s.store.operation = .idle then s.startWipeErase else s := by
  unfold State.operationEnded State.choose
  simp [hw]

theorem State.StoreDiffers.port {s t : State} (h : s.StoreDiffers t) (p : Port) : t.port p = s.port p := by
  cases p
  · exact h.portA
  · exact h.portB

/-- The state that an accepted WIPE leaves before the wipe erase begins (R21). -/
def State.wiped (s : State) (q : Byte) : State :=
  { s with
    catalog := { s.catalog with state := .wiping, entries := [], digest := 0, request := some q }
    store :=
      { s.store with
        reserve := 0, pend := none
        compaction := if s.store.compaction.isRequested then .none else s.store.compaction } }

/-- An accepted WIPE begins the wipe erase where the store is IDLE, and else leaves it to the end of the operation (R21, log 14). -/
theorem State.acceptWipe_eq (s : State) (q : Byte) :
    s.acceptWipe q = if s.store.operation = .idle then (s.wiped q).startWipeErase else s.wiped q :=
  State.operationEnded_wiping (s := s.wiped q) rfl

theorem State.acceptWipe_storeDiffers (s : State) (q : Byte) : (s.wiped q).StoreDiffers (s.acceptWipe q) := by
  rw [State.acceptWipe_eq]
  split
  · exact (State.startWipeErase_frame _).1
  · exact .refl _

/-- Settles O18: R21 for where a WIPE is taken and what it clears, R104 for the erase it begins. -/
theorem wipeClearsTheCatalog : Obligations.WipeClearsTheCatalog := by
  intro p q s h
  rw [exec_wipe_reaches h, State.wipeAllowed_admitted]
  split
  · rename_i hallowed
    rw [if_pos (s.wipeAllowed_iff.mpr hallowed)]
    have hd := (s.admitted p q kWipe).acceptWipe_storeDiffers q
    have hport := (hd.port p).trans (s.admitted_port p q kWipe)
    refine ⟨_, rfl, ?catalog, hd.reserve, ?durable, ?nv, ?stack, ?commit, ?ctl, ?erase, ?outstanding, ?outbound, ?other⟩
    case catalog => simp [hd.catalog, State.wiped]
    case durable => simp [hd.durable, State.wiped]
    case nv => simp [hd.nv, State.wiped]
    case stack => simp [hd.stack, State.wiped]
    case commit => simp [hd.commit, State.wiped]
    case ctl => simp [hd.ctl, State.wiped]
    case erase =>
      intro hidle
      rw [State.acceptWipe_eq, State.admitted_store, if_pos hidle]
      refine ⟨(State.startWipeErase_frame _).2, fun hn => ?_⟩
      have hn' : ((s.admitted p q kWipe).wiped q).ctl.supply = .normal := by simpa [State.wiped] using hn
      obtain ⟨hop, htasks⟩ := State.startWipeErase_normal hn'
      have htable : ((s.admitted p q kWipe).wiped q).store.table = s.store.table := by simp [State.wiped]
      refine ⟨hop, fun k => ?_⟩
      rw [htasks, ← htable, ← Store.erase_mem_laterErases_iff]
      simp
    case outstanding => rw [hport]; rfl
    case outbound => rw [hport]; rfl
    case other => exact (hd.port _).trans (s.admitted_port_other p q kWipe)
  · rename_i hrefused
    rw [if_neg (mt s.wipeAllowed_iff.mp hrefused), State.refuse_admitted _ _ h.fresh]

end Sys2Proof.Machine
end

section
/-! SUPPORT. The requests of the Frame Stack: BEGIN, SET, GET, ROLLBACK and MERGE, and the value check of a staged value (R7, R36 to
R47). -/

namespace Sys2Proof.Machine

-- one proof after another, as in the tests: side by side they ask for more threads than the memory limit allows
set_option Elab.async false

open Sys2Proof

/-! ### What the checks of the stack's requests ask

Each check passes exactly where the condition of its refusal does not hold. -/

theorem State.sealed_iff (s : State) : (s.catalog.state == .sealed) = true ↔ ¬ s.catalog.state ≠ .sealed := by
  rw [beq_iff_eq, not_not]

theorem State.owns_iff (s : State) (p : Port) : s.owns p = true ↔ ¬ s.stack.owner ≠ some p := by
  rw [State.owns, beq_iff_eq, not_not]

theorem State.notOwnedByOther_iff (s : State) (p : Port) : (!s.ownedByOther p) = true ↔ ¬ s.stack.owner = some (otherPort p) := by
  simp [State.ownedByOther]

theorem State.depth_lt_iff (s : State) : decide (s.depth < Config.maxDepth) = true ↔ ¬ 8 ≤ s.stack.frames.length := by
  rw [decide_eq_true_iff, not_le, State.depth, Config.maxDepth]

theorem State.noCommit_iff (s : State) : s.commit.isNone = true ↔ ¬ s.commit ≠ none := by
  rw [Option.isNone_iff_eq_none, not_not]

theorem State.unlocked_iff (s : State) (p : Port) : s.unlocked p = true ↔ ¬ (s.port p).bulk.locks = true := by
  simp [State.unlocked]

/-- An expected label must be that of the top frame; an absent one asks for nothing (R43, R46). -/
theorem State.labelMatches_iff {s : State} {f : Frame} {fs : List Frame} (hf : s.stack.frames = f :: fs)
    (expected : Option (List Byte)) : s.labelMatches expected = true ↔ ¬ (expected ≠ none ∧ f.label ≠ expected) := by
  simp [State.labelMatches, State.topLabel, hf, or_iff_not_imp_left]

/-! The arrival of the request itself changes nothing that the checks ask for. -/

@[simp] theorem State.depth_admitted (s : State) (p : Port) (q k : Byte) : (s.admitted p q k).depth = s.depth := by
  rw [State.depth, State.admitted_stack, State.depth]

@[simp] theorem State.owns_admitted (s : State) (p r : Port) (q k : Byte) : (s.admitted p q k).owns r = s.owns r := by
  rw [State.owns, State.admitted_stack, State.owns]

@[simp] theorem State.ownedByOther_admitted (s : State) (p r : Port) (q k : Byte) :
    (s.admitted p q k).ownedByOther r = s.ownedByOther r := by
  rw [State.ownedByOther, State.admitted_stack, State.ownedByOther]

@[simp] theorem State.unlocked_admitted (s : State) (p r : Port) (q k : Byte) : (s.admitted p q k).unlocked r = s.unlocked r := by
  cases p <;> cases r <;> rfl

@[simp] theorem State.topLabel_admitted (s : State) (p : Port) (q k : Byte) : (s.admitted p q k).topLabel = s.topLabel := by
  rw [State.topLabel, State.admitted_stack, State.topLabel]

@[simp] theorem State.needsRecord_admitted (s : State) (p : Port) (q k : Byte) (id : Nat) :
    (s.admitted p q k).needsRecord id = s.needsRecord id := by
  rw [State.needsRecord, State.admitted_stack, State.needsRecord]

@[simp] theorem State.leasePeriod_admitted (s : State) (p r : Port) (q k : Byte) :
    (s.admitted p q k).leasePeriod r = s.leasePeriod r := by
  cases p <;> cases r <;> rfl

theorem State.beginChecks_admitted (s : State) (p : Port) (q k : Byte) : (s.admitted p q k).beginChecks p = s.beginChecks p := by
  simp [State.beginChecks]

theorem State.setChecks_admitted (s : State) (p : Port) (q k : Byte) : (s.admitted p q k).setChecks p = s.setChecks p := by
  simp [State.setChecks]

theorem State.rollbackChecks_admitted (s : State) (p : Port) (q k : Byte) (label : Option (List Byte)) :
    (s.admitted p q k).rollbackChecks p label = s.rollbackChecks p label := by
  simp [State.rollbackChecks, State.labelMatches]

theorem State.mergeChecks_admitted (s : State) (p : Port) (q k : Byte) (label : Option (List Byte)) :
    (s.admitted p q k).mergeChecks p label = s.mergeChecks p label := by
  simp [State.mergeChecks, State.labelMatches]

theorem State.stageCheck_admitted (s : State) (p : Port) (q k : Byte) (r : SetReq) :
    (s.admitted p q k).stageCheck p r = s.stageCheck p r := by
  cases p <;> rfl

/-! ### The checks in order -/

/-- A request with a list of own checks that reaches them: the first check that fails refuses it with offending id 0, and a request
that passes all is accepted (R182 step 8). -/
theorem State.request_ownChecks {α : Type} {s : State} {p : Port} {q kind : Byte} {fields : Option α} {a : α}
    (checks : α → State → List (Bool × RefuseCode)) (accept : α → State → State) (h : s.Reaches p q kind) (hf : fields = some a)
    (hsame : checks a (s.admitted p q kind) = checks a s) :
    s.request p q kind fields (fun a s => s.ownChecks p q kind (checks a s) (accept a)) =
      (firstFail (checks a s)).elim (accept a (s.admitted p q kind)) (fun c => s.refused p q kind c 0) := by
  rw [State.request_reaches _ h hf, hsame, State.ownChecks]
  cases firstFail (checks a s) with
  | none => rfl
  | some c => exact State.refuse_admitted c 0 h.fresh

/-- One check of a list: where it fails its code refuses the request, and where it passes the rest of the list decides. -/
theorem State.refused_or_nextCheck {s t : State} {p : Port} {q kind : Byte} {id : Nat} {out : Host.Outcome State Fault Refusal}
    {ok : Bool} {c : RefuseCode} {checks : List (Bool × RefuseCode)} {bad rest : Prop} [Decidable bad] (hok : ok = true ↔ ¬ bad)
    (hout : out = .next ((firstFail ((ok, c) :: checks)).elim t (fun c => s.refused p q kind c id)))
    (hrest : out = .next ((firstFail checks).elim t (fun c => s.refused p q kind c id)) → ¬ bad → rest) :
    if bad then out = .next (s.refused p q kind c id) else rest := by
  split
  · rename_i hbad
    have hfail : ok = false := by simpa [hbad] using hok
    rw [hout, hfail]
    rfl
  · rename_i hgood
    rw [hok.mpr hgood] at hout
    exact hrest hout hgood

/-! ### The answer beside the other effects of a request

The REPLY, the lease and the notices touch different fields of a port, so that they commute. -/

/-- A REPLY to a request admitted in the same event, in a state that differs in its catalog and its stack (R169, R171). -/
theorem State.reply_admitted_staged {s : State} {p : Port} {q kind : Byte} (c : Catalog) (k : Stack) (r : Reply)
    (h : ∀ o ∈ (s.port p).outstanding, o.seq ≠ q) :
    ({ s.admitted p q kind with catalog := c, stack := k } : State).reply p q kind r =
      { s.answered p q kind (.reply kind r) true with catalog := c, stack := k } := by
  have hp : ({ s.admitted p q kind with catalog := c, stack := k } : State).port p = (s.port p).admitted (s.leasePeriod p) q kind := by
    cases p <;> rfl
  rw [State.reply_of_port r hp h]
  cases p <;> rfl

theorem State.reply_admitted_withStack {s : State} {p : Port} {q kind : Byte} (k : Stack) (r : Reply)
    (h : ∀ o ∈ (s.port p).outstanding, o.seq ≠ q) : ({ s.admitted p q kind with stack := k } : State).reply p q kind r =
      { s.answered p q kind (.reply kind r) true with stack := k } := by
  rw [State.reply_admitted_staged _ _ _ h, State.admitted_catalog, ← State.answered_catalog]

theorem PortState.answer_setLease (x : PortState) (l : Lease) (q : Byte) (b : Body) (keep : Bool) :
    ({ x with lease := l } : PortState).answer q b keep = { x.answer q b keep with lease := l } := by
  unfold PortState.answer
  dsimp only
  cases x.outstanding.find? (fun o => o.seq == q) <;> rfl

theorem PortState.answer_takeNotice (x : PortState) (n : Notice) (q : Byte) (b : Body) (keep : Bool) :
    (x.takeNotice n).answer q b keep = (x.answer q b keep).takeNotice n := by
  rw [PortState.takeNotice_eq, PortState.takeNotice_eq]
  unfold PortState.answer
  dsimp only
  cases x.outstanding.find? (fun o => o.seq == q) <;> rfl

theorem State.reply_setLease (s : State) (p : Port) (l : Lease) (q kind : Byte) (r : Reply) :
    (s.modPort p (fun x => { x with lease := l })).reply p q kind r =
      (s.reply p q kind r).modPort p (fun x => { x with lease := l }) := by
  unfold State.reply
  rw [State.modPort_modPort, State.modPort_modPort]
  simp only [PortState.answer_setLease]

theorem State.reply_noticeBoth (s : State) (n : Notice) (p : Port) (q kind : Byte) (r : Reply) :
    (s.noticeBoth n).reply p q kind r = (s.reply p q kind r).noticeBoth n := by
  cases p
  case A => exact congrArg (fun x => ({ s with portA := x, portB := s.portB.takeNotice n } : State)) (PortState.answer_takeNotice ..)
  case B => exact congrArg (fun x => ({ s with portA := s.portA.takeNotice n, portB := x } : State)) (PortState.answer_takeNotice ..)

/-! ### BEGIN (R36, R37) -/

theorem State.depth_pushFrame (s : State) (p : Port) (label : Option (List Byte)) : (s.pushFrame p label).depth = s.depth + 1 := by
  unfold State.pushFrame
  split <;> simp [State.depth, State.takeOwnership]

theorem State.free_pushFrame (s : State) (p : Port) (label : Option (List Byte)) :
    (s.pushFrame p label).stack.free = s.stack.free := by
  unfold State.pushFrame
  split <;> simp [State.takeOwnership]

/-- The first frame brings ownership with it (R30, R37). -/
theorem State.pushFrame_first {s : State} (h : s.stack.frames = []) (p : Port) (label : Option (List Byte)) : s.pushFrame p label =
    (({ s with stack := { s.stack with frames := { label := label, undo := [] } :: s.stack.frames, owner := some p } } : State).modPort p
      (fun x => { x with lease := leaseOf (s.leasePeriod p) })).noticeBoth (.ownerChanged (some p)) := by
  rw [State.pushFrame, if_pos h]
  cases p <;> rfl

theorem exec_beginFrame_reaches {p : Port} {q : Byte} {b : List Byte} {label : Option (List Byte)} {s : State}
    (h : s.Reaches p q kBegin) (hl : readLabel b = some label) : exec (.beginFrame p q b) s = .next
      ((firstFail (s.beginChecks p)).elim ((s.admitted p q kBegin).acceptBegin p q label) (fun c => s.refused p q kBegin c 0)) :=
  congrArg Host.Outcome.next (State.request_ownChecks (fun _ s => s.beginChecks p)
    (fun label s => s.acceptBegin p q label) h hl (s.beginChecks_admitted p q kBegin))

theorem State.acceptBegin_above {s : State} {p : Port} {q : Byte} (label : Option (List Byte))
    (hfresh : ∀ o ∈ (s.port p).outstanding, o.seq ≠ q) (hf : s.stack.frames ≠ []) :
    (s.admitted p q kBegin).acceptBegin p q label =
      { s.answered p q kBegin (.reply kBegin (.beginFrame (s.stack.frames.length + 1) s.stack.free)) true with
        stack := { s.stack with frames := { label := label, undo := [] } :: s.stack.frames } } := by
  unfold State.acceptBegin
  dsimp only
  rw [State.depth_pushFrame, State.free_pushFrame, State.pushFrame, if_neg (by simpa using hf),
    State.reply_admitted_withStack _ _ hfresh]
  simp [State.depth]

theorem State.acceptBegin_first {s : State} {p : Port} {q : Byte} (label : Option (List Byte))
    (hfresh : ∀ o ∈ (s.port p).outstanding, o.seq ≠ q) (hf : s.stack.frames = []) :
    (s.admitted p q kBegin).acceptBegin p q label =
      (({ s.answered p q kBegin (.reply kBegin (.beginFrame (s.stack.frames.length + 1) s.stack.free)) true with
          stack := { s.stack with frames := { label := label, undo := [] } :: s.stack.frames, owner := some p } } : State).modPort p
        (fun x => { x with lease := leaseOf (s.leasePeriod p) })).noticeBoth (.ownerChanged (some p)) := by
  unfold State.acceptBegin
  dsimp only
  rw [State.depth_pushFrame, State.free_pushFrame, State.pushFrame_first (by simpa using hf), State.reply_noticeBoth,
    State.reply_setLease, State.reply_admitted_withStack _ _ hfresh]
  simp [State.depth]

/-- Settles O20: the checks of R36 in order, then R37 above and at depth 0. -/
theorem beginPushesAFrame : Obligations.BeginPushesAFrame := by
  intro p q b label s h hl
  refine State.refused_or_nextCheck s.sealed_iff (exec_beginFrame_reaches h hl) fun hexec _ => ?_
  refine State.refused_or_nextCheck (s.notOwnedByOther_iff p) hexec fun hexec _ => ?_
  refine State.refused_or_nextCheck s.depth_lt_iff hexec fun hexec _ => ?_
  refine State.refused_or_nextCheck s.noCommit_iff hexec fun hexec _ => ?_
  refine State.refused_or_nextCheck (s.unlocked_iff p) hexec fun hexec _ => ?_
  exact ⟨fun hf => hexec.trans (congrArg Host.Outcome.next (State.acceptBegin_above label h.fresh hf)),
    fun hf => hexec.trans (congrArg Host.Outcome.next (State.acceptBegin_first label h.fresh hf))⟩

/-! ### SET (R38, R39) -/

/-- A write needs a record exactly when the top frame holds none for the id (R39). -/
theorem State.needsRecord_iff {s : State} {f : Frame} {fs : List Frame} (hf : s.stack.frames = f :: fs) (id : Nat) :
    s.needsRecord id = true ↔ ¬ ∃ u ∈ f.undo, u.id = id := by
  simp [State.needsRecord, hf]

/-- Staging under a record that the top frame holds already. -/
theorem State.stage_held {s : State} {id : Nat} (h : s.needsRecord id = false) (v : Value) :
    s.stage id v = { s with catalog := { s.catalog with entries := setWorking s.catalog.entries id v } } := by
  simp [State.stage, h]

/-- Staging at the first write within the top frame. -/
theorem State.stage_first {s : State} {id : Nat} {e : Entry} {f : Frame} {fs : List Frame} (h : s.needsRecord id = true)
    (he : findEntry s.catalog.entries id = some e) (hf : s.stack.frames = f :: fs) (v : Value) : s.stage id v =
      { s with
        catalog := { s.catalog with entries := setWorking s.catalog.entries id v }
        stack :=
          { s.stack with
            frames := { f with undo := f.undo ++ [{ id := id, prior := e.working }] } :: fs, free := s.stack.free - 1 } } := by
  simp [State.stage, h, he, Stack.takeRecord, hf]

/-- An admitted SET once checks 1 to 4 of R38 have passed. -/
def State.setAnswer (s : State) (p : Port) (q : Byte) (r : SetReq) : State :=
  match s.stageCheck p r with
  | .error c => s.refused p q kSet c r.id
  | .ok v => (s.admitted p q kSet).acceptSet p q r.id v

theorem exec_set_reaches {p : Port} {q : Byte} {b : List Byte} {r : SetReq} {s : State} (h : s.Reaches p q kSet)
    (hr : readSet b = some r) : exec (.set p q b) s = .next
      ((firstFail (s.setChecks p)).elim (s.setAnswer p q r) (fun c => s.refused p q kSet c r.id)) := by
  refine (congrArg Host.Outcome.next (State.request_reaches _ h hr)).trans (congrArg Host.Outcome.next ?_)
  rw [State.setCheck, State.setChecks_admitted, State.stageCheck_admitted]
  cases firstFail (s.setChecks p) with
  | some c => exact State.refuse_admitted c r.id h.fresh
  | none =>
    simp only [Option.elim_none, State.setAnswer]
    cases s.stageCheck p r with
    | error c => exact State.refuse_admitted c r.id h.fresh
    | ok v => rfl

section
variable {s : State} {p : Port} {q : Byte} {r : SetReq}

theorem State.setAnswer_refused {c : RefuseCode} (h : s.stageCheck p r = .error c) :
    s.setAnswer p q r = s.refused p q kSet c r.id := by
  rw [State.setAnswer, h]

theorem State.setAnswer_held {v : Value} (hfresh : ∀ o ∈ (s.port p).outstanding, o.seq ≠ q) (h : s.stageCheck p r = .ok v)
    (hrec : s.needsRecord r.id = false) : s.setAnswer p q r =
      { s.answered p q kSet (.reply kSet (.set false s.stack.free)) true with
        catalog := { s.catalog with entries := setWorking s.catalog.entries r.id v } } := by
  rw [State.setAnswer, h]
  dsimp only [State.acceptSet]
  rw [State.stage_held (by simpa using hrec), State.reply_admitted_withCatalog _ _ hfresh]
  simp [hrec]

theorem State.setAnswer_first {v : Value} {e : Entry} {f : Frame} {fs : List Frame}
    (hfresh : ∀ o ∈ (s.port p).outstanding, o.seq ≠ q) (h : s.stageCheck p r = .ok v) (hrec : s.needsRecord r.id = true)
    (he : findEntry s.catalog.entries r.id = some e) (hf : s.stack.frames = f :: fs) : s.setAnswer p q r =
      { s.answered p q kSet (.reply kSet (.set true (s.stack.free - 1))) true with
        catalog := { s.catalog with entries := setWorking s.catalog.entries r.id v }
        stack :=
          { s.stack with
            frames := { f with undo := f.undo ++ [{ id := r.id, prior := e.working }] } :: fs, free := s.stack.free - 1 } } := by
  rw [State.setAnswer, h]
  dsimp only [State.acceptSet]
  rw [State.stage_first (by simpa using hrec) (by simpa using he) (by simpa using hf),
    State.reply_admitted_staged _ _ _ hfresh]
  simp [hrec]

/-! Checks 5 to 7 of R38, one equation per outcome. -/

theorem State.stageCheck_badValue {c : RefuseCode}
    (h : valueCheck s.catalog.entries Entry.working r.id r.value = .error c) : s.stageCheck p r = .error c := by
  rw [State.stageCheck, h]

variable {v : Value} {e : Entry} (hv : valueCheck s.catalog.entries Entry.working r.id r.value = .ok v)
  (hstate : s.catalog.state = .sealed) (he : findEntry s.catalog.entries r.id = some e)
include hv hstate he

theorem State.stageCheck_notPermitted (h : p = .B ∧ s.catalog.setup.mode = .tune ∧ e.defn.persistent = true) :
    s.stageCheck p r = .error .notPermitted := by
  simp [State.stageCheck, hv, State.modeInForce, hstate, he, h]

theorem State.stageCheck_permitted (h : ¬ (p = .B ∧ s.catalog.setup.mode = .tune ∧ e.defn.persistent = true)) :
    s.stageCheck p r = if s.needsRecord r.id = true ∧ s.stack.free = 0 then .error .poolFull else .ok v := by
  simp [State.stageCheck, hv, State.modeInForce, hstate, he, h]

end

/-! The value check, one equation per outcome (R7). -/

section
variable {es : List Entry} {view : Entry → Value} {id : Nat} {w : WireValue}

theorem valueCheck_noSuchId (h : findEntry es id = none) : valueCheck es view id w = .error .noSuchId := by
  rw [valueCheck, h]

variable {e : Entry} (he : findEntry es id = some e)
include he

theorem valueCheck_constant (hc : e.defn.constant = true) : valueCheck es view id w = .error .constant := by
  simp [valueCheck, he, hc]

variable (hc : ¬ e.defn.constant = true) {sh : Shape} (hsh : e.defn.shape = sh)
include hc hsh

theorem valueCheck_badForm (hform : valueOfForm sh w = none) : valueCheck es view id w = .error .outOfRange := by
  simp [valueCheck, he, hc, hsh, hform]

theorem valueCheck_failsKind {v : Value} {c : RefuseCode} (hform : valueOfForm sh w = some v) (htest : kindTest sh v = some c) :
    valueCheck es view id w = .error c := by
  simp [valueCheck, he, hc, hsh, hform, htest]

theorem valueCheck_ofKind {v : Value} (hform : valueOfForm sh w = some v) (htest : kindTest sh v = none) :
    valueCheck es view id w = if linkSatisfied es view e.defn v = true then .ok v else .error .linkViolation := by
  simp [valueCheck, he, hc, hsh, hform, htest]

theorem valueCheck_unlinked {v : Value} (hform : valueOfForm sh w = some v) (htest : kindTest sh v = none)
    (hlink : e.defn.link = 0) : valueCheck es view id w = .ok v := by
  rw [valueCheck_ofKind he hc hsh hform htest, linkSatisfied, if_pos hlink, if_pos rfl]

/-- The link check of a number against the numeric entry above it (R4, R7). -/
theorem valueCheck_linked {n m : Int} {t : Entry} (hform : valueOfForm sh w = some (.num n)) (htest : kindTest sh (.num n) = none)
    (hlink : e.defn.link ≠ 0) (ht : findEntry es e.defn.link = some t) (hview : view t = .num m) :
    valueCheck es view id w = if n ≤ m then .ok (.num n) else .error .linkViolation := by
  rw [valueCheck_ofKind he hc hsh hform htest, linkSatisfied, if_neg hlink, ht]
  simp [hview, Value.atMost]

/-- A number offered to a numeric or choice entry: the kind's own test, which asks for `inRange`, then the link (R7). -/
theorem valueCheck_number {n : Int} {c : RefuseCode} {inRange : Prop} [Decidable inRange]
    (hform : valueOfForm sh w = some (.num n)) (htest : kindTest sh (.num n) = if inRange then none else some c) :
    if inRange then
      (e.defn.link = 0 → valueCheck es view id w = .ok (.num n)) ∧
      (e.defn.link ≠ 0 → ∀ t b, findEntry es e.defn.link = some t → view t = .num b →
        valueCheck es view id w = if n ≤ b then .ok (.num n) else .error .linkViolation)
    else valueCheck es view id w = .error c := by
  split
  · rename_i hin
    rw [if_pos hin] at htest
    exact ⟨valueCheck_unlinked he hc hsh hform htest,
      fun hlink _ _ ht hview => valueCheck_linked he hc hsh hform htest hlink ht hview⟩
  · rename_i hout
    rw [if_neg hout] at htest
    exact valueCheck_failsKind he hc hsh hform htest

end

theorem kindTest_unsigned (wd n : Nat) (lo hi : Int) : kindTest (.unsigned wd lo hi) (.num n) =
    if n < 2 ^ (8 * wd) ∧ lo ≤ n ∧ n ≤ hi then none else some .outOfRange := by
  simp only [kindTest, Bool.and_eq_true, decide_eq_true_eq, inDomain_unsigned_iff, and_assoc]

theorem kindTest_signed (wd : Nat) (n lo hi : Int) : kindTest (.signed wd lo hi) (.num n) =
    if -(2 ^ (8 * wd - 1) : Int) ≤ n ∧ n < (2 ^ (8 * wd - 1) : Int) ∧ lo ≤ n ∧ n ≤ hi then none else some .outOfRange := by
  simp only [kindTest, Bool.and_eq_true, decide_eq_true_eq, inDomain_signed_iff, and_assoc]

/-- Settles O21: the checks of R38 in order, R39 with and without a new record, and R7 kind by kind. -/
theorem setStagesAValue : Obligations.SetStagesAValue := by
  refine ⟨fun p q b r s h hr => ?_, fun es view id w => ⟨valueCheck_noSuchId, fun e he => ?_⟩⟩
  · refine State.refused_or_nextCheck s.sealed_iff (exec_set_reaches h hr) fun hexec hstate => ?_
    refine State.refused_or_nextCheck (s.owns_iff p) hexec fun hexec _ => ?_
    refine State.refused_or_nextCheck s.noCommit_iff hexec fun hexec _ => ?_
    refine State.refused_or_nextCheck (s.unlocked_iff p) hexec fun hexec _ => ?_
    rw [not_not] at hstate
    change exec (.set p q b) s = .next (s.setAnswer p q r) at hexec
    cases hv : valueCheck s.catalog.entries Entry.working r.id r.value with
    | error c => exact hexec.trans (congrArg _ (State.setAnswer_refused (State.stageCheck_badValue hv)))
    | ok v =>
      intro e f fs he hf
      split
      · rename_i htune
        exact hexec.trans (congrArg _ (State.setAnswer_refused (State.stageCheck_notPermitted hv hstate he htune)))
      rename_i htune
      have hcheck := State.stageCheck_permitted hv hstate he htune
      split
      · rename_i hheld
        have hrec : s.needsRecord r.id = false := by
          rw [← Bool.not_eq_true, State.needsRecord_iff hf, not_not]
          exact hheld
        exact hexec.trans (congrArg _ (State.setAnswer_held h.fresh (by simp [hcheck, hrec]) hrec))
      rename_i hnew
      have hrec := (State.needsRecord_iff hf r.id).mpr hnew
      split
      · rename_i hempty
        exact hexec.trans (congrArg _ (State.setAnswer_refused (by rw [hcheck, if_pos ⟨hrec, hempty⟩])))
      · rename_i hfree
        exact hexec.trans (congrArg _ (State.setAnswer_first h.fresh (by rw [hcheck, if_neg (fun hp => hfree hp.2)]) hrec he hf))
  · split
    · rename_i hc
      exact valueCheck_constant he hc
    rename_i hc
    cases hsh : e.defn.shape with
    | unsigned wd lo hi =>
      cases w with
      | number raw => exact valueCheck_number he hc hsh rfl (kindTest_unsigned wd raw.toNat lo hi)
      | text bs => exact valueCheck_badForm he hc hsh rfl
    | signed wd lo hi =>
      cases w with
      | number raw => exact valueCheck_number he hc hsh rfl (kindTest_signed wd raw.toInt lo hi)
      | text bs => exact valueCheck_badForm he hc hsh rfl
    | choice cs =>
      cases w with
      | number raw => exact valueCheck_number he hc hsh rfl rfl
      | text bs => exact valueCheck_badForm he hc hsh rfl
    | text m =>
      cases w with
      | number raw => exact valueCheck_badForm he hc hsh rfl
      | text bs =>
        dsimp only
        split
        · rename_i hlen
          exact valueCheck_unlinked he hc hsh rfl (if_pos hlen)
        · rename_i hlong
          exact valueCheck_failsKind he hc hsh rfl (if_neg hlong)

/-! ### GET (R41) -/

theorem exec_get_reaches {p : Port} {q a b : Byte} {s : State} (h : s.Reaches p q kGet) :
    exec (.get p q [a, b]) s = .next ((s.admitted p q kGet).ownGet p q (be16 a b)) :=
  congrArg Host.Outcome.next (State.request_reaches (fun id s => s.ownGet p q id) h rfl)

theorem State.readEntry_owner {s : State} {p : Port} (h : s.stack.owner = some p) (e : Entry) :
    s.readEntry p e = .get e.version (decide (e.working ≠ e.committed)) e.working := by
  simp [State.readEntry, State.owns, h, Entry.staged, bne, beq_eq_decide]

theorem State.readEntry_other {s : State} {p : Port} (h : s.stack.owner ≠ some p) (e : Entry) :
    s.readEntry p e = .get e.version false e.committed := by
  simp [State.readEntry, State.owns, h]

/-- Settles O22: R41 for the owner and for any other port, and R175 for both. -/
theorem getReportsThePortsView : Obligations.GetReportsThePortsView := by
  refine ⟨fun p s => by cases p <;> rfl, fun p q a b s h => ?_⟩
  rw [exec_get_reaches h, State.ownGet, State.admitted_catalog]
  split
  · rw [State.refuse_admitted _ _ h.fresh]
  rename_i hstate
  rw [if_pos (not_not.mp hstate)]
  cases findEntry s.catalog.entries (be16 a b) with
  | none => exact congrArg Host.Outcome.next (State.refuse_admitted _ _ h.fresh)
  | some e =>
    dsimp only
    rw [State.reply_admitted _ h.fresh]
    exact ⟨fun ho => by rw [State.readEntry_owner (by simpa using ho)], fun ho => by rw [State.readEntry_other (by simpa using ho)]⟩

/-! ### ROLLBACK (R43, R45) -/

theorem exec_rollback_reaches {p : Port} {q : Byte} {b : List Byte} {label : Option (List Byte)} {s : State}
    (h : s.Reaches p q kRollback) (hl : readLabel b = some label) : exec (.rollback p q b) s = .next
      ((firstFail (s.rollbackChecks p label)).elim ((s.admitted p q kRollback).acceptRollback p q)
        (fun c => s.refused p q kRollback c 0)) :=
  congrArg Host.Outcome.next (State.request_ownChecks (fun label s => s.rollbackChecks p label)
    (fun _ s => s.acceptRollback p q) h hl (s.rollbackChecks_admitted p q kRollback label))

theorem State.topUndo_cons {s : State} {f : Frame} {fs : List Frame} (hf : s.stack.frames = f :: fs) : s.topUndo = f.undo := by
  rw [State.topUndo, hf]

theorem State.topLabel_cons {s : State} {f : Frame} {fs : List Frame} (hf : s.stack.frames = f :: fs) : s.topLabel = f.label := by
  rw [State.topLabel, hf]

theorem State.rollbackTop_cons {s : State} {f : Frame} {fs : List Frame} (hf : s.stack.frames = f :: fs) : s.rollbackTop =
    { s with
      catalog := { s.catalog with entries := restoreAll f.undo s.catalog.entries }
      stack := { s.stack with frames := fs, free := s.stack.free + f.undo.length } } := by
  rw [State.rollbackTop, hf]

theorem State.rollbackFrame_above {s : State} {f : Frame} {fs : List Frame} (hf : s.stack.frames = f :: fs) (hne : fs ≠ []) :
    s.rollbackFrame = s.rollbackTop := by
  rw [State.rollbackFrame, State.releaseAtZero, if_neg (by simpa [State.rollbackTop_cons hf] using hne)]

/-- With the last frame goes the ownership (R31, R45). -/
theorem State.rollbackFrame_last {s : State} {f : Frame} {p : Port} (hf : s.stack.frames = [f]) (ho : s.stack.owner = some p) :
    s.rollbackFrame =
      (({ s with
          catalog := { s.catalog with entries := restoreAll f.undo s.catalog.entries }
          stack := { frames := [], owner := none, free := s.stack.free + f.undo.length } } : State).stopLease p).noticeBoth
        (.ownerChanged none) := by
  rw [State.rollbackFrame, State.rollbackTop_cons hf, State.releaseAtZero, if_pos rfl, State.release, State.dropOwner]
  simp only [ho]

section
variable {s : State} {p : Port} {q : Byte} {f : Frame} {fs : List Frame} (hfresh : ∀ o ∈ (s.port p).outstanding, o.seq ≠ q)
include hfresh

theorem State.acceptRollback_above (hf : s.stack.frames = f :: fs) (hne : fs ≠ []) :
    (s.admitted p q kRollback).acceptRollback p q =
      { s.answered p q kRollback (.reply kRollback
          (.rollback fs.length f.undo.length f.label (s.stack.free + f.undo.length))) true with
        catalog := { s.catalog with entries := restoreAll f.undo s.catalog.entries }
        stack := { s.stack with frames := fs, free := s.stack.free + f.undo.length } } := by
  have hf' : (s.admitted p q kRollback).stack.frames = f :: fs := by simpa using hf
  unfold State.acceptRollback
  dsimp only
  rw [State.topUndo_cons hf', State.topLabel_cons hf', State.rollbackFrame_above hf' hne, State.rollbackTop_cons hf',
    State.reply_admitted_staged _ _ _ hfresh]
  simp [State.depth]

theorem State.acceptRollback_last (hf : s.stack.frames = [f]) (ho : s.stack.owner = some p) :
    (s.admitted p q kRollback).acceptRollback p q =
      (({ s.answered p q kRollback (.reply kRollback
            (.rollback 0 f.undo.length f.label (s.stack.free + f.undo.length))) true with
          catalog := { s.catalog with entries := restoreAll f.undo s.catalog.entries }
          stack := { frames := [], owner := none, free := s.stack.free + f.undo.length } } : State).stopLease p).noticeBoth
        (.ownerChanged none) := by
  have hf' : (s.admitted p q kRollback).stack.frames = [f] := by simpa using hf
  unfold State.acceptRollback
  dsimp only
  rw [State.topUndo_cons hf', State.topLabel_cons hf', State.rollbackFrame_last hf' (by simpa using ho), State.reply_noticeBoth,
    State.stopLease, State.reply_setLease, State.reply_admitted_staged _ _ _ hfresh]
  simp [State.depth, State.stopLease]

end

/-- Newest first, the oldest record is restored last. -/
theorem restoreAll_cons (u : Undo) (us : List Undo) (es : List Entry) :
    restoreAll (u :: us) es = setWorking (restoreAll us es) u.id u.prior := by
  simp [restoreAll]

/-- The entry after its record, if the list holds one for its id, has been restored (R45). -/
def Entry.restored (us : List Undo) (e : Entry) : Entry :=
  match us.find? (fun u => u.id == e.defn.id) with
  | some u => { e with live := e.live.map (fun l => { l with working := u.prior }) }
  | none => e

theorem Entry.restored_defn (us : List Undo) (e : Entry) : (e.restored us).defn = e.defn := by
  unfold Entry.restored
  split <;> rfl

/-- The oldest record of the entry decides: what a newer one of the same id restored is overwritten. -/
theorem Entry.restored_cons (u : Undo) (us : List Undo) (e : Entry) : e.restored (u :: us) =
    if e.defn.id = u.id then { e with live := e.live.map (fun l => { l with working := u.prior }) } else e.restored us := by
  unfold Entry.restored
  split_ifs with hid
  · rw [List.find?_cons_of_pos (by simp [hid])]
  · rw [List.find?_cons_of_neg (by simpa using Ne.symm hid)]

theorem Entry.restored_live (us : List Undo) (e : Entry) (v : Value) :
    (e.restored us).live.map (fun l => { l with working := v }) = e.live.map (fun l => { l with working := v }) := by
  unfold Entry.restored
  split
  · rw [Option.map_map]
    rfl
  · rfl

/-- Restoring works entry by entry (R45); it does so even for a list that holds an id twice. -/
theorem restoreAll_eq_map (us : List Undo) (es : List Entry) : restoreAll us es = es.map (Entry.restored us) := by
  induction us with
  | nil => exact (List.map_id es).symm
  | cons u us ih =>
    rw [restoreAll_cons, ih, setWorking, List.map_map]
    refine List.map_congr_left fun e _ => ?_
    simp only [Function.comp_apply, Entry.restored_defn, Entry.restored_live, Entry.restored_cons]

/-- Settles O23: the checks of R43 in order, R45 above and at depth 0, and what restoring does to each entry. -/
theorem rollbackRemovesTheTopFrame : Obligations.RollbackRemovesTheTopFrame := by
  refine ⟨fun p q b label s h hl => ?_, fun us es _ => restoreAll_eq_map us es⟩
  refine State.refused_or_nextCheck s.sealed_iff (exec_rollback_reaches h hl) fun hexec _ => ?_
  cases hf : s.stack.frames with
  | nil => rwa [firstFail, if_neg (by simp [State.depth, hf])] at hexec
  | cons f fs =>
    rw [firstFail, if_pos (by simp [State.depth, hf])] at hexec
    refine State.refused_or_nextCheck (s.owns_iff p) hexec fun hexec howner => ?_
    rw [not_not] at howner
    refine State.refused_or_nextCheck s.noCommit_iff hexec fun hexec _ => ?_
    refine State.refused_or_nextCheck (s.unlocked_iff p) hexec fun hexec _ => ?_
    refine State.refused_or_nextCheck (State.labelMatches_iff hf label) hexec fun hexec _ => ?_
    refine ⟨fun hne => hexec.trans (congrArg Host.Outcome.next (State.acceptRollback_above h.fresh hf hne)), ?_⟩
    rintro rfl
    exact hexec.trans (congrArg Host.Outcome.next (State.acceptRollback_last h.fresh hf howner))

/-! ### MERGE (R46, R47) -/

theorem exec_merge_reaches {p : Port} {q : Byte} {b : List Byte} {label : Option (List Byte)} {s : State}
    (h : s.Reaches p q kMerge) (hl : readLabel b = some label) : exec (.merge p q b) s = .next
      ((firstFail (s.mergeChecks p label)).elim ((s.admitted p q kMerge).acceptMerge p q) (fun c => s.refused p q kMerge c 0)) :=
  congrArg Host.Outcome.next (State.request_ownChecks (fun label s => s.mergeChecks p label)
    (fun _ s => s.acceptMerge p q) h hl (s.mergeChecks_admitted p q kMerge label))

section
variable {s : State} {f g : Frame} {fs : List Frame} (hf : s.stack.frames = f :: g :: fs)
include hf

theorem State.mergeMoves_cons : s.mergeMoves = mergeMoved f.undo g.undo := by
  rw [State.mergeMoves, hf]

theorem State.mergeTop_cons : s.mergeTop =
    { s with stack :=
      { s.stack with
        frames := { g with undo := g.undo ++ mergeMoved f.undo g.undo } :: fs
        free := s.stack.free + (f.undo.length - (mergeMoved f.undo g.undo).length) } } := by
  rw [State.mergeTop, hf]

theorem State.acceptMerge_cons {p : Port} {q : Byte} (hfresh : ∀ o ∈ (s.port p).outstanding, o.seq ≠ q) :
    let moved := mergeMoved f.undo g.undo
    let returned := f.undo.length - moved.length
    (s.admitted p q kMerge).acceptMerge p q =
      { s.answered p q kMerge
          (.reply kMerge (.merge (fs.length + 1) moved.length returned f.label (s.stack.free + returned))) true with
        stack := { s.stack with frames := { g with undo := g.undo ++ moved } :: fs, free := s.stack.free + returned } } := by
  have hf' : (s.admitted p q kMerge).stack.frames = f :: g :: fs := by simpa using hf
  unfold State.acceptMerge
  dsimp only
  rw [State.topUndo_cons hf', State.topLabel_cons hf', State.mergeMoves_cons hf', State.mergeTop_cons hf',
    State.reply_admitted_withStack _ _ hfresh]
  simp [State.depth]

end

/-- Settles O24: the checks of R46 in order, then R47. -/
theorem mergeFoldsTheTopFrame : Obligations.MergeFoldsTheTopFrame := by
  intro p q b label s h hl
  refine State.refused_or_nextCheck s.sealed_iff (exec_merge_reaches h hl) fun hexec _ => ?_
  match hf : s.stack.frames with
  | [] => rwa [firstFail, if_neg (by simp [State.depth, hf])] at hexec
  | [_] => rwa [firstFail, if_neg (by simp [State.depth, hf])] at hexec
  | f :: g :: fs =>
    rw [firstFail, if_pos (by simp [State.depth, hf])] at hexec
    refine State.refused_or_nextCheck (s.owns_iff p) hexec fun hexec _ => ?_
    refine State.refused_or_nextCheck s.noCommit_iff hexec fun hexec _ => ?_
    refine State.refused_or_nextCheck (s.unlocked_iff p) hexec fun hexec _ => ?_
    refine State.refused_or_nextCheck (State.labelMatches_iff hf label) hexec fun hexec _ => ?_
    exact hexec.trans (congrArg Host.Outcome.next (State.acceptMerge_cons hf h.fresh))

end Sys2Proof.Machine
end

section
/-! SUPPORT. The requests of the Commit Unit: the checks of COMMIT in their order, the run check and the link check (R52 to R55). -/

namespace Sys2Proof.Machine

-- one proof after another, as in the tests: side by side they ask for more threads than the memory limit allows
set_option Elab.async false

open Sys2Proof

/-! ### A walk in ascending id order

The run check and the link check report the id of the first entry that a test finds; the entries stand in ascending id order (R1). -/

theorem findId_eq_some {es : List Entry} {test : Entry → Bool} {id : Nat}
    (h : (es.find? test).map (fun e => e.defn.id) = some id) : ∃ e ∈ es, e.defn.id = id ∧ test e = true := by
  obtain ⟨e, he, hid⟩ := Option.map_eq_some_iff.mp h
  exact ⟨e, List.mem_of_find?_eq_some he, hid, List.find?_some he⟩

theorem findId_eq_none_iff {es : List Entry} {test : Entry → Bool} :
    (es.find? test).map (fun e => e.defn.id) = none ↔ ∀ e ∈ es, ¬ test e = true := by
  rw [Option.map_eq_none_iff, List.find?_eq_none]

/-- No entry with a lower id passes the test: what stands behind the found entry has a higher id. -/
theorem findId_lowest {es : List Entry} {test : Entry → Bool} {id : Nat}
    (hasc : (es.map (fun e => e.defn.id)).Pairwise (· < ·))
    (h : (es.find? test).map (fun e => e.defn.id) = some id) : ∀ e ∈ es, e.defn.id < id → ¬ test e = true := by
  obtain ⟨x, hx, rfl⟩ := Option.map_eq_some_iff.mp h
  obtain ⟨-, before, behind, rfl, hbefore⟩ := List.find?_eq_some_iff_append.mp hx
  rw [List.pairwise_map, List.pairwise_append, List.pairwise_cons] at hasc
  obtain ⟨-, ⟨hbehind, -⟩, -⟩ := hasc
  intro e he hlt
  rcases List.mem_append.mp he with hin | hin
  · simpa using hbefore e hin
  · rcases List.mem_cons.mp hin with rfl | hin
    · exact absurd hlt (lt_irrefl _)
    · exact absurd (hbehind e hin) (lt_asymm hlt)

/-! ### What the two checks ask of an entry -/

theorem State.recorded_iff (s : State) (id : Nat) :
    s.recorded id = true ↔ ∃ f fs, s.stack.frames = f :: fs ∧ ∃ u ∈ f.undo, u.id = id := by
  unfold State.recorded
  cases s.stack.frames with
  | nil => simp
  | cons f fs => simp

theorem Entry.staged_iff (e : Entry) : e.staged = true ↔ e.working ≠ e.committed := by
  rw [Entry.staged, bne_iff_ne]

theorem State.inCheckSet_iff (s : State) (e : Entry) : s.inCheckSet e = true ↔
    s.recorded e.defn.id = true ∨ (e.defn.link ≠ 0 ∧ s.recorded e.defn.link = true) := by
  simp [State.inCheckSet]

theorem Value.atMost_eq_false_iff (v w : Value) : v.atMost w = false ↔ ∃ a b, v = .num a ∧ w = .num b ∧ b < a := by
  cases v with
  | text bytes => simp [Value.atMost]
  | num a => cases w <;> simp [Value.atMost]

/-- A link fails only against an entry that exists, and only between numbers (R4). -/
theorem linkSatisfied_eq_false_iff (es : List Entry) (view : Entry → Value) (d : Definition) (v : Value) :
    linkSatisfied es view d v = false ↔
      d.link ≠ 0 ∧ ∃ t a b, findEntry es d.link = some t ∧ v = .num a ∧ view t = .num b ∧ b < a := by
  unfold linkSatisfied
  split
  · rename_i hlink
    simp [hlink]
  · rename_i hlink
    cases findEntry es d.link with
    | none => simp
    | some t => simp [Value.atMost_eq_false_iff, hlink]

/-! ### The run check (R53) -/

/-- The entry stops the run check: changed in frame 1 and stop-only. -/
theorem State.stopsRunCheck_iff (s : State) (e : Entry) :
    (s.recorded e.defn.id && e.defn.stopOnly && e.staged) = true ↔
      s.recorded e.defn.id = true ∧ e.defn.stopOnly = true ∧ e.working ≠ e.committed := by
  rw [Bool.and_eq_true, Bool.and_eq_true, Entry.staged_iff, and_assoc]

theorem State.runFailure_deasserted (s : State) : s.runFailure false = none := rfl

theorem State.runFailure_asserted (s : State) : s.runFailure true =
    (s.catalog.entries.find? (fun e => s.recorded e.defn.id && e.defn.stopOnly && e.staged)).map (fun e => e.defn.id) := rfl

/-- Settles O31: R53 with the pin deasserted, at the entry found, at those below it, and where none is found. -/
theorem runCheckGuardsStopOnlyEntries : Obligations.RunCheckGuardsStopOnlyEntries := by
  intro s
  rw [s.runFailure_asserted]
  refine ⟨s.runFailure_deasserted, fun id h => ?found, fun hasc id h e he hlt hstop hrec => ?lower, fun h e he hstop hrec => ?passes⟩
  case found =>
    obtain ⟨e, he, hid, htest⟩ := findId_eq_some h
    obtain ⟨hrec, hstop, hdiff⟩ := (s.stopsRunCheck_iff e).mp htest
    exact ⟨e, he, hid, hstop, hdiff, hid ▸ (s.recorded_iff _).mp hrec⟩
  case lower =>
    have htest := findId_lowest hasc h e he hlt
    exact of_not_not fun hdiff => htest ((s.stopsRunCheck_iff e).mpr ⟨hrec, hstop, hdiff⟩)
  case passes =>
    have htest := findId_eq_none_iff.mp h e he
    exact of_not_not fun hdiff => htest ((s.stopsRunCheck_iff e).mpr ⟨hrec, hstop, hdiff⟩)

/-! ### The link check (R54) -/

/-- The entry fails the link check: in the check set, and its working value above that of the entry it links to. -/
theorem State.failsLinkCheck_iff (s : State) (e : Entry) :
    (s.inCheckSet e && !linkSatisfied s.catalog.entries Entry.working e.defn e.working) = true ↔
      (s.recorded e.defn.id = true ∨ (e.defn.link ≠ 0 ∧ s.recorded e.defn.link = true)) ∧
      e.defn.link ≠ 0 ∧ ∃ t a b, findEntry s.catalog.entries e.defn.link = some t ∧
        e.working = .num a ∧ t.working = .num b ∧ b < a := by
  rw [Bool.and_eq_true, Bool.not_eq_true', State.inCheckSet_iff, linkSatisfied_eq_false_iff]

/-! ### The checks of COMMIT in order (R52) -/

/-- The arrival of the request itself changes nothing that the checks ask for. -/
theorem State.commitCheck_admitted (s : State) (p : Port) (q k : Byte) (run : Bool) :
    (s.admitted p q k).commitCheck p run = s.commitCheck p run := by
  cases p <;> rfl

/-- A COMMIT that reaches its own checks: the first that fails refuses it with its code and id, and one that passes all is accepted. -/
theorem exec_commit_reaches {p : Port} {q : Byte} {s : State} (run : Bool) (h : s.Reaches p q kCommit) :
    exec (.commit p q [] run) s = .next ((s.commitCheck p run).elim ((s.admitted p q kCommit).acceptCommit p q run)
      (fun c => s.refused p q kCommit c.1 c.2)) := by
  refine congrArg Host.Outcome.next ((State.request_reaches _ h readEmpty_nil).trans ?_)
  rw [State.commitCheck_admitted]
  cases s.commitCheck p run with
  | none => rfl
  | some c => exact State.refuse_admitted c.1 c.2 h.fresh

theorem exec_commit_refused {p : Port} {q : Byte} {run : Bool} {s : State} {c : RefuseCode} {id : Nat}
    (h : s.Reaches p q kCommit) (hfail : s.commitCheck p run = some (c, id)) :
    exec (.commit p q [] run) s = .next (s.refused p q kCommit c id) := by
  rw [exec_commit_reaches run h, hfail]
  rfl

section
variable {s : State} {p : Port} {run : Bool}

theorem State.commitCheck_wrongState (hstate : s.catalog.state ≠ .sealed) : s.commitCheck p run = some (.wrongState, 0) := by
  simp [State.commitCheck, firstFail, hstate]

theorem State.commitCheck_notOwner (hstate : s.catalog.state = .sealed) (howner : s.stack.owner ≠ some p) :
    s.commitCheck p run = some (.notOwner, 0) := by
  simp [State.commitCheck, firstFail, State.owns, hstate, howner]

theorem State.commitCheck_nestedOpen (hstate : s.catalog.state = .sealed) (howner : s.stack.owner = some p)
    (hdepth : s.stack.frames.length ≠ 1) : s.commitCheck p run = some (.nestedOpen, 0) := by
  simp [State.commitCheck, firstFail, State.owns, State.depth, hstate, howner, hdepth]

variable (hstate : s.catalog.state = .sealed) (howner : s.stack.owner = some p) (hdepth : s.stack.frames.length = 1)
include hstate howner hdepth

theorem State.commitCheck_commitPending (hcommit : s.commit ≠ none) : s.commitCheck p run = some (.commitPending, 0) := by
  simp [State.commitCheck, firstFail, State.owns, State.depth, hstate, howner, hdepth, hcommit]

theorem State.commitCheck_bulkActive (hcommit : s.commit = none) (hbulk : (s.port p).bulk.active = true) :
    s.commitCheck p run = some (.bulkActive, 0) := by
  simp [State.commitCheck, firstFail, State.owns, State.depth, hstate, howner, hdepth, hcommit, hbulk]

/-- Past checks 1 to 5 the run check decides, then the link check, the supply and the store. -/
theorem State.commitCheck_fromRun (hcommit : s.commit = none) (hbulk : (s.port p).bulk.active = false) : s.commitCheck p run =
    ((s.runFailure run).map (fun id => (RefuseCode.runActive, id))).or
      (((s.linkFailure).map (fun id => (RefuseCode.linkViolation, id))).or
        (if s.ctl.supply = .warn then some (.supplyLow, 0)
        else if s.store.mode = .readOnly ∨ 4294967295 ≤ s.store.durable then some (.storeReadOnly, 0)
        else none)) := by
  simp only [State.commitCheck, firstFail, State.owns, State.depth, hstate, howner, hdepth, hcommit, hbulk, beq_self_eq_true,
    Option.isNone_none, Bool.not_false, if_true]
  cases s.runFailure run with
  | some id => rfl
  | none => cases s.linkFailure <;> rfl

end

/-- Settles O30: R52 check by check, each with its id, and R54 at the entry found, at those below it, and where none is found. -/
theorem refusedCommitChangesNothing : Obligations.RefusedCommitChangesNothing := by
  refine ⟨fun p q run s h => ⟨fun hstate => ?wrongState, fun hstate howner => ?notOwner, fun hstate howner hdepth => ?nestedOpen,
    fun hstate howner hdepth hcommit => ?commitPending, fun hstate howner hdepth hcommit => ⟨fun hbulk => ?bulkActive,
      fun hbulk => ?fromRun⟩⟩, fun s => ?link⟩
  case wrongState => exact exec_commit_refused h (State.commitCheck_wrongState hstate)
  case notOwner => exact exec_commit_refused h (State.commitCheck_notOwner hstate howner)
  case nestedOpen => exact exec_commit_refused h (State.commitCheck_nestedOpen hstate howner hdepth)
  case commitPending => exact exec_commit_refused h (State.commitCheck_commitPending hstate howner hdepth hcommit)
  case bulkActive => exact exec_commit_refused h (State.commitCheck_bulkActive hstate howner hdepth hcommit hbulk)
  case fromRun =>
    have hcheck := State.commitCheck_fromRun (run := run) hstate howner hdepth hcommit hbulk
    refine ⟨fun id hrun => exec_commit_refused h ?_, fun hrun => ⟨fun id hlink => exec_commit_refused h ?_,
      fun hlink => ⟨fun hwarn => exec_commit_refused h ?_, fun hnormal hstore => exec_commit_refused h ?_⟩⟩⟩
    · rw [hcheck, hrun]; rfl
    · rw [hcheck, hrun, hlink]; rfl
    · rw [hcheck, hrun, hlink, if_pos hwarn]; rfl
    · rw [hcheck, hrun, hlink, hnormal, if_neg (by decide), if_pos hstore]; rfl
  case link =>
    rw [State.linkFailure]
    simp only [← State.recorded_iff]
    refine ⟨fun id h => ?_, fun hasc id h e he hlt hset hfails => ?_, fun h e he hset hfails => ?_⟩
    · obtain ⟨e, he, hid, htest⟩ := findId_eq_some h
      exact ⟨e, he, hid, (s.failsLinkCheck_iff e).mp htest⟩
    · exact findId_lowest hasc h e he hlt ((s.failsLinkCheck_iff e).mpr ⟨hset, hfails⟩)
    · exact findId_eq_none_iff.mp h e he ((s.failsLinkCheck_iff e).mpr ⟨hset, hfails⟩)

end Sys2Proof.Machine
end

section
/-! SUPPORT. Bulk transfers: the acceptance of BULK_READ and BULK_WRITE, BULK_ABORT, HOLD and GO, and the end of a bulk write by its last
block (R127 to R149). -/

namespace Sys2Proof.Machine

-- one proof after another, as in the tests: side by side they ask for more threads than the memory limit allows
set_option Elab.async false

open Sys2Proof

/-! ### HOLD and GO (R132) -/

/-- A stream message at a port that receives goes to the Bulk Engine after the lease has restarted (R71, R167). -/
theorem State.streamMessage_receives {s : State} {p : Port} (h : s.receives p = true) (next : State → State) :
    s.streamMessage p next = next (s.restartLease p) := by
  rw [State.streamMessage, if_pos h]

theorem exec_hold_receives {s : State} {p : Port} (h : s.receives p = true) :
    exec (.hold p) s = .next ((s.restartLease p).takeHold p) :=
  congrArg Host.Outcome.next (State.streamMessage_receives h _)

theorem exec_go_receives {s : State} {p : Port} (h : s.receives p = true) :
    exec (.go p) s = .next ((s.restartLease p).takeGo p) :=
  congrArg Host.Outcome.next (State.streamMessage_receives h _)

theorem State.bulk_restartLease (s : State) (p : Port) : ((s.restartLease p).port p).bulk = (s.port p).bulk := by
  rw [State.restartLease, State.port_modPort_self]

section
variable {s : State} {p : Port}

theorem State.takeHold_reading {r : ReadCtx} (h : (s.port p).bulk = .reading r) : s.takeHold p = s.setBulk p (.paused r) := by
  rw [State.takeHold, h]

theorem State.takeGo_paused {r : ReadCtx} (h : (s.port p).bulk = .paused r) : s.takeGo p = s.setBulk p (.reading r) := by
  rw [State.takeGo, h]

theorem State.takeHold_idle (h : (s.port p).bulk = .idle) : s.takeHold p = s.stray p := by
  rw [State.takeHold, h]

theorem State.takeGo_idle (h : (s.port p).bulk = .idle) : s.takeGo p = s.stray p := by
  rw [State.takeGo, h]

/-- A HOLD has no effect on a context that is neither READING nor IDLE. -/
theorem State.takeHold_elsewhere (hread : ∀ r, (s.port p).bulk ≠ .reading r) (hidle : (s.port p).bulk ≠ .idle) :
    s.takeHold p = s := by
  rw [State.takeHold]
  cases hb : (s.port p).bulk with
  | reading r => exact absurd hb (hread r)
  | idle => exact absurd hb hidle
  | paused _ | writing _ | closing _ => rfl

/-- A GO has no effect on a context that is neither PAUSED nor IDLE. -/
theorem State.takeGo_elsewhere (hpaused : ∀ r, (s.port p).bulk ≠ .paused r) (hidle : (s.port p).bulk ≠ .idle) :
    s.takeGo p = s := by
  rw [State.takeGo]
  cases hb : (s.port p).bulk with
  | paused r => exact absurd hb (hpaused r)
  | idle => exact absurd hb hidle
  | reading _ | writing _ | closing _ => rfl

end

/-- Settles O44: R132 at each state of the context, and R149 where it is IDLE. -/
theorem holdPausesAndGoResumes : Obligations.HoldPausesAndGoResumes := by
  intro p s hr
  rw [exec_hold_receives hr, exec_go_receives hr]
  simp only [← s.bulk_restartLease p]
  refine ⟨fun r h => ⟨?_, ?_⟩, fun r h => ⟨?_, ?_⟩, fun h => ⟨?_, ?_⟩, fun h => ⟨?_, ?_⟩⟩
  · rw [State.takeHold_reading h]; rfl
  · rw [State.takeGo_elsewhere (by simp [h]) (by simp [h])]
  · rw [State.takeGo_paused h]; rfl
  · rw [State.takeHold_elsewhere (by simp [h]) (by simp [h])]
  · rw [State.takeHold_idle h]; rfl
  · rw [State.takeGo_idle h, State.takeHold_idle h]
  · rw [State.takeHold_elsewhere] <;> rcases h with ⟨w, h⟩ | ⟨d, h⟩ <;> simp [h]
  · rw [State.takeGo_elsewhere] <;> rcases h with ⟨w, h⟩ | ⟨d, h⟩ <;> simp [h]

/-! ### The context beside the other effects of a request

A transfer's context and its last outcome record are fields that no answer, lease or notice touches, so that they commute with these. -/

theorem BulkCtx.isIdle_iff (c : BulkCtx) : c.isIdle = true ↔ ¬ c ≠ .idle := by
  cases c <;> simp [BulkCtx.isIdle]

@[simp] theorem State.bulk_admitted (s : State) (p : Port) (q k : Byte) : ((s.admitted p q k).port p).bulk = (s.port p).bulk := by
  rw [State.admitted_port, PortState.admitted]

theorem PortState.answer_setTransfer (x : PortState) (c : BulkCtx) (d : Option DoneRec) (q : Byte) (b : Body) (keep : Bool) :
    ({ x with bulk := c, lastDone := d } : PortState).answer q b keep = { x.answer q b keep with bulk := c, lastDone := d } := by
  unfold PortState.answer
  dsimp only
  cases x.outstanding.find? (fun o => o.seq == q) <;> rfl

theorem State.reply_openBulk (s : State) (p : Port) (c : BulkCtx) (q kind : Byte) (r : Reply) :
    (s.openBulk p c).reply p q kind r = (s.reply p q kind r).openBulk p c := by
  unfold State.reply State.openBulk
  rw [State.modPort_modPort, State.modPort_modPort]
  simp only [PortState.answer_setTransfer]

theorem State.reply_closeBulk (s : State) (p : Port) (d : DoneRec) (q kind : Byte) (r : Reply) :
    (s.closeBulk p d).reply p q kind r = (s.reply p q kind r).closeBulk p d := by
  unfold State.reply State.closeBulk
  rw [State.modPort_modPort, State.modPort_modPort]
  simp only [PortState.answer_setTransfer]

/-- A transfer that is opened and closed in one event leaves its BULK_DONE alone. -/
theorem State.closeBulk_openBulk (s : State) (p : Port) (c : BulkCtx) (d : DoneRec) :
    (s.openBulk p c).closeBulk p d = s.closeBulk p d := by
  unfold State.openBulk State.closeBulk
  rw [State.modPort_modPort]

theorem State.openBulk_setLease (s : State) (p : Port) (l : Lease) (c : BulkCtx) :
    (s.modPort p (fun x => { x with lease := l })).openBulk p c = (s.openBulk p c).modPort p (fun x => { x with lease := l }) := by
  unfold State.openBulk
  rw [State.modPort_modPort, State.modPort_modPort]

theorem State.openBulk_noticeBoth (s : State) (n : Notice) (p : Port) (c : BulkCtx) :
    (s.noticeBoth n).openBulk p c = (s.openBulk p c).noticeBoth n := by
  cases p <;> simp [State.noticeBoth, State.noticeTo, State.openBulk, State.modPort, PortState.takeNotice_eq]

theorem State.openBulk_withStack (s : State) (k : Stack) (p : Port) (c : BulkCtx) :
    ({ s with stack := k } : State).openBulk p c = { s.openBulk p c with stack := k } := by
  cases p <;> rfl

/-! ### BULK_READ (R129, R130, R133) -/

/-- The range check of R129: both ids in their bounds, in order. -/
theorem bulkRange_iff (lo hi : Nat) : decide (1 ≤ lo ∧ lo ≤ Config.idMax ∧ 1 ≤ hi ∧ lo ≤ hi) = true ↔
    ¬ (lo = 0 ∨ 65534 < lo ∨ hi = 0 ∨ hi < lo) := by
  rw [decide_eq_true_iff, Config.idMax]
  omega

theorem State.mayRead_iff (s : State) (p : Port) (v : View) : (v == .committed || s.owns p) = true ↔
    ¬ (v = .working ∧ s.stack.owner ≠ some p) := by
  cases v <;> simp [State.owns]

theorem State.noOwnCommit_iff (s : State) (p : Port) : (!s.owns p || s.commit.isNone) = true ↔
    ¬ (s.stack.owner = some p ∧ s.commit ≠ none) := by
  simp [State.owns, ← imp_iff_not_or]

theorem State.bulkReadChecks_admitted (s : State) (p : Port) (q k : Byte) (r : BulkReadReq) :
    (s.admitted p q k).bulkReadChecks p r = s.bulkReadChecks p r := by
  simp [State.bulkReadChecks]

theorem State.readCtx_admitted (s : State) (p : Port) (q k : Byte) (r : BulkReadReq) :
    (s.admitted p q k).readCtx r = s.readCtx r := by
  simp [State.readCtx, State.itemSet]

theorem exec_bulkRead_reaches {p : Port} {q : Byte} {b : List Byte} {r : BulkReadReq} {s : State} (h : s.Reaches p q kBulkRead)
    (hr : readBulkRead b = some r) : exec (.bulkRead p q b) s = .next
      ((firstFail (s.bulkReadChecks p r)).elim ((s.admitted p q kBulkRead).acceptBulkRead p q r)
        (fun c => s.refused p q kBulkRead c 0)) :=
  congrArg Host.Outcome.next (State.request_ownChecks (fun r s => s.bulkReadChecks p r)
    (fun r s => s.acceptBulkRead p q r) h hr (s.bulkReadChecks_admitted p q kBulkRead r))

/-- The REPLY of an accepted read: its items and its blocks (R130). -/
def State.bulkReadAnswered (s : State) (p : Port) (q : Byte) (r : BulkReadReq) : State :=
  s.answered p q kBulkRead (.reply kBulkRead (.bulkRead (s.itemSet r.lo r.hi).length (s.readCtx r).blocks)) true

section
variable {s : State} {p : Port} {q : Byte} {r : BulkReadReq} (hfresh : ∀ o ∈ (s.port p).outstanding, o.seq ≠ q)
include hfresh

theorem State.reply_bulkRead : ((s.admitted p q kBulkRead).openBulk p (.reading (s.readCtx r))).reply p q kBulkRead
      (.bulkRead (s.readCtx r).items.length (s.readCtx r).blocks) =
    (s.bulkReadAnswered p q r).openBulk p (.reading (s.readCtx r)) := by
  rw [State.reply_openBulk, State.reply_admitted _ hfresh]
  rfl

theorem State.acceptBulkRead_items (h : s.itemSet r.lo r.hi ≠ []) : (s.admitted p q kBulkRead).acceptBulkRead p q r =
    (s.bulkReadAnswered p q r).openBulk p (.reading (s.readCtx r)) := by
  unfold State.acceptBulkRead
  dsimp only
  rw [State.readCtx_admitted, if_neg (by exact h), State.reply_bulkRead hfresh]

/-- A read of nothing ends at once, with the durable number twice (R133). -/
theorem State.acceptBulkRead_nothing (h : s.itemSet r.lo r.hi = []) : (s.admitted p q kBulkRead).acceptBulkRead p q r =
    (s.bulkReadAnswered p q r).closeBulk p
      { kind := .read, ending := .complete, blocks := 0, items := 0, firstNumber := s.store.durable, lastNumber := s.store.durable,
        torn := false, firstError := none } := by
  unfold State.acceptBulkRead
  dsimp only
  rw [State.readCtx_admitted, if_pos (by exact h), State.reply_bulkRead hfresh, State.closeBulk_openBulk]
  simp [ReadCtx.done, State.readCtx, tornFlag]

end

/-- Settles O40: the checks of R129 in order, then R130, and R133 where the item set is empty. -/
theorem bulkReadFixesItsItemSet : Obligations.BulkReadFixesItsItemSet := by
  intro p q b r s h hr
  refine State.refused_or_nextCheck s.sealed_iff (exec_bulkRead_reaches h hr) fun hexec _ => ?_
  refine State.refused_or_nextCheck (bulkRange_iff r.lo r.hi) hexec fun hexec _ => ?_
  refine State.refused_or_nextCheck (s.port p).bulk.isIdle_iff hexec fun hexec _ => ?_
  refine State.refused_or_nextCheck (s.mayRead_iff p r.view) hexec fun hexec _ => ?_
  refine State.refused_or_nextCheck (s.noOwnCommit_iff p) hexec fun hexec _ => ?_
  exact ⟨fun hne => hexec.trans (congrArg Host.Outcome.next (State.acceptBulkRead_items h.fresh hne)),
    fun hnil => ⟨_, rfl, hexec.trans (congrArg Host.Outcome.next (State.acceptBulkRead_nothing h.fresh hnil))⟩⟩

/-! ### BULK_WRITE (R135, R136) -/

theorem bulkCount_iff (n : Nat) : decide (1 ≤ n ∧ n ≤ 256) = true ↔ ¬ (n = 0 ∨ 256 < n) := by
  rw [decide_eq_true_iff]
  omega

theorem State.bulkWriteChecks_admitted (s : State) (p : Port) (q k : Byte) (n : Nat) :
    (s.admitted p q k).bulkWriteChecks p n = s.bulkWriteChecks p n := by
  simp [State.bulkWriteChecks]

theorem exec_bulkWrite_reaches {p : Port} {q a b : Byte} {s : State} (h : s.Reaches p q kBulkWrite) :
    exec (.bulkWrite p q [a, b]) s = .next
      ((firstFail (s.bulkWriteChecks p (be16 a b))).elim ((s.admitted p q kBulkWrite).acceptBulkWrite p q (be16 a b))
        (fun c => s.refused p q kBulkWrite c 0)) :=
  congrArg Host.Outcome.next (State.request_ownChecks (fun n s => s.bulkWriteChecks p n)
    (fun n s => s.acceptBulkWrite p q n) h rfl (s.bulkWriteChecks_admitted p q kBulkWrite (be16 a b)))

/-- The REPLY of an accepted bulk write, its context opened: the blocks, 2 credits, the new depth and the free records (R136). -/
def State.bulkWriteAnswered (s : State) (p : Port) (q : Byte) (n : Nat) : State :=
  (s.answered p q kBulkWrite
    (.reply kBulkWrite (.bulkWrite (writeCtx n).blocks 2 (s.stack.frames.length + 1) s.stack.free)) true).openBulk p
      (.writing (writeCtx n))

theorem State.acceptBulkWrite_eq (s : State) (p : Port) (q : Byte) (n : Nat) : s.acceptBulkWrite p q n =
    ((s.pushFrame p none).reply p q kBulkWrite
      (.bulkWrite (writeCtx n).blocks 2 (s.stack.frames.length + 1) s.stack.free)).openBulk p (.writing (writeCtx n)) := by
  unfold State.acceptBulkWrite
  dsimp only
  rw [State.depth, State.openBulk_stack, State.free_pushFrame, State.reply_openBulk, ← State.depth, State.depth_pushFrame, State.depth]

section
variable {s : State} {p : Port} {q : Byte} (n : Nat) (hfresh : ∀ o ∈ (s.port p).outstanding, o.seq ≠ q)
include hfresh

theorem State.acceptBulkWrite_above (hf : s.stack.frames ≠ []) : (s.admitted p q kBulkWrite).acceptBulkWrite p q n =
    { s.bulkWriteAnswered p q n with stack := { s.stack with frames := { label := none, undo := [] } :: s.stack.frames } } := by
  rw [State.acceptBulkWrite_eq, State.pushFrame, if_neg (by simpa using hf), State.reply_admitted_withStack _ _ hfresh,
    State.openBulk_withStack, State.admitted_stack]
  rfl

/-- At depth 0 the bulk frame brings ownership with it (R30, R136). -/
theorem State.acceptBulkWrite_first (hf : s.stack.frames = []) : (s.admitted p q kBulkWrite).acceptBulkWrite p q n =
    (({ s.bulkWriteAnswered p q n with
        stack := { s.stack with frames := { label := none, undo := [] } :: s.stack.frames, owner := some p } } : State).modPort p
      (fun x => { x with lease := leaseOf (s.leasePeriod p) })).noticeBoth (.ownerChanged (some p)) := by
  rw [State.acceptBulkWrite_eq, State.pushFrame_first (by simpa using hf), State.reply_noticeBoth, State.reply_setLease,
    State.reply_admitted_withStack _ _ hfresh, State.openBulk_noticeBoth, State.openBulk_setLease, State.openBulk_withStack]
  simp [State.bulkWriteAnswered]

end

/-- Settles O41: the checks of R135 in order, then R136 above and at depth 0. -/
theorem bulkWriteOpensAFrame : Obligations.BulkWriteOpensAFrame := by
  intro p q a b s h
  refine State.refused_or_nextCheck s.sealed_iff (exec_bulkWrite_reaches h) fun hexec _ => ?_
  refine State.refused_or_nextCheck (bulkCount_iff (be16 a b)) hexec fun hexec _ => ?_
  refine State.refused_or_nextCheck (s.port p).bulk.isIdle_iff hexec fun hexec _ => ?_
  refine State.refused_or_nextCheck (s.notOwnedByOther_iff p) hexec fun hexec _ => ?_
  refine State.refused_or_nextCheck s.depth_lt_iff hexec fun hexec _ => ?_
  refine State.refused_or_nextCheck s.noCommit_iff hexec fun hexec _ => ?_
  exact ⟨fun hf => hexec.trans (congrArg Host.Outcome.next (State.acceptBulkWrite_above _ h.fresh hf)),
    fun hf => hexec.trans (congrArg Host.Outcome.next (State.acceptBulkWrite_first _ h.fresh hf))⟩

end Sys2Proof.Machine
end

section
/-! SUPPORT. The end of a bulk write: rolled back from outside by BULK_ABORT, and by its last block as a success or a failure (R138 to
R145). -/

namespace Sys2Proof.Machine

-- one proof after another, as in the tests: side by side they ask for more threads than the memory limit allows
set_option Elab.async false

open Sys2Proof

/-! ### A bulk frame rolled back (R143) -/

section
variable {s : State} {p : Port} {f : Frame} {fs : List Frame} (hf : s.stack.frames = f :: fs)
include hf

/-- Above level 1 a rollback reaches no port. -/
theorem State.rollbackFrame_port_above (hne : fs ≠ []) (r : Port) : s.rollbackFrame.port r = s.port r := by
  rw [State.rollbackFrame_above hf hne, State.rollbackTop_cons hf]
  cases r <;> rfl

variable (ho : s.stack.owner = some p)
include ho

/-- At level 1 the owner's lease stops and each port is told that nobody owns the stack (R31). -/
theorem State.rollbackFrame_port_last (hnil : fs = []) :
    s.rollbackFrame.port p = ({ s.port p with lease := .stopped } : PortState).takeNotice (.ownerChanged none) ∧
    s.rollbackFrame.port (otherPort p) = (s.port (otherPort p)).takeNotice (.ownerChanged none) := by
  subst hnil
  rw [State.rollbackFrame_last hf ho]
  cases p <;> exact ⟨rfl, rfl⟩

theorem State.rollbackFrame_stack : s.rollbackFrame.stack =
    { frames := fs, owner := if fs = [] then none else some p, free := s.stack.free + f.undo.length } := by
  by_cases hfs : fs = []
  · subst hfs
    rw [State.rollbackFrame_last hf ho]
    simp
  · rw [State.rollbackFrame_above hf hfs, State.rollbackTop_cons hf, if_neg hfs, ← ho]

theorem State.rollbackFrame_catalog : s.rollbackFrame.catalog =
    { s.catalog with entries := restoreAll f.undo s.catalog.entries } := by
  by_cases hfs : fs = []
  · subst hfs
    rw [State.rollbackFrame_last hf ho]
    simp
  · rw [State.rollbackFrame_above hf hfs, State.rollbackTop_cons hf]

/-- A rollback leaves the commit in flight, the store, the array and the controller. -/
theorem State.rollbackFrame_elsewhere : s.rollbackFrame.commit = s.commit ∧ s.rollbackFrame.store = s.store ∧
    s.rollbackFrame.nv = s.nv ∧ s.rollbackFrame.ctl = s.ctl := by
  by_cases hfs : fs = []
  · subst hfs
    rw [State.rollbackFrame_last hf ho]
    simp
  · rw [State.rollbackFrame_above hf hfs, State.rollbackTop_cons hf]
    exact ⟨rfl, rfl, rfl, rfl⟩

/-- A rollback leaves the owner's queue of messages and its list of requests. -/
theorem State.rollbackFrame_link : (s.rollbackFrame.port p).outbound = (s.port p).outbound ∧
    (s.rollbackFrame.port p).outstanding = (s.port p).outstanding := by
  by_cases hfs : fs = []
  · rw [(State.rollbackFrame_port_last hf ho hfs).1, PortState.takeNotice_eq]
    exact ⟨rfl, rfl⟩
  · rw [State.rollbackFrame_port_above hf hfs]
    exact ⟨rfl, rfl⟩

end

/-! ### BULK_ABORT (R145) -/

theorem exec_bulkAbort_reaches {p : Port} {q : Byte} {s : State} (h : s.Reaches p q kBulkAbort) :
    exec (.bulkAbort p q []) s = .next ((s.admitted p q kBulkAbort).ownBulkAbort p q) :=
  congrArg Host.Outcome.next (State.request_reaches (fun _ s => s.ownBulkAbort p q) h readEmpty_nil)

theorem BulkCtx.kind_eq_none_iff (c : BulkCtx) : c.kind = none ↔ c.active = false := by
  cases c <;> simp [BulkCtx.kind, BulkCtx.active]

/-- An answer to an outstanding request joins the tail of the queue (R171). -/
theorem PortState.answer_outbound {x : PortState} {q : Byte} (b : Body) (keep : Bool) (h : ∃ o ∈ x.outstanding, o.seq = q) :
    (x.answer q b keep).outbound = x.outbound ++ [{ seq := q, body := b }] := by
  obtain ⟨o, ho⟩ : ∃ o, x.outstanding.find? (fun o => o.seq == q) = some o := by
    rw [← Option.isSome_iff_exists, List.find?_isSome]
    simpa using h
  rw [PortState.answer, ho]
  rfl

theorem State.reply_port (s : State) (p : Port) (q kind : Byte) (r : Reply) :
    (s.reply p q kind r).port p = (s.port p).answer q (.reply kind r) true := State.port_modPort_self _ _ _

theorem State.closeBulk_port (s : State) (p : Port) (d : DoneRec) :
    (s.closeBulk p d).port p = { s.port p with bulk := .closing d, lastDone := some d } := State.port_modPort_self _ _ _

theorem State.closeBulk_port_other (s : State) (p : Port) (d : DoneRec) :
    (s.closeBulk p d).port (otherPort p) = s.port (otherPort p) := State.port_modPort_other _ _ _

section
variable {s : State} {p : Port} {q : Byte}

theorem State.ownBulkAbort_wrongState (h : s.catalog.state ≠ .sealed) :
    s.ownBulkAbort p q = s.refuse p q kBulkAbort .wrongState 0 := by
  rw [State.ownBulkAbort, if_neg h]

variable (hstate : s.catalog.state = .sealed)
include hstate

theorem State.ownBulkAbort_noBulk (h : (s.port p).bulk.active = false) : s.ownBulkAbort p q = s.refuse p q kBulkAbort .noBulk 0 := by
  rw [State.ownBulkAbort, if_pos hstate, (BulkCtx.kind_eq_none_iff _).mpr h]

theorem State.ownBulkAbort_read {r : ReadCtx} (h : (s.port p).bulk = .reading r ∨ (s.port p).bulk = .paused r) :
    s.ownBulkAbort p q =
      (s.reply p q kBulkAbort (.bulkAbort .read)).closeBulk p (r.done .aborted s.store.durable) := by
  rw [State.ownBulkAbort, if_pos hstate, ← State.reply_closeBulk, State.endBulk]
  rcases h with h | h <;> rw [h] <;> rfl

theorem State.ownBulkAbort_write {w : WriteCtx} (h : (s.port p).bulk = .writing w) : s.ownBulkAbort p q =
    (s.rollbackFrame.reply p q kBulkAbort (.bulkAbort .write)).closeBulk p (w.done .aborted false s.store.durable) := by
  rw [State.ownBulkAbort, if_pos hstate, ← State.reply_closeBulk, State.endBulk, h]
  rfl

end

/-- The write that a BULK_ABORT ends answers behind what its port's queue held (R145). -/
theorem State.outbound_bulkAbort {s : State} {p : Port} {q : Byte} {f : Frame} {fs : List Frame} (hf : s.stack.frames = f :: fs)
    (ho : s.stack.owner = some p) :
    (((s.admitted p q kBulkAbort).rollbackFrame.reply p q kBulkAbort (.bulkAbort .write)).port p).outbound =
      (s.port p).outbound ++ [{ seq := q, body := .reply kBulkAbort (.bulkAbort .write) }] := by
  obtain ⟨hqueue, hlist⟩ := State.rollbackFrame_link (s := s.admitted p q kBulkAbort) (p := p) (by simpa using hf) (by simpa using ho)
  rw [State.reply_port, PortState.answer_outbound, hqueue, State.admitted_port]
  · rfl
  · rw [hlist, State.admitted_port]
    exact ⟨_, List.mem_append_right _ (List.mem_singleton_self _), rfl⟩

/-- Settles O42: R145 refused, at a read, and at a write with R143. -/
theorem bulkAbortEndsTheTransfer : Obligations.BulkAbortEndsTheTransfer := by
  intro p q s h
  rw [exec_bulkAbort_reaches h]
  refine ⟨fun hstate => ?wrongState, fun hstate hidle => ?noBulk, fun hstate r hread => ?read, fun hstate w f fs hwrite hf ho => ?write⟩
  case wrongState =>
    rw [State.ownBulkAbort_wrongState (by simpa using hstate), State.refuse_admitted _ _ h.fresh]
  case noBulk =>
    rw [State.ownBulkAbort_noBulk (by simpa using hstate) (by simpa using hidle), State.refuse_admitted _ _ h.fresh]
  case read =>
    refine ⟨r.done .aborted s.store.durable, rfl, rfl, rfl, rfl, rfl, rfl, ?_, rfl, ?_⟩
    · simp [ReadCtx.done, tornFlag, bne, beq_eq_decide]
    · rw [State.ownBulkAbort_read (by simpa using hstate) (by simpa using hread), State.reply_admitted _ h.fresh, State.admitted_store]
      rfl
  case write =>
    have hf' : (s.admitted p q kBulkAbort).stack.frames = f :: fs := by simpa using hf
    have ho' : (s.admitted p q kBulkAbort).stack.owner = some p := by simpa using ho
    obtain ⟨hcommit, hstore, hnv, hctl⟩ := State.rollbackFrame_elsewhere hf' ho'
    rw [State.ownBulkAbort_write (by simpa using hstate) (by simpa using hwrite)]
    refine ⟨_, w.done .aborted false s.store.durable, rfl, rfl, ?_⟩
    rw [State.closeBulk_port, State.admitted_store]
    refine ⟨rfl, rfl, State.outbound_bulkAbort hf ho, ?_, ?_, ?_, ?_, ?_, ?_⟩
    · simp [State.rollbackFrame_stack hf' ho']
    · simp [State.rollbackFrame_catalog hf' ho']
    · simp [hcommit]
    · simp [hstore]
    · simp [hnv]
    · simp [hctl]

/-! ### The items of a block (R138 step 4, R139) -/

/-- Staging a value leaves the owner (R39). -/
theorem State.owner_stage (s : State) (id : Nat) (v : Value) : (s.stage id v).stack.owner = s.stack.owner := by
  rw [State.stage_stack]
  split
  · unfold Stack.takeRecord
    split <;> rfl
  · rfl

/-- Applying items changes the catalog and the frames only: ports, commit, store, array, controller and owner stay. -/
theorem applyItems_frame {p : Port} {blk i : Nat} {rs : List SetReq} {s s' : State} {n : Nat} {e : Option FirstError}
    (h : applyItems p blk i rs s = (s', n, e)) :
    (∃ c k, s' = { s with catalog := c, stack := k }) ∧ s'.stack.owner = s.stack.owner := by
  induction rs generalizing i s n with
  | nil =>
    cases h
    exact ⟨⟨s'.catalog, s'.stack, rfl⟩, rfl⟩
  | cons r rs ih =>
    rw [applyItems] at h
    split at h
    · cases h
      exact ⟨⟨s'.catalog, s'.stack, rfl⟩, rfl⟩
    · rename_i v _
      obtain ⟨⟩ := h
      obtain ⟨⟨c, k, heq⟩, howner⟩ := ih (s := s.stage r.id v) rfl
      exact ⟨⟨c, k, heq⟩, howner.trans (State.owner_stage s r.id v)⟩

theorem applyItems_port {p : Port} {blk i : Nat} {rs : List SetReq} {s s' : State} {n : Nat} {e : Option FirstError}
    (h : applyItems p blk i rs s = (s', n, e)) (r : Port) : s'.port r = s.port r := by
  obtain ⟨⟨c, k, rfl⟩, -⟩ := applyItems_frame h
  cases r <;> rfl

theorem applyItems_elsewhere {p : Port} {blk i : Nat} {rs : List SetReq} {s s' : State} {n : Nat} {e : Option FirstError}
    (h : applyItems p blk i rs s = (s', n, e)) :
    s'.commit = s.commit ∧ s'.store = s.store ∧ s'.nv = s.nv ∧ s'.ctl = s.ctl := by
  obtain ⟨⟨c, k, rfl⟩, -⟩ := applyItems_frame h
  exact ⟨rfl, rfl, rfl, rfl⟩

/-! ### The errors of a block (R138, R141) -/

section
variable {w : WriteCtx} {b : Block}

theorem WriteCtx.full_of_consistent {f : FullBlock} (h : w.consistent b = some f) : b.full = some f := by
  rw [WriteCtx.consistent] at h
  split at h
  · cases h
  · split at h
    · rename_i hfull _
      exact hfull.trans h
    · cases h

/-- A first error stands, whatever the block adds (R138). -/
theorem WriteCtx.blockError_earlier {e : FirstError} (h : w.firstError = some e) : w.blockError b = some e := by
  simp [WriteCtx.blockError, h, recordError]

theorem WriteCtx.blockError_order (h : w.firstError = none) (hi : b.index ≠ w.expected) :
    w.blockError b = some { error := .blockOrder, block := b.index, item := 0 } := by
  simp [WriteCtx.blockError, h, hi, recordError]

theorem WriteCtx.blockError_inconsistent (h : w.firstError = none) (hi : b.index = w.expected) (hc : w.consistent b = none) :
    w.blockError b = some { error := .transferCheck, block := b.index, item := 0 } := by
  simp [WriteCtx.blockError, h, hi, hc, recordError]

theorem WriteCtx.blockError_none {f : FullBlock} (h : w.firstError = none) (hi : b.index = w.expected) (hc : w.consistent b = some f) :
    w.blockError b = none := by
  simp [WriteCtx.blockError, h, hi, hc]

theorem WriteCtx.itemsToApply_error {e : FirstError} (h : w.blockError b = some e) : w.itemsToApply b = [] := by
  rw [WriteCtx.itemsToApply, h]

theorem WriteCtx.itemsToApply_none {f : FullBlock} (h : w.blockError b = none) (hc : w.consistent b = some f) :
    w.itemsToApply b = f.items := by
  rw [WriteCtx.itemsToApply, h, hc]

end

/-- The context after the last block of a write, the transfer check compared (R138, R141). -/
def WriteCtx.afterLast (w : WriteCtx) (b : Block) (applied : Nat) (itemError : Option FirstError) : WriteCtx :=
  (w.afterBlock b applied itemError).withTransferCheck b

section
variable {w : WriteCtx} {b : Block} {n : Nat}

/-- Comparing the check touches the first error only. -/
theorem WriteCtx.afterLast_counts (e : Option FirstError) :
    (w.afterLast b n e).received = w.received ∧ (w.afterLast b n e).applied = w.applied + n := by
  unfold WriteCtx.afterLast WriteCtx.withTransferCheck
  repeat' split
  all_goals exact ⟨rfl, rfl⟩

theorem WriteCtx.afterLast_blockError {e : FirstError} (h : w.blockError b = some e) (ie : Option FirstError) :
    (w.afterLast b n ie).firstError = some e := by
  simp [WriteCtx.afterLast, WriteCtx.withTransferCheck, WriteCtx.afterBlock, h]

theorem WriteCtx.afterLast_itemError (h : w.blockError b = none) (e : FirstError) :
    (w.afterLast b n (some e)).firstError = some e := by
  simp [WriteCtx.afterLast, WriteCtx.withTransferCheck, WriteCtx.afterBlock, h]

/-- With an error before step 4 of R138 no item is applied, and that error stays the first. -/
theorem WriteCtx.nothingApplied_of_blockError {e : FirstError} (h : w.blockError b = some e) (p : Port) (s : State) :
    applyItems p b.index 0 (w.itemsToApply b) s = (s, 0, none) ∧ (w.afterLast b 0 none).firstError = some e :=
  ⟨by rw [WriteCtx.itemsToApply_error h, applyItems], WriteCtx.afterLast_blockError h none⟩

/-- With no error before it the transfer check decides. -/
theorem WriteCtx.afterLast_check {f : FullBlock} (h : w.blockError b = none) (hfull : b.full = some f) :
    (w.afterLast b n none).firstError = if f.check = some (~~~ (crc32Update w.running b.itemBytes)) then none
      else some { error := .transferCheck, block := b.index, item := 0 } := by
  unfold WriteCtx.afterLast WriteCtx.withTransferCheck
  simp only [WriteCtx.afterBlock, h, hfull, Option.bind_some, crc32Final]
  split <;> rfl

end

/-! ### The last block (R141 to R144) -/

/-- A stack of fewer than two frames has nothing to merge. -/
theorem State.mergeTop_short {s : State} (h : s.stack.frames.length ≤ 1) : s.mergeTop = s := by
  rw [State.mergeTop]
  split
  · rename_i hf
    simp [hf] at h
  · rfl

theorem State.mergeTop_port (s : State) (r : Port) : s.mergeTop.port r = s.port r := by
  unfold State.mergeTop
  split
  · cases r <;> rfl
  · rfl

/-- A merge changes the stack only (R47). -/
theorem State.mergeTop_elsewhere (s : State) : s.mergeTop.catalog = s.catalog ∧ s.mergeTop.commit = s.commit ∧
    s.mergeTop.store = s.store ∧ s.mergeTop.nv = s.nv ∧ s.mergeTop.ctl = s.ctl := by
  unfold State.mergeTop
  split <;> exact ⟨rfl, rfl, rfl, rfl, rfl⟩

section
variable {s : State} {p : Port} {w : WriteCtx}

theorem State.finishWrite_succeeds (h : w.firstError = none) :
    s.finishWrite p w = s.mergeTop.closeBulk p (w.done .complete true s.store.durable) := by
  rw [State.finishWrite, h]
  dsimp only
  split
  · rfl
  · rename_i hdepth
    rw [State.mergeTop_short (by rw [State.depth] at hdepth; omega)]

theorem State.finishWrite_fails {e : FirstError} (h : w.firstError = some e) :
    s.finishWrite p w = s.rollbackFrame.closeBulk p (w.done .complete false s.store.durable) := by
  rw [State.finishWrite, h]

end

/-- The BULK_DONE of a write that its last block ends (R144). -/
theorem WriteCtx.done_afterLast (w : WriteCtx) (b : Block) (n : Nat) (ie : Option FirstError) (success : Bool) (durable : Nat) :
    (w.afterLast b n ie).done .complete success durable =
      { kind := .write, ending := .complete, blocks := w.received, items := if success then w.applied + n else 0,
        firstNumber := durable, lastNumber := durable, torn := false, firstError := (w.afterLast b n ie).firstError } := by
  obtain ⟨hreceived, happlied⟩ := w.afterLast_counts (b := b) (n := n) ie
  rw [WriteCtx.done, hreceived, happlied]

theorem exec_blockProcessing_writing {p : Port} {w : WriteCtx} {b : Block} {rest : List Block} {s : State}
    (hctx : (s.port p).bulk = .writing w) (hbuf : w.buffer = b :: rest) :
    exec (.blockProcessing p) s = .next (s.processBlock p w b) := by
  change execBlockProcessing p s = _
  rw [execBlockProcessing, hctx]
  dsimp only
  rw [hbuf]

section
variable {p : Port} {w : WriteCtx} {b : Block} {rest : List Block} {s s' : State} {n : Nat} {ie : Option FirstError}
  (hctx : (s.port p).bulk = .writing w) (hbuf : w.buffer = b :: rest) (hlast : b.index = w.blocks - 1)
  (happ : applyItems p b.index 0 (w.itemsToApply b) s = (s', n, ie))
include hctx hbuf hlast happ

/-- A last block in the buffer ends the write with what its items left (R138, R141). -/
theorem exec_lastBlock : exec (.blockProcessing p) s = .next (s'.finishWrite p (w.afterLast b n ie)) := by
  rw [exec_blockProcessing_writing hctx hbuf, State.processBlock, happ]
  dsimp only
  rw [if_pos (by exact hlast), WriteCtx.afterLast]

theorem exec_lastBlock_succeeds (hok : (w.afterLast b n ie).firstError = none) :
    exec (.blockProcessing p) s = .next (s'.mergeTop.closeBulk p
      { kind := .write, ending := .complete, blocks := w.received, items := w.applied + n, firstNumber := s.store.durable,
        lastNumber := s.store.durable, torn := false, firstError := none }) := by
  obtain ⟨-, hstore, -, -⟩ := applyItems_elsewhere happ
  rw [exec_lastBlock hctx hbuf hlast happ, State.finishWrite_succeeds hok, WriteCtx.done_afterLast, hok, hstore, if_pos rfl]

theorem exec_lastBlock_fails {e : FirstError} (herr : (w.afterLast b n ie).firstError = some e) :
    exec (.blockProcessing p) s = .next (s'.rollbackFrame.closeBulk p
      { kind := .write, ending := .complete, blocks := w.received, items := 0, firstNumber := s.store.durable,
        lastNumber := s.store.durable, torn := false, firstError := some e }) := by
  obtain ⟨-, hstore, -, -⟩ := applyItems_elsewhere happ
  rw [exec_lastBlock hctx hbuf hlast happ, State.finishWrite_fails herr, WriteCtx.done_afterLast, herr, hstore,
    if_neg Bool.false_ne_true]

end

/-- Settles O48: a last block without an error (R142), and one with a first error of each kind (R143), each with its BULK_DONE (R144). -/
theorem lastBlockEndsABulkWrite : Obligations.LastBlockEndsABulkWrite := by
  refine ⟨fun p w b rest f s s' n hctx hbuf hlast hnone hindex hcons happ hcheck => ?success,
    fun p w b rest s s' e x fs hctx hbuf hlast howner herror hf => ?failure⟩
  case success =>
    have hblock := WriteCtx.blockError_none hnone hindex hcons
    have hok : (w.afterLast b n none).firstError = none := by
      rw [WriteCtx.afterLast_check hblock (WriteCtx.full_of_consistent hcons), if_pos hcheck]
    rw [← WriteCtx.itemsToApply_none hblock hcons] at happ
    obtain ⟨hcatalog, hcommit, hstore, hnv, hctl⟩ := s'.mergeTop_elsewhere
    refine ⟨_, _, exec_lastBlock_succeeds hctx hbuf hlast happ hok, rfl, ?_⟩
    rw [State.closeBulk_port, State.closeBulk_port_other, State.mergeTop_port, State.mergeTop_port, State.closeBulk_catalog,
      State.closeBulk_commit, State.closeBulk_store, State.closeBulk_nv, State.closeBulk_ctl, State.closeBulk_stack]
    exact ⟨rfl, rfl, hcatalog, hcommit, hstore, hnv, hctl, fun hshort => by rw [State.mergeTop_short hshort],
      fun y z fs hf => by rw [State.mergeTop_cons hf]; rfl⟩
  case failure =>
    have hfirst : ∃ n ie, applyItems p b.index 0 (w.itemsToApply b) s = (s', n, ie) ∧ (w.afterLast b n ie).firstError = some e := by
      rcases herror with ⟨rfl, hearlier⟩ | ⟨rfl, hnone, hindex, rfl⟩ | ⟨rfl, hnone, hindex, hcons, rfl⟩ |
        ⟨hnone, hindex, f, n, hcons, hitems⟩
      · exact ⟨0, none, WriteCtx.nothingApplied_of_blockError (WriteCtx.blockError_earlier hearlier) p s'⟩
      · exact ⟨0, none, WriteCtx.nothingApplied_of_blockError (WriteCtx.blockError_order hnone hindex) p s'⟩
      · exact ⟨0, none, WriteCtx.nothingApplied_of_blockError (WriteCtx.blockError_inconsistent hnone hindex hcons) p s'⟩
      · have hblock := WriteCtx.blockError_none hnone hindex hcons
        rw [WriteCtx.itemsToApply_none hblock hcons]
        rcases hitems with happ | ⟨happ, hcheck, rfl⟩
        · exact ⟨n, some e, happ, WriteCtx.afterLast_itemError hblock e⟩
        · exact ⟨n, none, happ, by rw [WriteCtx.afterLast_check hblock (WriteCtx.full_of_consistent hcons), if_neg hcheck]⟩
    obtain ⟨n, ie, happ, herr⟩ := hfirst
    obtain ⟨hcommit, hstore, hnv, hctl⟩ := applyItems_elsewhere happ
    have ho : s'.stack.owner = some p := (applyItems_frame happ).2.trans howner
    obtain ⟨hcommit', hstore', hnv', hctl'⟩ := State.rollbackFrame_elsewhere hf ho
    refine ⟨_, _, s'.rollbackFrame.port p, exec_lastBlock_fails hctx hbuf hlast happ herr, rfl, ?_⟩
    rw [State.closeBulk_port, State.closeBulk_port_other, State.closeBulk_catalog, State.closeBulk_commit, State.closeBulk_store,
      State.closeBulk_nv, State.closeBulk_ctl, State.closeBulk_stack, ← applyItems_port happ, ← applyItems_port happ]
    exact ⟨rfl, State.rollbackFrame_port_last hf ho,
      fun hne => ⟨State.rollbackFrame_port_above hf hne p, State.rollbackFrame_port_above hf hne (otherPort p)⟩,
      State.rollbackFrame_stack hf ho, State.rollbackFrame_catalog hf ho, hcommit'.trans hcommit, hstore'.trans hstore,
      hnv'.trans hnv, hctl'.trans hctl⟩

end Sys2Proof.Machine
end

section
/-! SUPPORT. The requests of the Notice Unit: the watch filter replaced by WATCH and emptied by UNWATCH (R156 to R158). -/

namespace Sys2Proof.Machine

-- one proof after another, as in the tests: side by side they ask for more threads than the memory limit allows
set_option Elab.async false

open Sys2Proof

/-! ### What the checks of WATCH and UNWATCH ask

Each check passes exactly where the condition of its refusal does not hold. -/

theorem CatState.takesWatch_iff (c : CatState) : c.takesWatch = true ↔ ¬ (c = .sealing ∨ c = .wiping) := by
  cases c <;> simp [CatState.takesWatch]

theorem watchCount_iff (rs : List IdRange) : decide (rs.length ≤ Config.watchSize) = true ↔ ¬ 4 < rs.length := by
  rw [decide_eq_true_iff, not_lt, Config.watchSize]

theorem IdRange.legal_iff (r : IdRange) : r.legal = true ↔ ¬ (r.lo = 0 ∨ 65534 < r.lo ∨ r.hi = 0 ∨ r.hi < r.lo) :=
  bulkRange_iff r.lo r.hi

/-- The filter of a WATCH holds a range, and each range may stand (R156, R157). -/
theorem watchRanges_iff (rs : List IdRange) : (decide (1 ≤ rs.length) && rs.all IdRange.legal) = true ↔
    ¬ (rs = [] ∨ ∃ r ∈ rs, r.lo = 0 ∨ 65534 < r.lo ∨ r.hi = 0 ∨ r.hi < r.lo) := by
  have hsome : 1 ≤ rs.length ↔ rs ≠ [] := List.length_pos_iff
  have hall : rs.all IdRange.legal = true ↔ ¬ ∃ r ∈ rs, r.lo = 0 ∨ 65534 < r.lo ∨ r.hi = 0 ∨ r.hi < r.lo := by
    simp only [List.all_eq_true, IdRange.legal_iff, not_exists, not_and]
  rw [Bool.and_eq_true, decide_eq_true_iff, hsome, hall, not_or]

theorem State.watchChecks_admitted (s : State) (p : Port) (q k : Byte) (rs : List IdRange) :
    (s.admitted p q k).watchChecks rs = s.watchChecks rs := by
  rw [State.watchChecks, State.admitted_catalog, State.watchChecks]

/-! ### The filter beside the answer

The filter is a field that no answer touches, so that replacing it commutes with the REPLY. -/

theorem PortState.answer_setWatch (x : PortState) (rs : List IdRange) (q : Byte) (b : Body) (keep : Bool) :
    ({ x with watch := rs } : PortState).answer q b keep = { x.answer q b keep with watch := rs } := by
  unfold PortState.answer
  dsimp only
  cases x.outstanding.find? (fun o => o.seq == q) <;> rfl

theorem State.reply_setWatch (s : State) (p : Port) (rs : List IdRange) (q kind : Byte) (r : Reply) :
    (s.setWatch p rs).reply p q kind r = (s.reply p q kind r).setWatch p rs := by
  unfold State.reply State.setWatch
  rw [State.modPort_modPort, State.modPort_modPort]
  simp only [PortState.answer_setWatch]

/-- What an accepted WATCH or UNWATCH leaves: its REPLY and the new filter (R157, R158). -/
theorem State.reply_setWatch_admitted {s : State} {p : Port} {q kind : Byte} (rs : List IdRange) (r : Reply)
    (hfresh : ∀ o ∈ (s.port p).outstanding, o.seq ≠ q) :
    ((s.admitted p q kind).setWatch p rs).reply p q kind r =
      (s.answered p q kind (.reply kind r) true).modPort p (fun x => { x with watch := rs }) := by
  rw [State.reply_setWatch, State.reply_admitted _ hfresh, State.setWatch]

/-! ### WATCH (R157) -/

theorem exec_watch_reaches {p : Port} {q : Byte} {b : List Byte} {rs : List IdRange} {s : State} (h : s.Reaches p q kWatch)
    (hr : readWatch b = some rs) : exec (.watch p q b) s = .next
      ((firstFail (s.watchChecks rs)).elim (((s.admitted p q kWatch).setWatch p rs).reply p q kWatch (.watch rs.length))
        (fun c => s.refused p q kWatch c 0)) :=
  congrArg Host.Outcome.next (State.request_ownChecks (fun rs s => s.watchChecks rs)
    (fun rs s => (s.setWatch p rs).reply p q kWatch (.watch rs.length)) h hr (s.watchChecks_admitted p q kWatch rs))

/-! ### UNWATCH (R158) -/

/-- The own part of UNWATCH is a list of one check. -/
theorem State.ownUnwatch_eq_ownChecks (s : State) (p : Port) (q : Byte) : s.ownUnwatch p q =
    s.ownChecks p q kUnwatch [(s.catalog.state.takesWatch, .wrongState)]
      (fun s => (s.setWatch p []).reply p q kUnwatch (.unwatch 0)) := by
  rw [State.ownUnwatch]
  cases s.catalog.state.takesWatch <;> rfl

theorem exec_unwatch_reaches {p : Port} {q : Byte} {s : State} (h : s.Reaches p q kUnwatch) :
    exec (.unwatch p q []) s = .next
      ((firstFail [(s.catalog.state.takesWatch, .wrongState)]).elim
        (((s.admitted p q kUnwatch).setWatch p []).reply p q kUnwatch (.unwatch 0)) (fun c => s.refused p q kUnwatch c 0)) := by
  change execUnwatch p q [] s = _
  simp only [execUnwatch, State.ownUnwatch_eq_ownChecks]
  exact congrArg Host.Outcome.next (State.request_ownChecks (fun _ s => [(s.catalog.state.takesWatch, .wrongState)])
    (fun _ s => (s.setWatch p []).reply p q kUnwatch (.unwatch 0)) h readEmpty_nil (by rw [State.admitted_catalog]))

/-- Settles O49: the checks of R157 in order and the filter replaced, R158 likewise with the filter emptied, and R175 for both ports. -/
theorem watchReplacesTheFilter : Obligations.WatchReplacesTheFilter := by
  refine ⟨fun p q b rs s h hr => ?watch, fun p q s h => ?unwatch, fun p s => ?permitted⟩
  case watch =>
    refine State.refused_or_nextCheck s.catalog.state.takesWatch_iff (exec_watch_reaches h hr) fun hexec _ => ?_
    refine State.refused_or_nextCheck (watchCount_iff rs) hexec fun hexec _ => ?_
    refine State.refused_or_nextCheck (watchRanges_iff rs) hexec fun hexec _ => ?_
    exact hexec.trans (congrArg Host.Outcome.next (State.reply_setWatch_admitted rs _ h.fresh))
  case unwatch =>
    refine State.refused_or_nextCheck s.catalog.state.takesWatch_iff (exec_unwatch_reaches h) fun hexec _ => ?_
    exact hexec.trans (congrArg Host.Outcome.next (State.reply_setWatch_admitted [] _ h.fresh))
  case permitted =>
    cases p <;> exact ⟨rfl, rfl⟩

end Sys2Proof.Machine
end

section
/-! SUPPORT. Two early ends of a request in the common check order: an absorbed duplicate (R168) and the port permission step, Table 9.2
(R175). -/

namespace Sys2Proof.Machine

-- one proof after another, as in the tests: side by side they ask for more threads than the memory limit allows
set_option Elab.async false

open Sys2Proof

/-! ### Absorbed duplicates (R168) -/

/-- The seq alone decides: neither the kind, nor the cache, nor the room is looked at (R168). -/
theorem PortState.admission_absorbed {x : PortState} {q : Byte} (k : Byte) (h : ∃ o ∈ x.outstanding, o.seq = q) :
    x.admission q k = .absorbed := by
  have hany : x.outstanding.any (fun o => o.seq == q) = true := by simpa using h
  rw [PortState.admission, if_pos hany]

theorem State.takeRequest_absorbed {s : State} {p : Port} {q kind : Byte} (next : State → State) (hr : s.receives p = true)
    (ha : (s.port p).admission q kind = .absorbed) :
    s.takeRequest p q kind next = (s.restartLease p).counting p (fun c => { c with duplicates := bump c.duplicates }) := by
  simp only [State.takeRequest, hr, if_true, PortState.admission_restart, ha]

/-- Settles O5: every request enters by the common check order, which absorbs the duplicate whatever would follow an admission. -/
theorem duplicateRequestIsAbsorbed : Obligations.DuplicateRequestIsAbsorbed := by
  intro c p q k s hc hr hdup
  obtain ⟨next, hexec⟩ := exec_request c p q k hc s
  rw [hexec, State.takeRequest_absorbed next hr (PortState.admission_absorbed k hdup), State.counting, State.restartLease,
    State.modPort_modPort]

/-! ### A request of a known kind -/

/-- A command whose kind names a request is that request, with fields exactly where its payload is well formed (R182, R183). -/
theorem exec_namedRequest (c : Instr) (p : Port) (q k : Byte) (h : requestOf c = some (p, q, k)) (hk : kindNamed c = true) (s : State) :
    ∃ (α : Type) (fields : Option α) (own : α → State → State),
      exec c s = .next (s.request p q k fields own) ∧ fields.isSome = payloadReads c := by
  cases c <;> simp only [requestOf, Option.some.injEq, Prod.mk.injEq, reduceCtorEq] at h <;> obtain ⟨rfl, rfl, rfl⟩ := h
  case unknownKind => cases hk
  all_goals exact ⟨_, _, _, rfl, rfl⟩

/-- A readable request that its port may not make is refused with NOT_PERMITTED (R182 step 7). -/
theorem State.request_notPermitted {α : Type} {s : State} {p : Port} {q kind : Byte} {fields : Option α} (own : α → State → State)
    (hr : s.receives p = true) (ha : (s.port p).admission q kind = .admitted) (hf : fields.isSome = true) (hy : s.ready = true)
    (hp : s.permits p kind = false) : s.request p q kind fields own = s.refused p q kind .notPermitted 0 := by
  obtain ⟨a, rfl⟩ := Option.isSome_iff_exists.mp hf
  simp only [State.request, State.takeRequest_admitted _ hr ha, State.checkRequest, State.ready_admitted, hy, if_true,
    State.permits_admitted, hp, Bool.false_eq_true, if_false]
  exact State.refuse_admitted _ _ (PortState.admission_admitted_fresh ha)

theorem State.ready_iff (s : State) : s.ready = true ↔ s.ctl.start = .ready := beq_iff_eq

/-! ### Table 9.2 (R175)

Each class of requests has its row: those of port A alone, those of TUNE and FULL, and those of every mode. -/

theorem State.permits_B_host {k : Byte} (s : State) (h : k ∈ hostKinds) : s.permits .B k = false := if_pos h

theorem stagingKinds_not_host : ∀ k ∈ stagingKinds, k ∉ hostKinds := by decide

theorem State.permits_B_staging {k : Byte} (s : State) (h : k ∈ stagingKinds) : s.permits .B k = (s.modeInForce != .observe) := by
  rw [State.permits, if_neg (stagingKinds_not_host k h), if_pos h]

/-- OBSERVE acts outside SEALED, and in SEALED where the setup record names it (R175). -/
theorem State.modeInForce_eq_observe_iff (s : State) :
    s.modeInForce = .observe ↔ s.catalog.state ≠ .sealed ∨ s.catalog.setup.mode = .observe := by
  unfold State.modeInForce
  split <;> simp [*]

theorem State.permits_B_staging_iff {k : Byte} (s : State) (h : k ∈ stagingKinds) :
    s.permits .B k = true ↔ s.catalog.state = .sealed ∧ s.catalog.setup.mode ≠ .observe := by
  rw [s.permits_B_staging h, bne_iff_ne, Ne, s.modeInForce_eq_observe_iff, not_or, not_not]

/-- The requests port B may make in every mode (Table 9.2). -/
def openKinds : List Byte := [kDescribe, kStatus, kLinkReset, kGet, kBulkRead, kBulkAbort, kWatch, kUnwatch]

theorem openKinds_not_limited : ∀ k ∈ openKinds, k ∉ hostKinds ∧ k ∉ stagingKinds := by decide

theorem State.permits_B_open {k : Byte} (s : State) (h : k ∈ openKinds) : s.permits .B k = true := by
  obtain ⟨hhost, hstaging⟩ := openKinds_not_limited k h
  rw [State.permits, if_neg hhost, if_neg hstaging]

/-- Settles O8: the rows of Table 9.2 give what the permission step answers, and R182 what follows from it. -/
theorem portBRequestsAreLimited : Obligations.PortBRequestsAreLimited := by
  refine ⟨fun _ _ => rfl, fun c q k s hc hkind hreads hr ha hstart => ?_⟩
  have hready : s.ready = true := s.ready_iff.mpr hstart
  refine ⟨fun hlimited => ?refused, fun hallowed => ?passes⟩
  case refused =>
    have hforbidden : s.permits .B k = false := by
      rcases hlimited with hhost | ⟨hstaging, hobserve⟩
      · exact s.permits_B_host hhost
      · rw [s.permits_B_staging hstaging, s.modeInForce_eq_observe_iff.mpr hobserve, bne_self_eq_false]
    obtain ⟨α, fields, own, hexec, hfields⟩ := exec_namedRequest c .B q k hc hkind s
    rw [hexec, State.request_notPermitted own hr ha (hfields.trans hreads) hready hforbidden]
  case passes =>
    have hpermitted : s.permits .B k = true := by
      rcases hallowed with hopen | ⟨hstaging, hacts⟩
      · exact s.permits_B_open hopen
      · exact (s.permits_B_staging_iff hstaging).mpr hacts
    exact ⟨hr, ha, hready, hpermitted⟩

end Sys2Proof.Machine
end

section
/-! SUPPORT. What every command keeps, whatever the state: the queue of waiting commands, the id order of the entries, the undo pool, the
bounds of the stack, and the bounds of both ports' notice queues and links (R1, R24, R28, R150 to R154, R168 to R172). -/

namespace Sys2Proof.Machine

-- one proof after another, as in the tests: side by side they ask for more threads than the memory limit allows
set_option Elab.async false

open Sys2Proof

/-! ### The entries: no operation but DEFINE, WIPE and the scan changes the definitions -/

theorem map_defn_of_defn_eq {f : Entry → Entry} (h : ∀ e, (f e).defn = e.defn) (es : List Entry) :
    (es.map f).map (fun e => e.defn) = es.map (fun e => e.defn) := by
  rw [List.map_map]
  exact List.map_congr_left fun e _ => h e

theorem restoreAll_defns (us : List Undo) (es : List Entry) :
    (restoreAll us es).map (fun e => e.defn) = es.map (fun e => e.defn) := by
  rw [restoreAll_eq_map]
  exact map_defn_of_defn_eq (Entry.restored_defn us) es

theorem restoreFrames_defns (fs : List Frame) (es : List Entry) :
    (restoreFrames fs es).map (fun e => e.defn) = es.map (fun e => e.defn) := by
  induction fs generalizing es with
  | nil => rfl
  | cons f fs ih => rw [restoreFrames, ih, restoreAll_defns]

theorem applyCommit_defns (es : List Entry) (cs : List Change) :
    (applyCommit es cs).map (fun e => e.defn) = es.map (fun e => e.defn) := by
  unfold applyCommit
  exact map_defn_of_defn_eq (fun e => by split <;> rfl) es

theorem applyChanges_defns (es : List Entry) (cs : List Change) :
    (applyChanges es cs).map (fun e => e.defn) = es.map (fun e => e.defn) := by
  unfold applyChanges
  exact map_defn_of_defn_eq (fun e => by split <;> rfl) es

theorem atDefaults_defns (es : List Entry) : (atDefaults es).map (fun e => e.defn) = es.map (fun e => e.defn) := by
  rw [atDefaults, List.map_map]
  rfl

/-- A fault of the walk changes no entry (R114). -/
theorem faultAt_entries (c : Cursor) (n : Nat) (torn : Bool) (w : Walk) : (faultAt c n torn w).1.entries = w.entries := by
  unfold faultAt
  dsimp only
  split <;> rfl

theorem walkStep_defns (c : Cursor) (w : Walk) :
    (walkStep c w).1.entries.map (fun e => e.defn) = w.entries.map (fun e => e.defn) := by
  unfold walkStep
  split
  · rfl
  · rfl
  · split
    · split
      · exact applyChanges_defns _ _
      · rw [faultAt_entries]
    · split
      · rfl
      · rw [faultAt_entries]
    · rw [faultAt_entries]
    · rw [faultAt_entries]

theorem walk_defns (n : Nat) (c : Cursor) (w : Walk) :
    (walk n c w).entries.map (fun e => e.defn) = w.entries.map (fun e => e.defn) := by
  induction n generalizing c w with
  | zero => rfl
  | succ n ih =>
    have hstep := walkStep_defns c w
    unfold walk
    split
    · rename_i h
      rwa [h] at hstep
    · rename_i h
      rw [ih]
      rwa [h] at hstep

/-- Replay changes no definition (R116). -/
theorem replay_defns (nv : NonVol) (es : List Entry) :
    (replay nv es).entries.map (fun e => e.defn) = es.map (fun e => e.defn) := by
  unfold replay
  dsimp only
  split
  · exact atDefaults_defns es
  · rw [walk_defns, applyChanges_defns, atDefaults_defns]

/-- The entries stand in ascending id order (R1). -/
def IdsOrdered (es : List Entry) : Prop := (es.map (fun e => e.defn.id)).Pairwise (· < ·)

theorem idsOrdered_of_defns {es fs : List Entry} (h : fs.map (fun e => e.defn) = es.map (fun e => e.defn)) :
    IdsOrdered es → IdsOrdered fs := by
  have hids := congrArg (List.map Definition.id) h
  rw [List.map_map, List.map_map] at hids
  unfold IdsOrdered
  exact fun ho => hids ▸ ho

theorem mem_insertEntry {e y : Entry} {es : List Entry} (h : y ∈ insertEntry e es) : y = e ∨ y ∈ es := by
  induction es with
  | nil => exact Or.inl (by simpa [insertEntry] using h)
  | cons x xs ih =>
    unfold insertEntry at h
    split at h
    · exact List.mem_cons.mp h
    · split at h
      · exact Or.inr h
      · rcases List.mem_cons.mp h with rfl | h
        · exact Or.inr List.mem_cons_self
        · exact (ih h).imp_right (List.mem_cons_of_mem x)

theorem insertEntry_idsOrdered (e : Entry) {es : List Entry} (h : IdsOrdered es) : IdsOrdered (insertEntry e es) := by
  unfold IdsOrdered at h ⊢
  rw [List.pairwise_map] at h ⊢
  induction es with
  | nil => exact List.pairwise_singleton _ _
  | cons x xs ih =>
    obtain ⟨hx, hxs⟩ := List.pairwise_cons.mp h
    unfold insertEntry
    split
    · rename_i hlt
      refine List.pairwise_cons.mpr ⟨fun y hy => ?_, h⟩
      rcases List.mem_cons.mp hy with rfl | hy
      · exact hlt
      · exact hlt.trans (hx y hy)
    · split
      · exact h
      · refine List.pairwise_cons.mpr ⟨fun y hy => ?_, ih hxs⟩
        rcases mem_insertEntry hy with rfl | hy
        · omega
        · exact hx y hy

/-- The entries of a catalog that the scan loads stand in id order, whatever the order of the definitions in the area (R1, R110). -/
theorem Catalog.loaded_idsOrdered (a : AreaRead) : IdsOrdered (Catalog.loaded a).entries := by
  suffices h : ∀ (ds : List Definition) (es : List Entry), IdsOrdered es →
      IdsOrdered (ds.foldl (fun es d => insertEntry { defn := d, live := none } es) es) from h _ _ List.Pairwise.nil
  intro ds
  induction ds with
  | nil => exact fun es h => h
  | cons d ds ih => exact fun es h => ih _ (insertEntry_idsOrdered _ h)

/-! ### A port: its notice queue and its link -/

/-- What every operation on a port keeps. -/
structure PortState.Keeps (x y : PortState) : Prop where
  notices : x.NoticesBounded → y.NoticesBounded
  link : x.LinkBounded → y.LinkBounded

theorem PortState.Keeps.refl (x : PortState) : x.Keeps x := ⟨id, id⟩

theorem PortState.Keeps.trans {x y z : PortState} (h : x.Keeps y) (k : y.Keeps z) : x.Keeps z :=
  ⟨k.notices ∘ h.notices, k.link ∘ h.link⟩

/-- An operation that touches neither the notice queue nor what the link counts. -/
theorem PortState.Keeps.of_eq {x y : PortState} (hn : y.notices = x.notices) (hl : y.lost = x.lost) (hob : y.outbound = x.outbound)
    (hos : y.outstanding = x.outstanding) (hc : y.cache = x.cache) : x.Keeps y := by
  constructor
  · simp only [PortState.NoticesBounded, PortState.markers, hn, hl]; exact id
  · simp only [PortState.LinkBounded, hob, hos, hc]; exact id

theorem PortState.keeps_reset (x : PortState) : x.Keeps .reset := by
  constructor <;> intro _ <;> decide

theorem Notice.isLost_bumped (n : Notice) : n.bumped.isLost = n.isLost := by cases n <;> rfl

theorem length_filter_isLost_bumped (ns : List Notice) :
    ((ns.map Notice.bumped).filter Notice.isLost).length = (ns.filter Notice.isLost).length := by
  rw [List.filter_map, List.length_map]
  congr 2
  funext n
  exact n.isLost_bumped

/-- A notice other than a LOST marker joins the tail, or is counted at the marker or in the lost count (R152, R153). -/
theorem PortState.keeps_takeNotice (x : PortState) {n : Notice} (hn : n.isLost = false) : x.Keeps (x.takeNotice n) := by
  refine ⟨fun h => ?_, ?_⟩
  · obtain ⟨hlen, hmark, hlost, hmax⟩ := h
    unfold PortState.takeNotice
    unfold PortState.markers at hmark hlost
    split
    · rename_i hfree
      have hsame : (x.notices ++ [n]).filter Notice.isLost = x.notices.filter Notice.isLost := by simp [List.filter_append, hn]
      refine ⟨by simpa using hfree, ?_, ?_, hmax⟩
      · rwa [PortState.markers, hsame]
      · rwa [PortState.markers, hsame]
    · split
      · refine ⟨by simpa using hlen, ?_, fun hne => hlost ?_, hmax⟩
        · rwa [PortState.markers, length_filter_isLost_bumped]
        · rwa [PortState.markers, ← List.length_pos_iff, length_filter_isLost_bumped, List.length_pos_iff] at hne
      · rename_i hany
        have hnone : x.notices.filter Notice.isLost = [] := by simpa using hany
        exact ⟨hlen, hmark, fun hne => absurd hnone hne, bump_le _ hmax⟩
  · rw [PortState.takeNotice_eq]
    exact (PortState.Keeps.of_eq (y := { x with notices := x.notices }) rfl rfl rfl rfl rfl).link

theorem PortState.keeps_takeNotices (ns : List Notice) (hns : ∀ n ∈ ns, n.isLost = false) (x : PortState) :
    x.Keeps (ns.foldl PortState.takeNotice x) := by
  induction ns generalizing x with
  | nil => exact .refl x
  | cons n ns ih =>
    obtain ⟨hn, hns⟩ := List.forall_mem_cons.mp hns
    exact (x.keeps_takeNotice hn).trans (ih hns _)

/-- An operation that leaves the notice queue keeps its bounds. -/
theorem PortState.Keeps.of_link {x y : PortState} (hn : y.notices = x.notices) (hl : y.lost = x.lost)
    (h : x.LinkBounded → y.LinkBounded) : x.Keeps y := by
  refine ⟨?_, h⟩
  simp only [PortState.NoticesBounded, PortState.markers, hn, hl]; exact id

theorem cacheInsert_bounded (c : List CacheEntry) (e : CacheEntry) (h : (c.map (fun e => e.seq)).Nodup) :
    (cacheInsert c e).length ≤ Config.cacheSize ∧ ((cacheInsert c e).map (fun e => e.seq)).Nodup := by
  unfold cacheInsert
  dsimp only
  refine ⟨by rw [List.length_drop]; omega, ?_⟩
  rw [List.map_drop, List.map_append]
  refine List.Nodup.sublist (List.drop_sublist _ _) (List.Nodup.append ?_ (List.nodup_singleton _) ?_)
  · exact h.sublist (List.filter_sublist.map _)
  · simp

/-- An answer takes the place that its request reserved (R169, R171). -/
theorem PortState.keeps_answer (x : PortState) (q : Byte) (b : Body) (keep : Bool) : x.Keeps (x.answer q b keep) := by
  unfold PortState.answer
  split
  · exact .refl x
  · rename_i o ho
    refine .of_link rfl rfl fun ⟨hroom, hwindow, hcache, hos, hc⟩ => ?_
    have hfewer : (x.outstanding.filter (fun o => o.seq != q)).length < x.outstanding.length := by
      refine List.length_filter_lt_length_iff_exists.mpr ⟨o, List.mem_of_find?_eq_some ho, ?_⟩
      simpa using List.find?_some ho
    refine ⟨?_, ?_, ?_, hos.sublist (List.filter_sublist.map _), ?_⟩
    · simp only [PortState.place, List.length_append, List.length_singleton]; omega
    · dsimp only; omega
    · dsimp only; split
      · exact (cacheInsert_bounded _ _ hc).1
      · exact hcache
    · dsimp only; split
      · exact (cacheInsert_bounded _ _ hc).2
      · exact hc

/-- A message joins the queue where a place beyond the reserved ones is free, or where the placement condition holds (R128, R170). -/
theorem PortState.Keeps.of_place {x y : PortState} {m : OutMsg} (hn : y.notices = x.notices) (hl : y.lost = x.lost)
    (hob : y.outbound = x.outbound ++ [m]) (hos : y.outstanding = x.outstanding) (hc : y.cache = x.cache)
    (h : x.outbound.length + x.outstanding.length ≤ 3 ∨ x.outbound.length ≤ 1) : x.Keeps y := by
  refine .of_link hn hl ?_
  simp only [PortState.LinkBounded, hob, hos, hc, List.length_append, List.length_singleton, Config.outboundSize, Config.windowSize]
  rintro ⟨_, hwindow, hrest⟩
  exact ⟨by omega, hwindow, hrest⟩

/-- A request that is admitted joins the list, with a new seq and a place left to reserve (R170). -/
theorem PortState.keeps_enlist {x : PortState} {q k : Byte} (h : x.admission q k = .admitted) :
    x.Keeps { x with outstanding := x.outstanding ++ [{ seq := q, kind := k }] } := by
  obtain ⟨hwindow, hroom⟩ := PortState.admission_admitted_room h
  refine .of_link rfl rfl fun ⟨_, _, hcache, hos, hc⟩ => ⟨?_, ?_, hcache, ?_, hc⟩
  · simp only [List.length_append, List.length_singleton, Config.outboundSize]; omega
  · simpa using hwindow
  · rw [List.map_append]
    refine List.Nodup.append hos (List.nodup_singleton _) ?_
    have hfresh := PortState.admission_admitted_fresh h
    simpa using hfresh

/-- A NOTICE takes at least one place of the notice queue, which a LOST marker may take (R154, R155). -/
theorem PortState.keeps_drained (x : PortState) : x.Keeps x.drained := by
  unfold PortState.drained
  split
  · rename_i hlost
    refine ⟨fun ⟨hlen, _, hzero, _⟩ => ?_, ?_⟩
    · have hnone : x.notices.filter Notice.isLost = [] := by
        by_contra hne
        have := hzero hne
        omega
      have hdrop : (x.notices.drop Config.noticesPerMessage).filter Notice.isLost = [] :=
        List.eq_nil_of_sublist_nil (hnone ▸ (List.drop_sublist _ _).filter _)
      refine ⟨?_, ?_, fun _ => rfl, Nat.zero_le _⟩
      · simp only [List.length_append, List.length_drop, List.length_singleton, Config.noticesPerMessage, Config.noticeSize] at *
        omega
      · simp only [PortState.markers, List.filter_append, hdrop, List.nil_append]
        exact List.length_filter_le _ _
    · exact (PortState.Keeps.of_eq (y := { x with notices := x.notices }) rfl rfl rfl rfl rfl).link
  · refine ⟨fun ⟨hlen, hmark, hzero, hmax⟩ => ?_, ?_⟩
    · have hsub : ((x.notices.drop Config.noticesPerMessage).filter Notice.isLost).Sublist (x.notices.filter Notice.isLost) :=
        (List.drop_sublist _ _).filter _
      refine ⟨?_, hsub.length_le.trans hmark, fun hne => hzero fun h0 => hne ?_, hmax⟩
      · simpa using hlen.trans (Nat.le_add_right _ _)
      · exact List.eq_nil_of_sublist_nil (h0 ▸ hsub)
    · exact (PortState.Keeps.of_eq (y := { x with notices := x.notices }) rfl rfl rfl rfl rfl).link

/-! ### The whole state -/

/-- What every operation keeps. -/
structure State.Keeps (s t : State) : Prop where
  pending : t.pending = s.pending
  ids : IdsOrdered s.catalog.entries → IdsOrdered t.catalog.entries
  pool : s.PoolConserved → t.PoolConserved
  bounded : s.StackBounded → t.StackBounded
  ports : ∀ p, (s.port p).Keeps (t.port p)

theorem State.Keeps.refl (s : State) : s.Keeps s := ⟨rfl, id, id, id, fun _ => .refl _⟩

theorem State.Keeps.trans {s t u : State} (h : s.Keeps t) (k : t.Keeps u) : s.Keeps u :=
  ⟨k.pending.trans h.pending, k.ids ∘ h.ids, k.pool ∘ h.pool, k.bounded ∘ h.bounded, fun p => (h.ports p).trans (k.ports p)⟩

/-- An operation after another, the later one first: the state between them is read off the later one. -/
theorem State.Keeps.after {s t u : State} (k : t.Keeps u) (h : s.Keeps t) : s.Keeps u := h.trans k

/-- What speaks of the stack holds where the stack is the same. -/
theorem State.poolConserved_of_stack {s t : State} (h : t.stack = s.stack) : s.PoolConserved → t.PoolConserved := by
  simp only [State.PoolConserved, State.inUse, h]; exact id

theorem State.stackBounded_of_stack {s t : State} (h : t.stack = s.stack) : s.StackBounded → t.StackBounded := by
  simp only [State.StackBounded, State.depth, h]; exact id

/-- An operation that leaves the queue, the catalog and the stack. -/
theorem State.Keeps.of_ports {s t : State} (hq : t.pending = s.pending) (hc : t.catalog = s.catalog) (hk : t.stack = s.stack)
    (hp : ∀ p, (s.port p).Keeps (t.port p)) : s.Keeps t :=
  ⟨hq, by rw [hc]; exact id, State.poolConserved_of_stack hk, State.stackBounded_of_stack hk, hp⟩

/-- An operation that changes neither the queue, the entries, the stack nor a port. -/
theorem State.Keeps.elsewhere {s t : State} (hq : t.pending = s.pending) (he : t.catalog.entries = s.catalog.entries)
    (hk : t.stack = s.stack) (ha : t.portA = s.portA) (hb : t.portB = s.portB) : s.Keeps t :=
  ⟨hq, by rw [he]; exact id, State.poolConserved_of_stack hk, State.stackBounded_of_stack hk,
    fun p => by cases p <;> simp only [State.port_A, State.port_B, ha, hb] <;> exact .refl _⟩

theorem State.StoreDiffers.keeps {s t : State} (h : s.StoreDiffers t) : s.Keeps t :=
  .elsewhere h.pending (by rw [h.catalog]) h.stack h.portA h.portB

theorem State.WorkDiffers.keeps {s t : State} (h : s.WorkDiffers t) (hp : ∀ p, (s.port p).Keeps (t.port p)) : s.Keeps t :=
  .of_ports h.pending h.catalog h.stack hp

/-- An operation on one port. -/
theorem State.keeps_modPort (s : State) (p : Port) {f : PortState → PortState} (h : (s.port p).Keeps (f (s.port p))) :
    s.Keeps (s.modPort p f) := by
  refine .of_ports (by simp) (by simp) (by simp) fun r => ?_
  cases p <;> cases r <;> first | exact h | exact .refl _

/-- An operation on one port that touches neither its notice queue nor what its link counts. -/
theorem State.keeps_modPort_quiet (s : State) (p : Port) (f : PortState → PortState) (hn : ∀ x, (f x).notices = x.notices)
    (hl : ∀ x, (f x).lost = x.lost) (hob : ∀ x, (f x).outbound = x.outbound) (hos : ∀ x, (f x).outstanding = x.outstanding)
    (hc : ∀ x, (f x).cache = x.cache) : s.Keeps (s.modPort p f) :=
  s.keeps_modPort p (.of_eq (hn _) (hl _) (hob _) (hos _) (hc _))

/-! ### Operations on a port -/

section
variable (s : State) (p : Port)

theorem State.keeps_counting (f : Counters → Counters) : s.Keeps (s.counting p f) :=
  s.keeps_modPort_quiet p _ (fun _ => rfl) (fun _ => rfl) (fun _ => rfl) (fun _ => rfl) (fun _ => rfl)

theorem State.keeps_restartLease : s.Keeps (s.restartLease p) :=
  s.keeps_modPort_quiet p _ (fun _ => rfl) (fun _ => rfl) (fun _ => rfl) (fun _ => rfl) (fun _ => rfl)

theorem State.keeps_startLease : s.Keeps (s.startLease p) :=
  s.keeps_modPort_quiet p _ (fun _ => rfl) (fun _ => rfl) (fun _ => rfl) (fun _ => rfl) (fun _ => rfl)

theorem State.keeps_stopLease : s.Keeps (s.stopLease p) :=
  s.keeps_modPort_quiet p _ (fun _ => rfl) (fun _ => rfl) (fun _ => rfl) (fun _ => rfl) (fun _ => rfl)

theorem State.keeps_setBulk (b : BulkCtx) : s.Keeps (s.setBulk p b) :=
  s.keeps_modPort_quiet p _ (fun _ => rfl) (fun _ => rfl) (fun _ => rfl) (fun _ => rfl) (fun _ => rfl)

theorem State.keeps_openBulk (b : BulkCtx) : s.Keeps (s.openBulk p b) :=
  s.keeps_modPort_quiet p _ (fun _ => rfl) (fun _ => rfl) (fun _ => rfl) (fun _ => rfl) (fun _ => rfl)

theorem State.keeps_closeBulk (d : DoneRec) : s.Keeps (s.closeBulk p d) :=
  s.keeps_modPort_quiet p _ (fun _ => rfl) (fun _ => rfl) (fun _ => rfl) (fun _ => rfl) (fun _ => rfl)

theorem State.keeps_setWatch (rs : List IdRange) : s.Keeps (s.setWatch p rs) :=
  s.keeps_modPort_quiet p _ (fun _ => rfl) (fun _ => rfl) (fun _ => rfl) (fun _ => rfl) (fun _ => rfl)

theorem State.keeps_answer (q : Byte) (b : Body) (keep : Bool) : s.Keeps (s.modPort p (fun x => x.answer q b keep)) :=
  s.keeps_modPort p (PortState.keeps_answer _ q b keep)

theorem State.keeps_reply (q k : Byte) (r : Reply) : s.Keeps (s.reply p q k r) := s.keeps_answer p q _ _

theorem State.keeps_refuse (q k : Byte) (c : RefuseCode) (id : Nat) : s.Keeps (s.refuse p q k c id) := s.keeps_answer p q _ _

theorem State.keeps_noticeTo {n : Notice} (hn : n.isLost = false) : s.Keeps (s.noticeTo p n) :=
  s.keeps_modPort p (PortState.keeps_takeNotice _ hn)

theorem State.keeps_noticesTo {ns : List Notice} (hns : ∀ n ∈ ns, n.isLost = false) : s.Keeps (s.noticesTo p ns) :=
  s.keeps_modPort p (PortState.keeps_takeNotices ns hns _)

theorem State.keeps_noticeBoth {n : Notice} (hn : n.isLost = false) : s.Keeps (s.noticeBoth n) :=
  (s.keeps_noticeTo .A hn).trans (State.keeps_noticeTo _ .B hn)

end

/-! ### The common check order (R168 to R172, R182) -/

section
variable {s : State} {p : Port} {q k : Byte}

/-- An answer from the cache and a refusal with WINDOW_FULL take a place beyond the reserved ones (R169, R170). -/
theorem State.keeps_place (m : OutMsg) (h : (s.port p).hasRoom = true) :
    s.Keeps (s.modPort p (fun x => x.place m.seq m.body)) := by
  refine s.keeps_modPort p (.of_place rfl rfl rfl rfl rfl (.inl ?_))
  simpa [PortState.hasRoom] using h

/-- The early ends of a request find room where they place a message (R169, R170). -/
theorem PortState.hasRoom_of_admission {x : PortState} (h : (∃ e, x.admission q k = .fromCache e) ∨ x.admission q k = .windowFull) :
    x.hasRoom = true := by
  by_contra hroom
  unfold PortState.admission at h
  split at h
  · simp at h
  · split at h
    · simp at h
    · split at h <;> simp at h

theorem State.keeps_takeRequest {next : State → State} (h : ∀ s, State.Keeps s (next s)) : s.Keeps (s.takeRequest p q k next) := by
  unfold State.takeRequest
  split
  · refine (s.keeps_restartLease p).trans ?_
    dsimp only
    split
    · exact State.keeps_counting _ _ _
    · rename_i e he
      exact (State.keeps_place ⟨q, e.body⟩ (PortState.hasRoom_of_admission (.inl ⟨e, he⟩))).trans (State.keeps_counting _ _ _)
    · rename_i hfull
      exact (State.keeps_place ⟨q, _⟩ (PortState.hasRoom_of_admission (.inr hfull))).trans (State.keeps_counting _ _ _)
    · exact State.keeps_counting _ _ _
    · rename_i hadm
      exact (State.keeps_modPort _ p (PortState.keeps_enlist hadm)).trans (h _)
  · exact .refl s

theorem State.keeps_request {α : Type} {fields : Option α} {own : α → State → State}
    (h : ∀ a s, State.Keeps s (own a s)) : s.Keeps (s.request p q k fields own) := by
  refine State.keeps_takeRequest fun s => ?_
  unfold State.checkRequest
  split
  · exact s.keeps_answer p q _ _
  · split
    · split
      · exact h _ s
      · exact s.keeps_refuse p q k _ _
    · exact s.keeps_answer p q _ _

/-- A request with a list of own checks: what is accepted has passed them all. -/
theorem State.keeps_ownChecks {checks : List (Bool × RefuseCode)} {accept : State → State}
    (h : firstFail checks = none → s.Keeps (accept s)) : s.Keeps (s.ownChecks p q k checks accept) := by
  unfold State.ownChecks
  split
  · exact s.keeps_refuse p q k _ _
  · exact h ‹_›

theorem State.keeps_streamMessage {next : State → State} (h : ∀ s, State.Keeps s (next s)) : s.Keeps (s.streamMessage p next) := by
  unfold State.streamMessage
  split
  · exact (s.keeps_restartLease p).trans (h _)
  · exact .refl s

end

/-- A list of checks that fails at none has passed each (R182 step 8). -/
theorem firstFail_eq_none_iff (checks : List (Bool × RefuseCode)) :
    firstFail checks = none ↔ ∀ c ∈ checks, c.1 = true := by
  induction checks with
  | nil => simp [firstFail]
  | cons c cs ih =>
    obtain ⟨ok, code⟩ := c
    cases ok <;> simp [firstFail, ih]

/-! ### Operations on the frames and the pool (R24 to R31, R36 to R49) -/

section
variable (s : State) (p : Port)

/-- Dropping the owner touches of the ports the timers only. -/
theorem State.dropOwner_ports (r : Port) : (s.port r).Keeps (s.dropOwner.port r) := by
  rw [State.dropOwner_eq]
  split
  · exact .refl _
  · exact (State.keeps_stopLease ({ s with stack := { s.stack with owner := none } } : State) _).ports r

theorem State.dropOwner_pending : s.dropOwner.pending = s.pending := by
  rw [State.dropOwner_eq]
  split <;> simp

theorem State.dropOwner_catalog : s.dropOwner.catalog = s.catalog := by
  rw [State.dropOwner_eq]
  split <;> simp

theorem State.releaseAtZero_ports (r : Port) : (s.port r).Keeps (s.releaseAtZero.port r) := by
  unfold State.releaseAtZero
  split
  · exact (s.dropOwner_ports r).trans ((State.keeps_noticeBoth s.dropOwner rfl).ports r)
  · exact .refl _

theorem State.releaseAtZero_pending : s.releaseAtZero.pending = s.pending := by
  unfold State.releaseAtZero State.release
  split <;> simp [State.dropOwner_pending]

theorem State.releaseAtZero_catalog : s.releaseAtZero.catalog = s.catalog := by
  unfold State.releaseAtZero State.release
  split <;> simp [State.dropOwner_catalog]

/-- With the last frame the owner goes, and nothing else of the stack (R31). -/
theorem State.releaseAtZero_stack :
    s.releaseAtZero.stack = { s.stack with owner := if s.stack.frames = [] then none else s.stack.owner } := by
  unfold State.releaseAtZero
  split
  · rw [State.release_stack]
  · rfl

/-- A frame is pushed below depth 8; the first brings its owner (R24, R30). -/
theorem State.keeps_pushFrame (label : Option (List Byte)) (h : s.depth < Config.maxDepth) : s.Keeps (s.pushFrame p label) := by
  unfold State.pushFrame
  dsimp only
  split
  · rename_i h0
    refine ⟨?_, ?_, ?_, ?_, fun r => ?_⟩
    · simp [State.takeOwnership]
    · simp [State.takeOwnership]
    · simp [State.takeOwnership, State.PoolConserved, State.inUse, h0]
    · simp [State.takeOwnership, State.StackBounded, State.depth, h0, Config.maxDepth]
    · exact (((State.Keeps.refl _).trans (State.keeps_startLease
        ({ s with stack := { s.stack with frames := { label := label, undo := [] } :: s.stack.frames, owner := some p } } : State)
        p)).trans (State.keeps_noticeBoth _ rfl)).ports r
  · rename_i h0
    refine ⟨rfl, id, ?_, ?_, fun r => by cases r <;> exact .refl _⟩
    · simp [State.PoolConserved, State.inUse]
    · rintro ⟨_, ho⟩
      exact ⟨h, by simpa [h0] using ho⟩

/-- Rolling back the top frame with the release at depth 0 (R31, R45). -/
theorem State.keeps_rollbackFrame : s.Keeps s.rollbackFrame := by
  unfold State.rollbackFrame
  refine ⟨?_, ?_, ?_, ?_, fun r => .trans ?_ (State.releaseAtZero_ports _ r)⟩
  · rw [State.releaseAtZero_pending]
    unfold State.rollbackTop; split <;> rfl
  · rw [State.releaseAtZero_catalog]
    unfold State.rollbackTop; split
    · exact id
    · exact idsOrdered_of_defns (restoreAll_defns _ _)
  · simp only [State.PoolConserved, State.inUse, State.releaseAtZero_stack]
    unfold State.rollbackTop
    split
    · exact id
    · rename_i f fs hf
      simp only [hf, List.map_cons, List.sum_cons]
      omega
  · simp only [State.StackBounded, State.depth, State.releaseAtZero_stack]
    unfold State.rollbackTop
    split
    · rename_i h0
      simp [h0]
    · rename_i f fs hf
      simp only [hf, List.length_cons]
      rintro ⟨hd, ho⟩
      refine ⟨by omega, ?_⟩
      have howner : s.stack.owner.isSome = true := ho.mpr (by simp)
      split <;> simp [*]
  · unfold State.rollbackTop
    split <;> cases r <;> exact .refl _

/-- Rolling back every frame, and then dropping the owner (R48, R49, R73). -/
theorem State.keeps_rollbackAll : s.Keeps (State.rollbackMany s.depth s).dropOwner := by
  rw [State.rollbackMany_all]
  refine ⟨?_, ?_, ?_, ?_, fun r => .trans ?_ (State.dropOwner_ports _ r)⟩
  · rw [State.dropOwner_pending]
  · rw [State.dropOwner_catalog]
    exact idsOrdered_of_defns (restoreFrames_defns _ _)
  · simp [State.PoolConserved, State.inUse, State.dropOwner_stack]
  · simp [State.StackBounded, State.depth, State.dropOwner_stack]
  · cases r <;> exact .refl _

/-- A merge conserves the records and leaves a frame (R28, R47). -/
theorem State.keeps_mergeTop : s.Keeps s.mergeTop := by
  obtain ⟨hcatalog, -⟩ := s.mergeTop_elsewhere
  refine ⟨?_, ?_, ?_, ?_, fun r => ?_⟩
  · unfold State.mergeTop; split <;> rfl
  · rw [hcatalog]; exact id
  · simp only [State.PoolConserved, State.mergeTop_conserves]; exact id
  · unfold State.mergeTop
    split
    · rename_i f g fs hf
      simp only [State.StackBounded, State.depth, hf, List.length_cons]
      rintro ⟨hd, ho⟩
      exact ⟨by omega, by simpa using ho⟩
    · exact id
  · rw [State.mergeTop_port]; exact .refl _

/-- A staged write that needs a record finds one free (R28, R29, R39). -/
theorem State.keeps_stage (i : Nat) (v : Value) (h : s.needsRecord i = true → s.stack.free ≠ 0) : s.Keeps (s.stage i v) := by
  refine ⟨rfl, idsOrdered_of_defns (setWorking_defns _ _ _), ?_, ?_, fun r => by cases r <;> exact .refl _⟩
  · simp only [State.PoolConserved, State.inUse, State.stage_stack]
    split
    · rename_i hneed
      have hfree := h hneed
      unfold State.needsRecord at hneed
      unfold Stack.takeRecord
      cases hf : s.stack.frames with
      | nil => simp [hf] at hneed
      | cons f fs => simp only [List.map_cons, List.sum_cons, List.length_append, List.length_singleton]; omega
    · exact id
  · simp only [State.StackBounded, State.depth, State.stage_stack]
    split
    · unfold Stack.takeRecord
      cases hf : s.stack.frames with
      | nil => simp only [hf]; exact id
      | cons f fs => simp
    · exact id

end

/-! ### The Commit Unit and the store (R61 to R66, R88 to R104) -/

section
variable (s : State)

theorem State.keeps_commitFails (c : RefuseCode) : s.Keeps (s.commitFails c) := by
  refine (s.commitFails_workDiffers c).keeps ?_
  unfold State.commitFails
  split
  · exact fun _ => .refl _
  · rename_i k _
    have hlease := (State.keeps_startLease ({ s with commit := none } : State) k.port).ports
    dsimp only
    split
    · exact hlease
    · exact fun p => (hlease p).trans ((State.keeps_refuse _ _ _ _ _ _).ports p)

theorem State.keeps_modStore (f : Store → Store) : s.Keeps (s.modStore f) := .elsewhere rfl rfl rfl rfl rfl

theorem State.keeps_cancelAppend (c : RefuseCode) : s.Keeps (s.cancelAppend c) := by
  unfold State.cancelAppend
  split
  · exact .refl s
  · exact (s.keeps_modStore _).trans (State.keeps_commitFails _ c)

theorem State.keeps_enterReadOnly : s.Keeps s.enterReadOnly := by
  have hdrop := ((s.keeps_modStore fun st => { st with mode := .readOnly }).trans
    (State.keeps_noticeBoth _ (n := .storeReadOnly (s.store.count .retired)) rfl)).trans (State.keeps_modStore _ Store.dropRequest)
  unfold State.enterReadOnly
  dsimp only
  split
  · exact hdrop
  · exact hdrop.trans (State.keeps_cancelAppend _ _)

theorem State.keeps_readOnlyTest : s.Keeps s.readOnlyTest := by
  unfold State.readOnlyTest
  split
  · exact s.keeps_enterReadOnly
  · exact .refl s

theorem State.keeps_reclaim : s.Keeps s.reclaim := by
  unfold State.reclaim
  split
  · split
    · exact (s.keeps_modStore _).trans (State.keeps_enterReadOnly _)
    · exact .refl s
  · exact .refl s
  · exact .refl s

theorem State.keeps_chooseErase : s.Keeps s.chooseErase := by
  unfold State.chooseErase
  split
  · split
    · exact (s.startErase_storeDiffers _).keeps
    · exact s.keeps_reclaim
  · exact s.keeps_reclaim

theorem State.keeps_chooseWork : s.Keeps s.chooseWork := by
  unfold State.chooseWork
  split
  · split
    · exact (s.startCompaction_storeDiffers _).keeps
    · exact s.keeps_chooseErase
  · exact s.keeps_chooseErase
  · exact s.keeps_chooseErase

/-- What the store does at its choice before it looks for work: an append that lacks room asks for it once nothing is STALE (log 15). -/
def State.roomAsked : State := if s.store.noStale then s.requestRoom else s

/-- Steps 1 to 5 of R88: the pending append first, if it may start. -/
def State.chooseStart : State :=
  match s.store.pend with
  | none => s.chooseWork
  | some a =>
    if s.admissible a = true ∧ s.store.compaction.isRequested = false ∧ s.store.noStale = true then s.startAppend a
    else s.chooseWork

/-- The store chooses where it is IDLE in the SEALED catalog from READY on. -/
theorem State.choose_eq : s.choose =
    if s.store.operation = .idle ∧ s.catalog.state = .sealed ∧ s.ready = true then s.roomAsked.chooseStart else s := rfl

theorem State.keeps_roomAsked : s.Keeps s.roomAsked := by
  unfold State.roomAsked
  split
  · exact s.requestRoom_storeDiffers.keeps
  · exact .refl s

theorem State.keeps_chooseStart : s.Keeps s.chooseStart := by
  unfold State.chooseStart
  split
  · exact s.keeps_chooseWork
  · split
    · exact (State.startAppend_storeDiffers _ _).keeps
    · exact s.keeps_chooseWork

theorem State.keeps_choose : s.Keeps s.choose := by
  rw [State.choose_eq]
  split
  · exact s.keeps_roomAsked.trans (State.keeps_chooseStart _)
  · exact .refl s

theorem State.keeps_sealFails : s.Keeps s.sealFails := by
  unfold State.sealFails
  dsimp only
  split
  · exact State.Keeps.after (State.keeps_refuse _ _ _ _ _ _) (.elsewhere rfl rfl rfl rfl rfl)
  · exact .elsewhere rfl rfl rfl rfl rfl

theorem State.keeps_sealCompletes : s.Keeps s.sealCompletes := by
  unfold State.sealCompletes
  refine State.Keeps.trans ?_ ((State.keeps_readOnlyTest _).trans (State.keeps_choose _))
  split
  · refine State.Keeps.trans ?_ (State.keeps_reply _ _ _ _ _)
    exact ⟨rfl, idsOrdered_of_defns (atDefaults_defns _), id, id, fun p => by cases p <;> exact .refl _⟩
  · exact ⟨rfl, idsOrdered_of_defns (atDefaults_defns _), id, id, fun p => by cases p <;> exact .refl _⟩

theorem State.keeps_beginInitialImage (a : Attempt) : s.Keeps (s.beginInitialImage a) := by
  unfold State.beginInitialImage
  split
  · exact (s.keeps_modStore _).trans (State.programNext_storeDiffers _).keeps
  · exact s.keeps_sealFails

theorem State.keeps_wipeCompletes : s.Keeps s.wipeCompletes := by
  unfold State.wipeCompletes
  dsimp only
  split
  · split
    · exact State.Keeps.after (State.keeps_refuse _ _ _ _ _ _) (.elsewhere rfl rfl rfl rfl rfl)
    · exact State.Keeps.after (State.keeps_reply _ _ _ _ _) (.elsewhere rfl rfl rfl rfl rfl)
  · exact .elsewhere rfl rfl rfl rfl rfl

theorem State.keeps_runTasks : s.Keeps s.runTasks := by
  unfold State.runTasks
  split
  · exact .refl s
  · exact s.keeps_modStore _
  · exact s.keeps_modStore _
  · split
    · exact .refl s
    · exact s.keeps_modStore _
  · split
    · exact .refl s
    · dsimp only
      split
      · exact (s.keeps_modStore _).trans (State.keeps_modStore _ _)
      · exact (s.keeps_modStore _).trans (State.keeps_sealFails _)
  · split
    · exact .refl s
    · exact s.keeps_beginInitialImage _
  · split
    · exact .refl s
    · exact s.keeps_modStore _

theorem State.keeps_startWipeErase : s.Keeps s.startWipeErase := s.startWipeErase_frame.1.keeps

theorem State.keeps_operationEnded : s.Keeps s.operationEnded := by
  unfold State.operationEnded
  split
  · exact s.keeps_startWipeErase
  · exact s.keeps_choose

theorem changedNotices_notLost (cs : List Change) (n : Nat) (rs : List IdRange) : ∀ x ∈ changedNotices cs n rs, x.isLost = false := by
  intro x hx
  obtain ⟨c, -, rfl⟩ := List.mem_map.mp hx
  rfl

/-- Freeing a frame returns its records (R28, R63). -/
theorem Stack.freeTop_cases (k : Stack) :
    (k.frames = [] ∧ k.freeTop = k) ∨
    ∃ f fs, k.frames = f :: fs ∧ k.freeTop = { k with frames := fs, free := k.free + f.undo.length } := by
  unfold Stack.freeTop
  split
  · exact .inl ⟨‹_›, rfl⟩
  · exact .inr ⟨_, _, ‹_›, rfl⟩

/-- The first part of the durability point: values, number, frame 1 and the Commit Unit (R61 to R63). -/
def State.madeDurable (c : InFlight) : State :=
  { s with
    catalog := { s.catalog with entries := applyCommit s.catalog.entries c.changes }
    store := { s.store with durable := c.number }
    stack := s.stack.freeTop
    commit := none }

/-- The CHANGED notices that the durability point hands to each port (R64). -/
def State.changesTold (c : InFlight) : State :=
  ((s.madeDurable c).noticesTo .A (changedNotices c.changes c.number s.portA.watch)).noticesTo .B
    (changedNotices c.changes c.number s.portB.watch)

/-- The durability point in its parts, the release and the REPLY last (R61 to R65). -/
theorem State.durabilityPoint_eq {s : State} {c : InFlight} (h : s.commit = some c) : s.durabilityPoint =
    if c.suppressed then (s.changesTold c).releaseAtZero
    else (s.changesTold c).releaseAtZero.reply c.port c.seq kCommit
      (.commit c.number c.changes.length c.persistentCount (s.changesTold c).releaseAtZero.stack.free) := by
  simp only [State.durabilityPoint, h]
  rfl

theorem State.changesTold_ports (c : InFlight) (p : Port) : (s.port p).Keeps ((s.changesTold c).port p) := by
  refine PortState.Keeps.trans ?_ ((State.keeps_noticesTo _ .B (changedNotices_notLost _ _ _)).ports p)
  refine PortState.Keeps.trans ?_ ((State.keeps_noticesTo _ .A (changedNotices_notLost _ _ _)).ports p)
  cases p <;> exact .refl _

theorem State.keeps_changesReleased (c : InFlight) : s.Keeps (s.changesTold c).releaseAtZero := by
  have hstack : (s.changesTold c).stack = s.stack.freeTop := by simp [State.changesTold, State.madeDurable]
  refine ⟨?_, ?_, ?_, ?_, fun p => (s.changesTold_ports c p).trans (State.releaseAtZero_ports _ p)⟩
  · simp [State.releaseAtZero_pending, State.changesTold, State.madeDurable]
  · simpa [State.releaseAtZero_catalog, State.changesTold, State.madeDurable] using idsOrdered_of_defns (applyCommit_defns _ _)
  · simp only [State.PoolConserved, State.inUse, State.releaseAtZero_stack, hstack]
    rcases s.stack.freeTop_cases with ⟨-, hk⟩ | ⟨f, fs, hf, hk⟩
    · rw [hk]; exact id
    · simp only [hk, hf, List.map_cons, List.sum_cons]; omega
  · simp only [State.StackBounded, State.depth, State.releaseAtZero_stack, hstack]
    rcases s.stack.freeTop_cases with ⟨h0, hk⟩ | ⟨f, fs, hf, hk⟩
    · simp [hk, h0]
    · simp only [hk, hf, List.length_cons]
      rintro ⟨hd, ho⟩
      have howner : s.stack.owner.isSome = true := ho.mpr (by simp)
      refine ⟨by omega, ?_⟩
      split <;> simp [*]

theorem State.keeps_durabilityPoint : s.Keeps s.durabilityPoint := by
  cases h : s.commit with
  | none => rw [State.durabilityPoint, h]; exact .refl s
  | some c =>
    rw [State.durabilityPoint_eq h]
    split
    · exact s.keeps_changesReleased c
    · exact (s.keeps_changesReleased c).trans (State.keeps_reply _ _ _ _ _)

theorem State.keeps_compactionTest : s.Keeps s.compactionTest := s.compactionTest_storeDiffers.keeps

theorem State.keeps_groupClosed (g : GroupWrite) : s.Keeps (s.groupClosed g) := by
  unfold State.groupClosed
  dsimp only
  split
  · exact (((s.keeps_modStore _).trans (State.keeps_modStore _ _)).trans (State.keeps_durabilityPoint _)).trans
      ((State.keeps_compactionTest _).trans (State.keeps_operationEnded _))
  · exact ((s.keeps_modStore _).trans (State.keeps_modStore _ _)).trans (State.keeps_operationEnded _)
  · exact (s.keeps_modStore _).trans (State.keeps_sealCompletes _)
  all_goals exact s.keeps_modStore _

/-- What follows a first failure of a COMMIT group, after the READ_ONLY test: the group is rewritten, waits or ends (R96). -/
def State.rewriteOrEnd : State :=
  match s.store.pend with
  | none => s.operationEnded
  | some b =>
    if s.ctl.supply = .warn then (s.cancelAppend .supplyLow).operationEnded
    else if s.store.mode = .readOnly then (s.cancelAppend .storeReadOnly).operationEnded
    else if s.store.appendMayStart b then s.startAppend b
    else s.requestRoom.operationEnded

theorem State.appendFailed_first {a : PendingAppend} (h : a.attempt = .first) : s.appendFailed a =
    (s.modStore (fun st => { st with operation := .idle, pend := some { a with attempt := .second } })).readOnlyTest.rewriteOrEnd := by
  simp only [State.appendFailed, h]
  rfl

theorem State.appendFailed_second {a : PendingAppend} (h : a.attempt = .second) : s.appendFailed a =
    (((s.modStore (fun st => { st with operation := .idle, pend := none })).readOnlyTest).commitFails
      .storeFault).compactionTest.operationEnded := by
  simp only [State.appendFailed, h]

theorem State.keeps_rewriteOrEnd : s.Keeps s.rewriteOrEnd := by
  unfold State.rewriteOrEnd
  split
  · exact s.keeps_operationEnded
  · split
    · exact (s.keeps_cancelAppend _).trans (State.keeps_operationEnded _)
    · split
      · exact (s.keeps_cancelAppend _).trans (State.keeps_operationEnded _)
      · split
        · exact (State.startAppend_storeDiffers _ _).keeps
        · exact s.requestRoom_storeDiffers.keeps.trans (State.keeps_operationEnded _)

theorem State.keeps_appendFailed (a : PendingAppend) : s.Keeps (s.appendFailed a) := by
  cases h : a.attempt with
  | first =>
    rw [s.appendFailed_first h]
    exact ((s.keeps_modStore _).trans (State.keeps_readOnlyTest _)).trans (State.keeps_rewriteOrEnd _)
  | second =>
    rw [s.appendFailed_second h]
    exact (((s.keeps_modStore _).trans (State.keeps_readOnlyTest _)).trans (State.keeps_commitFails _ _)).trans
      ((State.keeps_compactionTest _).trans (State.keeps_operationEnded _))

/-- What follows a failure of a compaction image, after the READ_ONLY test (R96, R97). -/
def State.imageAgain (a : Attempt) : State :=
  if s.store.mode = .readOnly ∨ s.ctl.supply = .warn ∨ s.catalog.state ≠ .sealed then s.operationEnded
  else match a with
    | .first =>
      if s.imageFits .second then s.startCompaction .second
      else (s.modStore (fun st => { st with compaction := .requested .second })).operationEnded
    | .second => s.requestRoom.operationEnded

theorem State.imageFailed_eq (a : Attempt) : s.imageFailed a =
    (s.modStore (fun st => { st with operation := .idle, compaction := .none })).readOnlyTest.imageAgain a := rfl

theorem State.keeps_imageAgain (a : Attempt) : s.Keeps (s.imageAgain a) := by
  unfold State.imageAgain
  split
  · exact s.keeps_operationEnded
  · split
    · split
      · exact (State.startCompaction_storeDiffers _ _).keeps
      · exact (s.keeps_modStore _).trans (State.keeps_operationEnded _)
    · exact s.requestRoom_storeDiffers.keeps.trans (State.keeps_operationEnded _)

theorem State.keeps_imageFailed (a : Attempt) : s.Keeps (s.imageFailed a) :=
  ((s.keeps_modStore _).trans (State.keeps_readOnlyTest _)).trans (State.keeps_imageAgain _ a)

theorem State.keeps_retire (k : Nat) (mapOk : Bool) : s.Keeps (s.retire k mapOk) := by
  unfold State.retire
  dsimp only
  split <;> exact .elsewhere rfl rfl rfl rfl rfl

/-- A group has been abandoned: its sector retired, its other sectors closed off, the restart note set (R96). -/
def State.groupAbandoned (k : Nat) (mapOk : Bool) : State :=
  (s.retire k mapOk).modStore (fun st => { st.closeOff with restartNote := true, writing := none, arrayOp := .none })

theorem State.groupFailed_eq (g : GroupWrite) (k : Nat) (mapOk : Bool) : s.groupFailed g k mapOk =
    match s.store.operation with
    | .appending =>
      match s.store.pend with
      | some a => (s.groupAbandoned k mapOk).appendFailed a
      | none => ((s.groupAbandoned k mapOk).modStore (fun st => { st with operation := .idle })).operationEnded
    | .compacting => (s.groupAbandoned k mapOk).imageFailed g.attempt
    | .catalogWrite =>
      match g.attempt with
      | .first => (s.groupAbandoned k mapOk).beginInitialImage .second
      | .second => (s.groupAbandoned k mapOk).sealFails
    | .idle => s.groupAbandoned k mapOk
    | .erasing => s.groupAbandoned k mapOk
    | .wipeErase => s.groupAbandoned k mapOk := rfl

theorem State.keeps_groupAbandoned (k : Nat) (mapOk : Bool) : s.Keeps (s.groupAbandoned k mapOk) :=
  (s.keeps_retire k mapOk).trans (State.keeps_modStore _ _)

theorem State.keeps_groupFailed (g : GroupWrite) (k : Nat) (mapOk : Bool) : s.Keeps (s.groupFailed g k mapOk) := by
  rw [State.groupFailed_eq]
  refine (s.keeps_groupAbandoned k mapOk).trans ?_
  split
  · split
    · exact State.keeps_appendFailed _ _
    · exact (State.keeps_modStore _ _).trans (State.keeps_operationEnded _)
  · exact State.keeps_imageFailed _ _
  · split
    · exact State.keeps_beginInitialImage _ _
    · exact State.keeps_sealFails _
  all_goals exact .refl _

theorem State.keeps_slotProgrammed (g : GroupWrite) (k : Nat) (c : Slot) : s.Keeps (s.slotProgrammed g k c) := by
  unfold State.slotProgrammed
  dsimp only
  split
  · exact State.Keeps.after (State.keeps_groupClosed _ _) (.elsewhere rfl rfl rfl rfl rfl)
  · exact State.Keeps.after (State.programNext_storeDiffers _).keeps (.elsewhere rfl rfl rfl rfl rfl)

theorem State.keeps_programEnds (ok mapOk : Bool) : s.Keeps (s.programEnds ok mapOk) := by
  unfold State.programEnds
  split
  · exact .refl s
  · exact .refl s
  · split
    · exact .refl s
    · split
      · exact State.Keeps.after (State.programNext_storeDiffers _).keeps (.elsewhere rfl rfl rfl rfl rfl)
      · exact State.Keeps.after (State.keeps_groupFailed _ _ _ _) (.elsewhere rfl rfl rfl rfl rfl)
  · split
    · exact .refl s
    · split
      · exact s.keeps_slotProgrammed _ _ _
      · exact State.Keeps.after (State.keeps_groupFailed _ _ _ _) (.elsewhere rfl rfl rfl rfl rfl)
  · split
    · exact State.Keeps.after (State.keeps_runTasks _) (.elsewhere rfl rfl rfl rfl rfl)
    · exact State.Keeps.after (State.keeps_sealFails _) (.elsewhere rfl rfl rfl rfl rfl)
  · split
    · exact State.Keeps.after (State.keeps_runTasks _) (.elsewhere rfl rfl rfl rfl rfl)
    · exact State.Keeps.after (State.keeps_sealFails _) (.elsewhere rfl rfl rfl rfl rfl)
  · exact State.Keeps.after (State.keeps_wipeCompletes _) (.elsewhere rfl rfl rfl rfl rfl)

theorem State.keeps_ringEraseEnds (k : Nat) (r : EraseResult) (mapOk : Bool) : s.Keeps (s.ringEraseEnds k r mapOk) := by
  unfold State.ringEraseEnds
  split
  · dsimp only
    split
    · exact State.Keeps.after (State.keeps_retire _ _ _) (.elsewhere rfl rfl rfl rfl rfl)
    · exact .elsewhere rfl rfl rfl rfl rfl
  · exact State.Keeps.after (State.keeps_retire _ _ _) (.elsewhere rfl rfl rfl rfl rfl)
  · exact State.Keeps.after (State.keeps_retire _ _ _) (.elsewhere rfl rfl rfl rfl rfl)

theorem State.keeps_areaErased (k : Nat) : s.Keeps (State.areaEraseEnds.erased s k) :=
  State.Keeps.after (State.keeps_runTasks _) (.elsewhere rfl rfl rfl rfl rfl)

theorem State.keeps_areaEraseEnds (k : Nat) (r : EraseResult) : s.Keeps (s.areaEraseEnds k r) := by
  unfold State.areaEraseEnds
  split
  · dsimp only
    split
    · exact State.Keeps.after (State.keeps_sealFails _) (.elsewhere rfl rfl rfl rfl rfl)
    · exact State.Keeps.after (State.keeps_runTasks _) (.elsewhere rfl rfl rfl rfl rfl)
  · exact s.keeps_areaErased k
  · exact s.keeps_areaErased k

/-- What follows the erase of a ring sector of the journal: the READ_ONLY test where it was retired, and the next choice (R88, R98). -/
def State.ringEraseFollowed (k : Nat) : State :=
  (if (s.store.rec? k).any (fun x => x.role == .retired) then s.readOnlyTest else s).operationEnded

/-- The erase of a ring sector has ended, with what follows still to come (R94, R97). -/
def State.ringErased (k : Nat) (r : EraseResult) (mapOk : Bool) : State :=
  (s.ringEraseEnds k r mapOk).modStore (fun st => { st with arrayOp := .none })

theorem State.eraseEnds_area {k : Nat} (h : s.store.arrayOp = .erase k) (hk : k < 4) (r : EraseResult) (mapOk : Bool) :
    s.eraseEnds r mapOk = s.areaEraseEnds k r := by
  simp only [State.eraseEnds, h, hk, if_true]

theorem State.eraseEnds_ring {k : Nat} (h : s.store.arrayOp = .erase k) (hk : ¬ k < 4) (r : EraseResult) (mapOk : Bool) :
    s.eraseEnds r mapOk = if s.store.operation = .erasing
      then ((s.ringErased k r mapOk).modStore (fun st => { st with operation := .idle })).ringEraseFollowed k
      else (s.ringErased k r mapOk).runTasks := by
  simp only [State.eraseEnds, h, hk, if_false]
  rfl

theorem State.eraseEnds_other (h : ∀ k, s.store.arrayOp ≠ .erase k) (r : EraseResult) (mapOk : Bool) : s.eraseEnds r mapOk = s := by
  unfold State.eraseEnds
  split
  · exact absurd ‹_› (h _)
  all_goals rfl

theorem State.keeps_ringEraseFollowed (k : Nat) : s.Keeps (s.ringEraseFollowed k) := by
  unfold State.ringEraseFollowed
  split
  · exact s.keeps_readOnlyTest.trans (State.keeps_operationEnded _)
  · exact s.keeps_operationEnded

theorem State.keeps_ringErased (k : Nat) (r : EraseResult) (mapOk : Bool) : s.Keeps (s.ringErased k r mapOk) :=
  (s.keeps_ringEraseEnds k r mapOk).trans (State.keeps_modStore _ _)

theorem State.keeps_eraseEnds (r : EraseResult) (mapOk : Bool) : s.Keeps (s.eraseEnds r mapOk) := by
  by_cases h : ∃ k, s.store.arrayOp = .erase k
  · obtain ⟨k, h⟩ := h
    by_cases hk : k < 4
    · rw [s.eraseEnds_area h hk]
      exact s.keeps_areaEraseEnds k r
    · rw [s.eraseEnds_ring h hk]
      refine (s.keeps_ringErased k r mapOk).trans ?_
      split
      · exact (State.keeps_modStore _ _).trans (State.keeps_ringEraseFollowed _ k)
      · exact State.keeps_runTasks _
  · rw [s.eraseEnds_other (not_exists.mp h)]
    exact .refl s

theorem State.keeps_abandonImage (g : GroupWrite) : s.Keeps (s.abandonImage g) := .elsewhere rfl rfl rfl rfl rfl

theorem State.keeps_storeWarned : s.Keeps s.storeWarned := by
  unfold State.storeWarned
  split
  · exact s.keeps_modStore _
  · exact (((s.keeps_abandonImage _).trans (State.keeps_modStore _ _)).trans (State.keeps_cancelAppend _ _)).trans
      (State.keeps_operationEnded _)
  · exact (s.keeps_abandonImage _).trans (State.keeps_modStore _ _)
  · exact (s.keeps_modStore _).trans (State.keeps_cancelAppend _ _)

theorem State.keeps_storeRestored : s.Keeps s.storeRestored := by
  unfold State.storeRestored
  split
  · exact s.keeps_compactionTest.trans (State.keeps_choose _)
  · split
    · exact s.keeps_runTasks
    · exact .refl s
  · split
    · exact s.keeps_runTasks
    · exact .refl s
  all_goals exact s.keeps_compactionTest

end

/-! ### The Bulk Engine (R127 to R147) -/

section
variable (s : State) (p : Port)

theorem State.keeps_endBulk (e : BulkEnd) : s.Keeps (s.endBulk p e) := by
  unfold State.endBulk
  split
  · exact s.keeps_closeBulk p _
  · exact s.keeps_closeBulk p _
  · exact s.keeps_rollbackFrame.trans (State.keeps_closeBulk _ p _)
  · exact .refl s
  · exact .refl s

theorem State.keeps_endBulkAtExpiry : s.Keeps (s.endBulkAtExpiry p) := by
  unfold State.endBulkAtExpiry
  split
  · split
    · exact s.keeps_closeBulk p _
    · exact .refl s
  · split
    · exact s.keeps_closeBulk p _
    · exact .refl s
  · exact s.keeps_closeBulk p _
  · exact .refl s
  · exact .refl s

theorem State.keeps_finishWrite (w : WriteCtx) : s.Keeps (s.finishWrite p w) := by
  unfold State.finishWrite
  split
  · refine State.Keeps.trans ?_ (State.keeps_closeBulk _ p _)
    split
    · exact s.keeps_mergeTop
    · exact .refl s
  · exact s.keeps_rollbackFrame.trans (State.keeps_closeBulk _ p _)

/-- What passes the checks of a staged item finds a record where it needs one (R38, R139). -/
theorem State.stageCheck_free {s : State} {p : Port} {r : SetReq} {v : Value} (h : s.stageCheck p r = .ok v) :
    s.needsRecord r.id = true → s.stack.free ≠ 0 := by
  intro hneed hfree
  unfold State.stageCheck at h
  split at h
  · cases h
  · split at h
    · cases h
    · rw [if_pos ⟨hneed, hfree⟩] at h
      cases h

theorem State.keeps_applyItems (blk i : Nat) (rs : List SetReq) : s.Keeps (applyItems p blk i rs s).1 := by
  induction rs generalizing i s with
  | nil => exact .refl s
  | cons r rs ih =>
    unfold applyItems
    split
    · exact .refl s
    · rename_i v hv
      exact (s.keeps_stage r.id v (State.stageCheck_free hv)).trans (ih _ (i + 1))

theorem State.keeps_processBlock (w : WriteCtx) (b : Block) : s.Keeps (s.processBlock p w b) := by
  unfold State.processBlock
  dsimp only
  refine (s.keeps_applyItems p b.index 0 (w.itemsToApply b)).trans ?_
  split
  · exact State.keeps_finishWrite _ p _
  · exact State.keeps_setBulk _ p _

/-- A message that the Bulk Engine or the Notice Unit places where the Link Unit grants it (R128, R173). -/
theorem PortState.keeps_placeGranted {x : PortState} (b : Body) (h : x.canPlace = true) (g : Source) (c : BulkCtx) :
    x.Keeps { x.placeCounted b with nextGrant := g, bulk := c } :=
  .of_place rfl rfl rfl rfl rfl (.inr (by simpa [PortState.canPlace] using h))

theorem PortState.canPlace_of_grantsBulk {x : PortState} (h : x.grantsBulk = true) : x.canPlace = true := by
  simp only [PortState.grantsBulk, Bool.and_eq_true] at h
  obtain ⟨⟨h, -⟩, -⟩ := h
  exact h

theorem PortState.canPlace_of_grantsNotice {x : PortState} (h : x.grantsNotice = true) : x.canPlace = true := by
  simp only [PortState.grantsNotice, Bool.and_eq_true] at h
  obtain ⟨⟨h, -⟩, -⟩ := h
  exact h

theorem State.keeps_placeData (r : ReadCtx) (h : (s.port p).canPlace = true) : s.Keeps (s.placeData p r) := by
  have hplace := s.keeps_modPort p
    (f := fun x => { x.placeBulk (.data r.next s.store.durable (s.blockItems r)) with
      bulk := .reading (r.advance s.store.durable) })
    (PortState.keeps_placeGranted _ h ((s.port p).afterGrant .notice) _)
  unfold State.placeData
  dsimp only
  split
  · exact hplace
  · exact hplace.trans (State.keeps_closeBulk _ p _)

end

end Sys2Proof.Machine
end

section
/-! SUPPORT. Each command answers a next state and keeps what `State.Keeps` says, and the invariants of the queue, the catalog's
order, the frame stack, the notice queues and the links that follow from it. -/

namespace Sys2Proof.Machine

set_option Elab.async false

open Sys2Proof

/-! ### Requests -/

section
variable (s : State) (p : Port) (q : Byte)

theorem State.keeps_acceptBegin (label : Option (List Byte)) (h : s.depth < Config.maxDepth) : s.Keeps (s.acceptBegin p q label) :=
  (s.keeps_pushFrame p label h).trans (State.keeps_reply _ p q _ _)

theorem State.keeps_acceptSet {r : SetReq} {v : Value} (h : s.setCheck p r = .ok v) : s.Keeps (s.acceptSet p q r.id v) := by
  unfold State.setCheck at h
  split at h
  · cases h
  · exact (s.keeps_stage r.id v (State.stageCheck_free h)).trans (State.keeps_reply _ p q _ _)

theorem State.keeps_ownSet (r : SetReq) :
    s.Keeps (match s.setCheck p r with
      | .error c => s.refuse p q kSet c r.id
      | .ok v => s.acceptSet p q r.id v) := by
  split
  · exact s.keeps_refuse p q _ _ _
  · exact s.keeps_acceptSet p q ‹_›

theorem State.keeps_ownGet (id : Nat) : s.Keeps (s.ownGet p q id) := by
  unfold State.ownGet
  split
  · split
    · exact s.keeps_reply p q _ _
    · exact s.keeps_refuse p q _ _ _
  · exact s.keeps_refuse p q _ _ _

theorem State.keeps_acceptRollback : s.Keeps (s.acceptRollback p q) := s.keeps_rollbackFrame.trans (State.keeps_reply _ p q _ _)

theorem State.keeps_acceptMerge : s.Keeps (s.acceptMerge p q) := s.keeps_mergeTop.trans (State.keeps_reply _ p q _ _)

theorem State.keeps_acceptAbandon : s.Keeps (s.acceptAbandon p q) :=
  (s.keeps_rollbackAll.trans (State.keeps_noticeBoth _ rfl)).trans (State.keeps_reply _ p q _ _)

theorem State.keeps_acceptBulkRead (r : BulkReadReq) : s.Keeps (s.acceptBulkRead p q r) := by
  have hopen := (s.keeps_openBulk p (.reading (s.readCtx r))).trans
    (State.keeps_reply _ p q kBulkRead (.bulkRead (s.readCtx r).items.length (s.readCtx r).blocks))
  unfold State.acceptBulkRead
  dsimp only
  split
  · exact hopen.trans (State.keeps_closeBulk _ p _)
  · exact hopen

theorem State.keeps_acceptBulkWrite (count : Nat) (h : s.depth < Config.maxDepth) : s.Keeps (s.acceptBulkWrite p q count) :=
  ((s.keeps_pushFrame p none h).trans (State.keeps_openBulk _ p _)).trans (State.keeps_reply _ p q _ _)

theorem State.keeps_ownBulkAbort : s.Keeps (s.ownBulkAbort p q) := by
  unfold State.ownBulkAbort
  split
  · split
    · exact (s.keeps_endBulk p _).trans (State.keeps_reply _ p q _ _)
    · exact s.keeps_refuse p q _ _ _
  · exact s.keeps_refuse p q _ _ _

theorem State.keeps_ownDefine (r : DefineReq) : s.Keeps (s.ownDefine p q r) := by
  have hadd (d : Definition) : s.Keeps (s.addDefinition d) :=
    ⟨rfl, insertEntry_idsOrdered _, id, id, fun r => by cases r <;> exact .refl _⟩
  unfold State.ownDefine
  split
  · exact s.keeps_refuse p q _ _ _
  · exact (hadd _).trans (State.keeps_reply _ p q _ _)

theorem State.keeps_ownSetup (r : SetupReq) : s.Keeps (s.ownSetup p q r) := by
  unfold State.ownSetup
  split
  · split
    · exact State.Keeps.after (State.keeps_reply _ p q _ _) (.elsewhere rfl rfl rfl rfl rfl)
    · exact s.keeps_refuse p q _ _ _
  · exact s.keeps_refuse p q _ _ _

theorem State.keeps_startCatalogWrite : s.Keeps s.startCatalogWrite := (s.keeps_modStore _).trans (State.keeps_runTasks _)

theorem State.keeps_acceptSeal : s.Keeps (s.acceptSeal q) :=
  State.Keeps.after (State.keeps_startCatalogWrite _) (.elsewhere rfl rfl rfl rfl rfl)

theorem State.keeps_acceptWipe : s.Keeps (s.acceptWipe q) :=
  State.Keeps.after (State.keeps_operationEnded _)
    ⟨rfl, fun _ => List.Pairwise.nil, id, id, fun r => by cases r <;> exact .refl _⟩

theorem State.keeps_acceptCommit (run : Bool) : s.Keeps (s.acceptCommit p q run) := by
  have hhand : s.Keeps (s.handOver p q run) :=
    State.Keeps.after (State.keeps_stopLease _ p) (.elsewhere rfl rfl rfl rfl rfl)
  exact (hhand.trans (State.requestRoom_storeDiffers _).keeps).trans (State.keeps_choose _)

theorem State.keeps_ownWatch (rs : List IdRange) : s.Keeps (s.ownWatch p q rs) := by
  unfold State.ownWatch
  split
  · exact s.keeps_refuse p q _ _ _
  · exact (s.keeps_setWatch p rs).trans (State.keeps_reply _ p q _ _)

theorem State.keeps_ownUnwatch : s.Keeps (s.ownUnwatch p q) := by
  unfold State.ownUnwatch
  split
  · exact (s.keeps_setWatch p []).trans (State.keeps_reply _ p q _ _)
  · exact s.keeps_refuse p q _ _ _

theorem PortState.keeps_purged (x : PortState) (r : ResyncRec) : x.Keeps (x.purged q r) :=
  .of_link rfl rfl fun _ => by simp [PortState.LinkBounded, PortState.purged, Config.outboundSize]

theorem State.keeps_suppressReply : s.Keeps (s.suppressReply p) := .elsewhere rfl rfl rfl rfl rfl

theorem State.keeps_disownRequest : s.Keeps (s.disownRequest p) := by
  cases p
  · exact .elsewhere rfl rfl rfl rfl rfl
  · exact .refl s

theorem State.keeps_linkReset : s.Keeps (s.linkReset p q) := by
  have hpurge := (State.keeps_suppressReply (s.endBulk p .linkReset) p).trans (State.keeps_disownRequest _ p)
  exact ((s.keeps_endBulk p .linkReset).trans hpurge).trans
    (State.keeps_modPort _ p (f := fun x => x.purged q _) (PortState.keeps_purged q _ _))

/-- A reset leaves the commands that wait; everything else of this is as at power on (R105). -/
theorem State.keeps_resetTo (nv : NonVol) (cause : Option ResetCause) : s.Keeps (s.resetTo nv cause) :=
  ⟨rfl, fun _ => List.Pairwise.nil, fun _ => rfl, fun _ => by
    simp [State.StackBounded, State.depth, State.resetTo, State.held, Stack.reset],
    fun r => by cases r <;> exact PortState.keeps_reset _⟩

end

/-! ### Stream messages -/

section
variable (s : State) (p : Port)

theorem State.keeps_takeBlock (payload : List Byte) : s.Keeps (s.takeBlock p payload) := by
  unfold State.takeBlock
  split
  · exact s.keeps_setBulk p _
  · exact s.keeps_counting p _

theorem State.keeps_takeHold : s.Keeps (s.takeHold p) := by
  unfold State.takeHold
  split
  · exact s.keeps_setBulk p _
  · exact .refl s
  · exact .refl s
  · exact .refl s
  · exact s.keeps_counting p _

theorem State.keeps_takeGo : s.Keeps (s.takeGo p) := by
  unfold State.takeGo
  split
  · exact s.keeps_setBulk p _
  · exact .refl s
  · exact .refl s
  · exact .refl s
  · exact s.keeps_counting p _

/-! ### Events of the links -/

theorem State.keeps_rx (f : PortState → PortState) (hf : ∀ x, ∃ r o, f x = { x with rx := r, outPos := o }) :
    s.Keeps (s.modPort p f) := by
  refine s.keeps_modPort p ?_
  obtain ⟨r, o, h⟩ := hf (s.port p)
  rw [h]
  exact .of_eq rfl rfl rfl rfl rfl

theorem State.keeps_framingFault : s.Keeps (s.framingFault p) :=
  (s.keeps_counting p _).trans (State.keeps_rx _ p _ fun x => ⟨.hunt, x.outPos, rfl⟩)

theorem State.keeps_cut (taken : List Byte) : s.Keeps (s.cut taken) := by
  have hcut : s.Keeps (s.modPort .A (fun x => { x with rx := .hunt, outPos := 0 })) :=
    s.keeps_rx .A _ fun _ => ⟨.hunt, 0, rfl⟩
  unfold State.cut
  dsimp only
  split
  · exact .refl s
  · split
    · exact hcut
    · exact hcut.trans (State.keeps_counting _ .A _)

theorem State.keeps_takeBreak : s.Keeps s.takeBreak :=
  State.Keeps.after (State.keeps_linkReset _ .B 0)
    (State.Keeps.after (State.keeps_counting _ .B _) (.elsewhere rfl rfl rfl rfl rfl))

theorem State.keeps_messageSent : s.Keeps (s.messageSent p) := by
  unfold State.messageSent
  split
  · split
    · exact .refl s
    · rename_i m rest hqueue
      refine s.keeps_modPort p (.of_link rfl rfl ?_)
      simp only [PortState.LinkBounded, hqueue, List.length_cons]
      rintro ⟨_, hrest⟩
      exact ⟨by omega, hrest⟩
  · exact .refl s

/-! ### What the part does of itself at a port -/

theorem State.keeps_placeCredit (w : WriteCtx) (h : (s.port p).canPlace = true) : s.Keeps (s.placeCredit p w) :=
  s.keeps_modPort p (PortState.keeps_placeGranted _ h _ _)

theorem State.keeps_placeDone (d : DoneRec) (h : (s.port p).canPlace = true) : s.Keeps (s.placeDone p d) :=
  s.keeps_modPort p (PortState.keeps_placeGranted _ h _ _)

theorem State.keeps_sendNotices (h : (s.port p).canPlace = true) : s.Keeps (s.modPort p PortState.sendNotices) :=
  s.keeps_modPort p ((PortState.keeps_placeGranted (.notice _) h _ _).trans (PortState.keeps_drained _))

theorem State.keeps_expire : s.Keeps (s.expire p) :=
  ((((s.keeps_stopLease p).trans (State.keeps_endBulkAtExpiry _ p)).trans (State.keeps_rollbackAll _)).trans
    (State.keeps_noticeTo _ p rfl)).trans (State.keeps_noticeBoth _ rfl)

/-! ### Start-up and supply -/

theorem State.keeps_scanned : s.Keeps s.scanned := by
  unfold State.scanned
  split
  · exact ⟨rfl, fun _ => Catalog.loaded_idsOrdered _, id, id, fun r => by cases r <;> exact .refl _⟩
  · exact ⟨rfl, fun _ => List.Pairwise.nil, id, id, fun r => by cases r <;> exact .refl _⟩

theorem State.keeps_replayed : s.Keeps s.replayed := by
  unfold State.replayed
  split
  · exact ⟨rfl, idsOrdered_of_defns (replay_defns _ _), id, id, fun r => by cases r <;> exact .refl _⟩
  · exact .elsewhere rfl rfl rfl rfl rfl

theorem PortState.keeps_fillStart (x : PortState) (r : StartRec) : x.Keeps (x.fillStart r) :=
  .of_link rfl rfl (by simp only [PortState.LinkBounded, PortState.fillStart, List.length_map]; exact id)

theorem State.keeps_enterReady (r : ReplayResult) : s.Keeps (s.enterReady r) :=
  .of_ports rfl rfl rfl fun p => by cases p <;> exact PortState.keeps_fillStart _ _

theorem State.keeps_cleanedUp : s.Keeps s.cleanedUp :=
  State.Keeps.after (State.keeps_choose _) (State.Keeps.after (State.keeps_enterReady _ _) (.elsewhere rfl rfl rfl rfl rfl))

theorem State.keeps_warn : s.Keeps s.warn := by
  have hset : s.Keeps (s.setSupply .warn) := .elsewhere rfl rfl rfl rfl rfl
  unfold State.warn
  dsimp only
  split
  · exact (hset.trans (State.keeps_storeWarned _)).trans (State.keeps_noticeBoth _ rfl)
  · exact hset

theorem State.keeps_recover : s.Keeps s.recover := by
  have hset : s.Keeps (s.setSupply .normal) := .elsewhere rfl rfl rfl rfl rfl
  unfold State.recover
  dsimp only
  split
  · exact (hset.trans (State.keeps_storeRestored _)).trans (State.keeps_noticeBoth _ rfl)
  · exact hset

end

/-! ### Every command -/

theorem firstFail_passes {checks : List (Bool × RefuseCode)} (h : firstFail checks = none) {c : Bool × RefuseCode}
    (hc : c ∈ checks) : c.1 = true :=
  (firstFail_eq_none_iff checks).mp h c hc

/-- What a command of the Bulk Engine places has its place granted (R128, R173). -/
theorem State.keeps_ifGranted (s : State) (p : Port) {t : State} (h : (s.port p).canPlace = true → s.Keeps t) :
    s.Keeps (if s.ready && (s.port p).grantsBulk then t else s) := by
  split
  · rename_i hgrant
    rw [Bool.and_eq_true] at hgrant
    exact h (PortState.canPlace_of_grantsBulk hgrant.2)
  · exact .refl s

theorem State.keeps_ite (s : State) {c : Prop} [Decidable c] {t : State} (h : s.Keeps t) : s.Keeps (if c then t else s) := by
  split
  · exact h
  · exact .refl s

theorem execBeginFrame_keeps (p : Port) (q : Byte) (b : List Byte) (s : State) :
    ∃ t, exec (.beginFrame p q b) s = .next t ∧ s.Keeps t :=
  ⟨_, rfl, s.keeps_request fun label s => s.keeps_ownChecks fun hpass =>
    s.keeps_acceptBegin p q label
      (of_decide_eq_true (firstFail_passes hpass (c := (decide (s.depth < Config.maxDepth), .stackFull)) (by simp [State.beginChecks])))⟩

theorem execBulkWrite_keeps (p : Port) (q : Byte) (b : List Byte) (s : State) :
    ∃ t, exec (.bulkWrite p q b) s = .next t ∧ s.Keeps t :=
  ⟨_, rfl, s.keeps_request fun count s => s.keeps_ownChecks fun hpass =>
    s.keeps_acceptBulkWrite p q count
      (of_decide_eq_true (firstFail_passes hpass (c := (decide (s.depth < Config.maxDepth), .stackFull)) (by simp [State.bulkWriteChecks])))⟩

theorem execSeal_keeps (p : Port) (q : Byte) (b : List Byte) (s : State) : ∃ t, exec (.seal p q b) s = .next t ∧ s.Keeps t := by
  refine ⟨_, rfl, s.keeps_request fun _ s => ?_⟩
  split
  · exact s.keeps_refuse p q _ _ _
  · exact s.keeps_acceptSeal q

theorem execWipe_keeps (p : Port) (q : Byte) (b : List Byte) (s : State) : ∃ t, exec (.wipe p q b) s = .next t ∧ s.Keeps t := by
  refine ⟨_, rfl, s.keeps_request fun _ s => ?_⟩
  split
  · exact s.keeps_acceptWipe q
  · exact s.keeps_refuse p q _ _ _

theorem execCommit_keeps (p : Port) (q : Byte) (b : List Byte) (run : Bool) (s : State) :
    ∃ t, exec (.commit p q b run) s = .next t ∧ s.Keeps t := by
  refine ⟨_, rfl, s.keeps_request fun _ s => ?_⟩
  split
  · exact s.keeps_refuse p q _ _ _
  · exact s.keeps_acceptCommit p q run

theorem execData_keeps (p : Port) (s : State) : ∃ t, exec (.data p) s = .next t ∧ s.Keeps t := by
  refine ⟨_, rfl, ?_⟩
  split
  · exact s.keeps_ifGranted p (s.keeps_placeData p _)
  all_goals exact .refl s

theorem execCredit_keeps (p : Port) (s : State) : ∃ t, exec (.credit p) s = .next t ∧ s.Keeps t := by
  refine ⟨_, rfl, ?_⟩
  split
  · exact s.keeps_ifGranted p (s.keeps_placeCredit p _)
  all_goals exact .refl s

theorem execBulkDone_keeps (p : Port) (s : State) : ∃ t, exec (.bulkDone p) s = .next t ∧ s.Keeps t := by
  refine ⟨_, rfl, ?_⟩
  split
  · exact s.keeps_ifGranted p (s.keeps_placeDone p _)
  all_goals exact .refl s

theorem execNotice_keeps (p : Port) (s : State) : ∃ t, exec (.notice p) s = .next t ∧ s.Keeps t := by
  refine ⟨_, rfl, ?_⟩
  split
  · rename_i hgrant
    rw [Bool.and_eq_true] at hgrant
    exact s.keeps_sendNotices p (PortState.canPlace_of_grantsNotice hgrant.2)
  · exact .refl s

theorem execBlockProcessing_keeps (p : Port) (s : State) : ∃ t, exec (.blockProcessing p) s = .next t ∧ s.Keeps t := by
  refine ⟨_, rfl, ?_⟩
  split
  · split
    · exact .refl s
    · exact s.keeps_processBlock p _ _
  all_goals exact .refl s

/-- Every command answers a next state, and keeps what `State.Keeps` says. -/
theorem exec_keeps (c : Instr) (s : State) : ∃ t, exec c s = .next t ∧ s.Keeps t := by
  cases c with
  | describe p q b => exact ⟨_, rfl, s.keeps_request fun _ s => s.keeps_reply p q _ _⟩
  | status p q b run => exact ⟨_, rfl, s.keeps_request fun _ s => s.keeps_reply p q _ _⟩
  | linkReset p q b => exact ⟨_, rfl, s.keeps_request fun _ s => s.keeps_linkReset p q⟩
  | restart p q b ok => exact ⟨_, rfl, s.keeps_request fun _ s => s.keeps_resetTo _ _⟩
  | define p q b => exact ⟨_, rfl, s.keeps_request fun r s => s.keeps_ownDefine p q r⟩
  | setup p q b => exact ⟨_, rfl, s.keeps_request fun r s => s.keeps_ownSetup p q r⟩
  | wipe p q b => exact execWipe_keeps p q b s
  | beginFrame p q b => exact execBeginFrame_keeps p q b s
  | set p q b => exact ⟨_, rfl, s.keeps_request fun r s => s.keeps_ownSet p q r⟩
  | get p q b => exact ⟨_, rfl, s.keeps_request fun id s => s.keeps_ownGet p q id⟩
  | rollback p q b =>
    exact ⟨_, rfl, s.keeps_request fun _ s => s.keeps_ownChecks fun _ => s.keeps_acceptRollback p q⟩
  | merge p q b => exact ⟨_, rfl, s.keeps_request fun _ s => s.keeps_ownChecks fun _ => s.keeps_acceptMerge p q⟩
  | abandon p q b => exact ⟨_, rfl, s.keeps_request fun _ s => s.keeps_ownChecks fun _ => s.keeps_acceptAbandon p q⟩
  | commit p q b run => exact execCommit_keeps p q b run s
  | bulkRead p q b =>
    exact ⟨_, rfl, s.keeps_request fun r s => s.keeps_ownChecks fun _ => s.keeps_acceptBulkRead p q r⟩
  | bulkWrite p q b => exact execBulkWrite_keeps p q b s
  | bulkAbort p q b => exact ⟨_, rfl, s.keeps_request fun _ s => s.keeps_ownBulkAbort p q⟩
  | watch p q b => exact ⟨_, rfl, s.keeps_request fun rs s => s.keeps_ownWatch p q rs⟩
  | unwatch p q b => exact ⟨_, rfl, s.keeps_request fun _ s => s.keeps_ownUnwatch p q⟩
  | unknownKind p q k b => exact ⟨_, rfl, s.keeps_takeRequest fun s => s.keeps_answer p q _ _⟩
  | block p b => exact ⟨_, rfl, s.keeps_streamMessage fun s => s.keeps_takeBlock p b⟩
  | hold p => exact ⟨_, rfl, s.keeps_streamMessage fun s => s.keeps_takeHold p⟩
  | go p => exact ⟨_, rfl, s.keeps_streamMessage fun s => s.keeps_takeGo p⟩
  | checkError p => exact ⟨_, rfl, s.keeps_ite (s.keeps_counting p _)⟩
  | framingError f => exact ⟨_, rfl, s.keeps_ite (s.keeps_framingFault _)⟩
  | cutMessage taken => exact ⟨_, rfl, s.keeps_ite (s.keeps_cut taken)⟩
  | breakStart => exact ⟨_, rfl, s.keeps_ite s.keeps_takeBreak⟩
  | breakEnd => exact ⟨_, rfl, .elsewhere rfl rfl rfl rfl rfl⟩
  | messageSentA => exact ⟨_, rfl, s.keeps_messageSent .A⟩
  | messageSentB => exact ⟨_, rfl, s.keeps_messageSent .B⟩
  | data p => exact execData_keeps p s
  | credit p => exact execCredit_keeps p s
  | bulkDone p => exact execBulkDone_keeps p s
  | notice p => exact execNotice_keeps p s
  | blockProcessing p => exact execBlockProcessing_keeps p s
  | leaseExpiry p => exact ⟨_, rfl, s.keeps_ite (s.keeps_expire p)⟩
  | warnCrossing => exact ⟨_, rfl, s.keeps_ite s.keeps_warn⟩
  | normalCrossing => exact ⟨_, rfl, s.keeps_ite s.keeps_recover⟩
  | cutoff => exact ⟨_, rfl, s.keeps_resetTo _ _⟩
  | pinReset => exact ⟨_, rfl, s.keeps_resetTo _ _⟩
  | powerOnReset => exact ⟨_, rfl, s.keeps_resetTo _ _⟩
  | heldExit vdd => exact ⟨_, rfl, s.keeps_ite (.elsewhere rfl rfl rfl rfl rfl)⟩
  | scanEnd => exact ⟨_, rfl, s.keeps_ite s.keeps_scanned⟩
  | replayEnd => exact ⟨_, rfl, s.keeps_ite s.keeps_replayed⟩
  | cleanupEnd => exact ⟨_, rfl, s.keeps_ite s.keeps_cleanedUp⟩
  | slotProgramDone ok mapOk => exact ⟨_, rfl, s.keeps_programEnds ok mapOk⟩
  | sectorEraseDone r mapOk => exact ⟨_, rfl, s.keeps_eraseEnds r mapOk⟩
  | _ =>
    -- SEAL, whose constructor's name is a keyword of Lean
    rename_i p q b
    exact execSeal_keeps p q b s

/-- A step idles, or runs the command at the front of the queue on the rest of it. -/
theorem step_cases {s t : State} (h : step s = .next t) :
    (s.pending = [] ∧ t = s) ∨ ∃ c rest, s.pending = c :: rest ∧ exec c { s with pending := rest } = .next t := by
  unfold step at h
  split at h
  · cases h
    exact .inl ⟨‹_›, rfl⟩
  · exact .inr ⟨_, _, ‹_›, h⟩

/-- A step keeps, but for the command it takes, what every command keeps. -/
theorem step_keeps {s t : State} (h : step s = .next t) : ∃ rest, State.Keeps { s with pending := rest } t := by
  obtain ⟨-, rfl⟩ | ⟨c, rest, -, hexec⟩ := step_cases h
  · exact ⟨t.pending, .refl t⟩
  · obtain ⟨u, hu, hkeeps⟩ := exec_keeps c { s with pending := rest }
    cases hu.symm.trans hexec
    exact ⟨rest, hkeeps⟩

/-! ### The obligations -/

/-- Settles O1: both clauses are the two branches of the step. -/
theorem stepRunsFrontCommand : Obligations.StepRunsFrontCommand := by
  refine ⟨fun c rest s => rfl, fun s hidle => ?_⟩
  simp only [step, hidle]

/-- Settles O2: each command is a `.next` of operations that leave the queue. -/
theorem everyCommandAnswersAndKeepsTheQueue : Obligations.EveryCommandAnswersAndKeepsTheQueue := by
  intro c s
  obtain ⟨t, hexec, hkeeps⟩ := exec_keeps c s
  exact ⟨t, hexec, hkeeps.pending⟩

/-- Settles O19: only DEFINE and the scan change the definitions, and both insert by id. -/
theorem catalogStaysInIdOrder : Obligations.CatalogStaysInIdOrder := by
  intro s t hids hstep
  obtain ⟨_, hkeeps⟩ := step_keeps hstep
  exact hkeeps.ids hids

/-- Settles O26: what a frame takes from the pool it gives back. -/
theorem undoPoolIsConserved : Obligations.UndoPoolIsConserved := by
  intro s t hpool hstep
  obtain ⟨_, hkeeps⟩ := step_keeps hstep
  exact hkeeps.pool hpool

/-- Settles O27: BEGIN and BULK_WRITE push below 8 frames and name the owner; what empties the stack drops it. -/
theorem depthAndOwnerStayBound : Obligations.DepthAndOwnerStayBound := by
  intro s t hbounded hstep
  obtain ⟨_, hkeeps⟩ := step_keeps hstep
  exact hkeeps.bounded hbounded

/-- Settles O51: a notice that joins and a NOTICE that leaves keep the bounds of the queue. -/
theorem noticeQueuesStayBounded : Obligations.NoticeQueuesStayBounded := by
  intro s t hA hB hstep
  obtain ⟨_, hkeeps⟩ := step_keeps hstep
  exact ⟨(hkeeps.ports .A).notices hA, (hkeeps.ports .B).notices hB⟩

/-- Settles O59: a place is kept for every request that is outstanding. -/
theorem linkQueuesStayBounded : Obligations.LinkQueuesStayBounded := by
  intro s t hA hB hstep
  obtain ⟨_, hkeeps⟩ := step_keeps hstep
  exact ⟨(hkeeps.ports .A).link hA, (hkeeps.ports .B).link hB⟩

theorem PortState.reset_ramLost : PortState.reset.RamLost := by decide

theorem State.held_coherent (nv : NonVol) (cause : Option ResetCause) (supply : Supply) (draws : Nat) (pending : List Instr)
    (hring : ∀ x ∈ nv.ring, 4 ≤ x.sector) : (State.held nv cause supply draws pending).Coherent := by
  have hport (p : Port) : (State.held nv cause supply draws pending).PortCoherent p := by
    cases p <;> simp [State.PortCoherent, State.port, State.held, PortState.reset, BulkCtx.locks, BulkCtx.active]
  refine ⟨?_, ?_, hport .A, hport .B, ?_, ?_⟩
  · simp [State.held, Stack.reset]
  · simp [State.held, PortState.reset, BulkCtx.active, Store.reset]
  · simp [State.CommitCoherent, State.held]
  · have htable : ∀ x ∈ Store.reset.table, 4 ≤ x.sector := by decide
    exact ⟨by simp [State.held, Store.reset], by simp [State.held, Store.reset], fun _ _ => rfl, trivial, htable, hring⟩

/-- Settles O60: a reset empties what the invariants speak of; the blank ring holds the sectors from 4 on. -/
theorem resetMeetsTheInvariants : Obligations.ResetMeetsTheInvariants := by
  have hring : ∀ x ∈ NonVol.blank.ring, 4 ≤ x.sector := by decide
  refine ⟨⟨rfl, rfl, rfl, rfl, rfl, rfl, rfl, rfl, rfl, rfl, rfl, PortState.reset_ramLost, PortState.reset_ramLost, rfl⟩, rfl,
    List.Pairwise.nil, rfl, ?_, State.held_coherent _ _ _ _ _ hring, ?_, ?_, ?_, ?_⟩
  · simp [State.StackBounded, State.depth, State.reset, State.held, Stack.reset]
  · simp [State.UndoDistinct, State.reset, State.held, Stack.reset]
  · simp [State.ChangesFixed, State.reset, State.held]
  · simp [State.ViewsRestorable, State.reset, State.held, Catalog.reset, Stack.reset, restoreFrames]
  · decide

end Sys2Proof.Machine
end

section
/-! SUPPORT. The rights that follow the ownership of the stack, as one record: who owns, how deep the stack is, which timers run, what
the bulk contexts do and which commit is in flight; when they agree, and which changes keep them in agreement (R24, R51, R70, R74). -/

namespace Sys2Proof.Machine

set_option Elab.async false

open Sys2Proof

/-! ### The record -/

/-- What `State.Coherent` says of ownership, leases, transfers and the commit speaks of these. -/
@[ext] structure Rights where
  owner : Option Port
  depth : Nat
  state : CatState
  ready : Bool
  commit : Option InFlight
  durable : Nat
  runs : Port → Bool
  bulk : Port → BulkCtx

/-- The rights as they stand. -/
def State.rights (s : State) : Rights :=
  { owner := s.stack.owner, depth := s.depth, state := s.catalog.state, ready := s.ready, commit := s.commit,
    durable := s.store.durable, runs := fun p => (s.port p).lease.isRunning, bulk := fun p => (s.port p).bulk }

/-- The rights agree (R24, R51, R70, R74, R136, R137). -/
structure Rights.Agree (v : Rights) : Prop where
  bounded : v.owner.isSome = true ↔ v.depth ≠ 0
  owner : v.owner ≠ none → v.state = .sealed ∧ v.ready = true
  early : v.ready = false → ∀ p, (v.bulk p).active = false
  lease : ∀ p, v.runs p = true → v.owner = some p ∧ v.commit = none
  locks : ∀ p, (v.bulk p).locks = true → v.owner = some p
  active : ∀ p, (v.bulk p).active = true → v.state = .sealed
  credits : ∀ p w, v.bulk p = .writing w → w.creditsOpen + w.buffer.length + w.creditsPending = 2
  commit : ∀ c, v.commit = some c →
    v.depth = 1 ∧ v.owner = some c.port ∧ (v.bulk c.port).active = false ∧ c.number = v.durable + 1

/-- Nobody owns anything: no owner, no commit, no timer, no active transfer. -/
structure Rights.Unused (v : Rights) : Prop where
  owner : v.owner = none
  depth : v.depth = 0
  commit : v.commit = none
  runs : ∀ p, v.runs p = false
  bulk : ∀ p, (v.bulk p).active = false

theorem Lease.isRunning_iff (l : Lease) : l.isRunning = true ↔ l ≠ .stopped := by cases l <;> simp [Lease.isRunning]

/-- What is left of `State.Coherent`: the store, and its silence before READY. -/
def State.StoreSound (s : State) : Prop :=
  s.StoreCoherent ∧ (s.ctl.start ≠ .ready → s.store.operation = .idle ∧ s.store.arrayOp = .none)

theorem State.owner_iff_depth {s : State} (h : s.StackBounded) : s.stack.owner.isSome = true ↔ s.depth ≠ 0 := by
  rw [h.2, State.depth, ne_eq, ne_eq, List.length_eq_zero_iff]

theorem State.coherent_iff {s : State} (hb : s.StackBounded) : s.Coherent ↔ s.rights.Agree ∧ s.StoreSound := by
  have hready : s.ready = false ↔ s.ctl.start ≠ .ready := by rw [← Bool.not_eq_true, State.ready_iff]
  constructor
  · rintro ⟨howner, hearly, ⟨hleaseA, hlocksA, hactiveA, hcreditsA⟩, ⟨hleaseB, hlocksB, hactiveB, hcreditsB⟩, hcommit, hstore⟩
    refine ⟨⟨State.owner_iff_depth hb, fun h => ?_, fun h => ?_, fun p h => ?_, ?_, ?_, ?_, hcommit⟩, hstore,
      fun h => (hearly h).2.2⟩
    · exact ⟨(howner h).1, (State.ready_iff s).mpr (howner h).2⟩
    · obtain ⟨hA, hB, -⟩ := hearly (hready.mp h)
      exact fun p => by cases p <;> assumption
    · rw [State.rights, Lease.isRunning_iff] at h
      cases p
      exacts [hleaseA h, hleaseB h]
    all_goals exact fun p => by cases p <;> assumption
  · rintro ⟨⟨-, howner, hearly, hlease, hlocks, hactive, hcredits, hcommit⟩, hstore, hquiet⟩
    have hport (p : Port) : s.PortCoherent p :=
      ⟨fun h => hlease p ((Lease.isRunning_iff _).mpr h), hlocks p, hactive p, hcredits p⟩
    refine ⟨fun h => ⟨(howner h).1, (State.ready_iff s).mp (howner h).2⟩, fun h => ?_, hport .A, hport .B, hcommit, hstore⟩
    exact ⟨hearly (hready.mpr h) .A, hearly (hready.mpr h) .B, hquiet h⟩

/-! ### Changes that keep the agreement -/

section
variable {v : Rights}

theorem BulkCtx.active_of_locks {b : BulkCtx} (h : b.locks = true) : b.active = true := by
  cases b with
  | reading _ => rfl
  | paused _ => rfl
  | writing _ => rfl
  | idle => cases h
  | closing _ => cases h

theorem BulkCtx.locks_of_inactive {b : BulkCtx} (h : b.active = false) : b.locks = false := by
  cases hl : b.locks with
  | false => rfl
  | true => rw [BulkCtx.active_of_locks hl] at h; cases h

theorem Rights.Unused.agree (h : v.Unused) : v.Agree := by
  obtain ⟨howner, hdepth, hcommit, hruns, hbulk⟩ := h
  refine ⟨by simp [howner, hdepth], fun h => absurd howner h, fun _ => hbulk, fun p h => ?_, fun p h => ?_, fun p h => ?_,
    fun p w h => ?_, fun c h => ?_⟩
  · rw [hruns] at h; cases h
  · rw [BulkCtx.locks_of_inactive (hbulk p)] at h; cases h
  · rw [hbulk] at h; cases h
  · have hp := hbulk p; rw [h] at hp; cases hp
  · rw [hcommit] at h; cases h

namespace Rights.Agree

variable (h : v.Agree)
include h

theorem depth_zero : v.depth = 0 ↔ v.owner = none := by
  rw [← Option.not_isSome_iff_eq_none, h.bounded, not_not]

theorem commit_none_of_owner (ho : v.owner = none) : v.commit = none := by
  cases hc : v.commit with
  | none => rfl
  | some c =>
    obtain ⟨-, hown, -⟩ := h.commit c hc
    rw [ho] at hown; cases hown

theorem runs_false_of_owner (ho : v.owner = none) (p : Port) : v.runs p = false := by
  cases hr : v.runs p with
  | false => rfl
  | true => exact absurd ((h.lease p hr).1) (by simp [ho])

/-- Outside SEALED nothing is owned and no transfer goes on (R9, R51). -/
theorem unused (hstate : v.state ≠ .sealed) : v.Unused := by
  have howner : v.owner = none := by
    by_contra ho
    exact hstate (h.owner ho).1
  refine ⟨howner, h.depth_zero.mpr howner, h.commit_none_of_owner howner, h.runs_false_of_owner howner, fun p => ?_⟩
  cases ha : (v.bulk p).active with
  | false => rfl
  | true => exact absurd (h.active p ha) hstate

/-- A transfer that works on the staged values stands beside no commit (R52, R136). -/
theorem commit_none_of_locks {p : Port} (hl : (v.bulk p).locks = true) : v.commit = none := by
  cases hc : v.commit with
  | none => rfl
  | some c =>
    obtain ⟨-, hown, hinactive, -⟩ := h.commit c hc
    rw [h.locks p hl] at hown
    cases hown
    rw [BulkCtx.active_of_locks hl] at hinactive
    cases hinactive

/-- Only the owner's transfer can work on the staged values. -/
theorem locks_false_of_ne {p r : Port} (ho : v.owner = some p) (hr : r ≠ p) : (v.bulk r).locks = false := by
  cases hl : (v.bulk r).locks with
  | false => rfl
  | true => exact absurd (Option.some.inj ((h.locks r hl).symm.trans ho)) hr

/-- A port's context changes (R127, R130, R132, R137). -/
theorem setBulk {p : Port} {b : BulkCtx} (hl : b.locks = true → v.owner = some p)
    (ha : b.active = true → v.state = .sealed ∧ v.ready = true ∧ ∀ c, v.commit = some c → c.port ≠ p)
    (hw : ∀ w, b = .writing w → w.creditsOpen + w.buffer.length + w.creditsPending = 2) :
    Rights.Agree { v with bulk := Function.update v.bulk p b } := by
  refine ⟨h.bounded, h.owner, fun hr r => ?_, h.lease, fun r => ?_, fun r => ?_, fun r w => ?_, fun c hc => ?_⟩
  · simp only [Function.update_apply]
    split
    · cases hb : b.active with
      | false => rfl
      | true => exact absurd (ha hb).2.1 (by simpa using hr)
    · exact h.early hr r
  · simp only [Function.update_apply]
    split
    · rename_i hrp; exact hrp ▸ hl
    · exact h.locks r
  · simp only [Function.update_apply]
    split
    · exact fun hb => (ha hb).1
    · exact h.active r
  · simp only [Function.update_apply]
    split
    · exact hw w
    · exact h.credits r w
  · obtain ⟨hd, hown, hinactive, hnum⟩ := h.commit c hc
    refine ⟨hd, hown, ?_, hnum⟩
    simp only [Function.update_apply]
    split
    · rename_i hcp
      cases hb : b.active with
      | false => rfl
      | true => exact absurd hcp ((ha hb).2.2 c hc)
    · exact hinactive

/-- A context ends (R127). -/
theorem endBulk (p : Port) {b : BulkCtx} (hb : b.active = false) : Rights.Agree { v with bulk := Function.update v.bulk p b } := by
  refine h.setBulk (fun hl => ?_) (fun ha => ?_) (fun w hw => ?_)
  · rw [BulkCtx.locks_of_inactive hb] at hl; cases hl
  · rw [hb] at ha; cases ha
  · rw [hw] at hb; cases hb

/-- A context goes on in another that asks for no more (R132, R137). -/
theorem nextBulk {p : Port} {b : BulkCtx} (hactive : (v.bulk p).active = true) (hlocks : b.locks = (v.bulk p).locks)
    (hw : ∀ w, b = .writing w → w.creditsOpen + w.buffer.length + w.creditsPending = 2) :
    Rights.Agree { v with bulk := Function.update v.bulk p b } := by
  refine h.setBulk (fun hl => h.locks p (hlocks ▸ hl)) (fun _ => ⟨h.active p hactive, ?_, fun c hc hcp => ?_⟩) hw
  · cases hr : v.ready with
    | true => rfl
    | false => rw [h.early hr p] at hactive; cases hactive
  · obtain ⟨-, -, hinactive, -⟩ := h.commit c hc
    rw [hcp, hactive] at hinactive
    cases hinactive

/-- A timer stops (R70). -/
theorem stopLease (p : Port) : Rights.Agree { v with runs := Function.update v.runs p false } := by
  refine ⟨h.bounded, h.owner, h.early, fun r hr => ?_, h.locks, h.active, h.credits, h.commit⟩
  simp only [Function.update_apply] at hr
  split at hr
  · cases hr
  · exact h.lease r hr

/-- The commit in flight ends without effect, and the owner's timer may start again (R66). -/
theorem commitEnds {c : InFlight} (hc : v.commit = some c) (run : Bool) :
    Rights.Agree { v with commit := none, runs := Function.update v.runs c.port run } := by
  obtain ⟨-, hown, -⟩ := h.commit c hc
  refine ⟨h.bounded, h.owner, h.early, fun r hr => ?_, h.locks, h.active, h.credits, nofun⟩
  simp only [Function.update_apply] at hr
  split at hr
  · rename_i hrp; exact ⟨hrp ▸ hown, rfl⟩
  · exact ⟨(h.lease r hr).1, rfl⟩

/-- The owner goes with the last frame, and no transfer works on the staged values any more (R31, R73, R74). -/
theorem emptied (hlocks : ∀ p, (v.bulk p).locks = false) (n : Nat) :
    Rights.Agree { v with owner := none, depth := 0, commit := none, runs := fun _ => false, durable := n } := by
  refine ⟨by simp, fun h => absurd rfl h, h.early, nofun, fun p hp => ?_, h.active, h.credits, nofun⟩
  rw [hlocks] at hp; cases hp

/-- A frame leaves that is not the last, with no commit in flight (R45, R47). -/
theorem depthChanged (hc : v.commit = none) (hd : v.depth ≠ 0) {n : Nat} (hn : n ≠ 0) : Rights.Agree { v with depth := n } := by
  refine ⟨?_, h.owner, h.early, h.lease, h.locks, h.active, h.credits, fun c hc' => ?_⟩
  · simp only [h.bounded, hn, hd, ne_eq, not_false_eq_true]
  · rw [hc] at hc'; cases hc'

/-- The first frame brings its owner (R30, R37). -/
theorem firstFrame (hd : v.depth = 0) (hstate : v.state = .sealed) (hready : v.ready = true) (p : Port) (run : Bool) :
    Rights.Agree { v with owner := some p, depth := 1, runs := Function.update v.runs p run } := by
  have ho := h.depth_zero.mp hd
  have hc := h.commit_none_of_owner ho
  refine ⟨by simp, fun _ => ⟨hstate, hready⟩, h.early, fun r hr => ?_, fun r hr => ?_, h.active, h.credits, fun c hc' => ?_⟩
  · simp only [Function.update_apply] at hr
    split at hr
    · rename_i hrp; exact ⟨hrp ▸ rfl, hc⟩
    · rw [h.runs_false_of_owner ho] at hr; cases hr
  · exact absurd (h.locks r hr) (by simp [ho])
  · rw [hc] at hc'; cases hc'

/-- A COMMIT is accepted (R52, R56, R57). -/
theorem committed {c : InFlight} (hd : v.depth = 1) (ho : v.owner = some c.port) (ha : (v.bulk c.port).active = false)
    (hn : c.number = v.durable + 1) :
    Rights.Agree { v with commit := some c, runs := Function.update v.runs c.port false } := by
  refine ⟨h.bounded, h.owner, h.early, fun r hr => ?_, h.locks, h.active, h.credits, fun c' hc' => ?_⟩
  · simp only [Function.update_apply] at hr
    split at hr
    · cases hr
    · rename_i hrp
      exact absurd (Option.some.inj (ho.symm.trans (h.lease r hr).1)) (Ne.symm hrp)
  · cases hc'
    exact ⟨hd, ho, ha, hn⟩

end Rights.Agree

end

end Sys2Proof.Machine
end

section
/-! SUPPORT. The store works on what the catalog state lets it (R81, R82, R88, R102, R104): when its operation, its steps, its array
operation and its table agree, and how the operations of the store keep this and the rights. -/

namespace Sys2Proof.Machine

set_option Elab.async false

open Sys2Proof

/-! ### The store by itself -/

/-- An array operation may be in progress in an operation: the catalog area is worked on by the catalog write and the wipe erase. -/
def ArrayOp.Fits (a : ArrayOp) (o : Operation) : Prop :=
  match a with
  | .areaHeader _ => o = .catalogWrite
  | .areaSlot .. => o = .catalogWrite
  | .retireMap => o = .wipeErase
  | .erase k => k < 4 → o = .catalogWrite ∨ o = .wipeErase
  | .none => True | .header .. => True | .slot .. => True

/-- An array operation that may be in progress in every operation. -/
def ArrayOp.Free (a : ArrayOp) : Prop := ∀ o, a.Fits o

theorem ArrayOp.free_none : ArrayOp.none.Free := fun _ => trivial
theorem ArrayOp.free_header (k g : Nat) (b : Bool) : (ArrayOp.header k g b).Free := fun _ => trivial
theorem ArrayOp.free_slot (k : Nat) (c : Slot) : (ArrayOp.slot k c).Free := fun _ => trivial
theorem ArrayOp.free_erase {k : Nat} (h : 4 ≤ k) : (ArrayOp.erase k).Free := fun _ hk => absurd hk (Nat.not_lt.mpr h)

/-- The operation works on the ring alone. -/
def Operation.OnRing (o : Operation) : Prop := o ≠ .catalogWrite ∧ o ≠ .wipeErase

/-- What works on the ring alone leaves the catalog area alone. -/
theorem ArrayOp.Fits.free {a : ArrayOp} {o : Operation} (h : a.Fits o) (ho : o.OnRing) : a.Free := by
  intro o'
  cases a with
  | areaHeader _ => exact absurd h ho.1
  | areaSlot _ _ => exact absurd h ho.1
  | retireMap => exact absurd h ho.2
  | erase k => exact fun hk => absurd (h hk) (by simp [ho.1, ho.2])
  | none => trivial
  | header _ _ _ => trivial
  | slot _ _ => trivial

/-- The store agrees with the catalog state and with whether the part is READY. -/
structure Store.Sound (st : Store) (state : CatState) (ready : Bool) : Prop where
  write : st.operation = .catalogWrite → state = .sealing ∧ st.tasks.all Task.ofSeal = true
  wipe : st.operation = .wipeErase → state = .wiping ∧ st.tasks.all Task.ofWipe = true
  tasks : st.operation.OnRing → st.tasks = []
  array : st.arrayOp.Fits st.operation
  table : ∀ k ∈ st.table.map (fun x => x.sector), 4 ≤ k
  quiet : ready = false → st.operation = .idle ∧ st.arrayOp = .none

theorem State.storeSound_iff (s : State) :
    s.StoreSound ↔ s.store.Sound s.catalog.state s.ready ∧ ∀ x ∈ s.nv.ring, 4 ≤ x.sector := by
  have hready : s.ready = false ↔ s.ctl.start ≠ .ready := by rw [← Bool.not_eq_true, State.ready_iff]
  have htable : (∀ k ∈ s.store.table.map (fun x => x.sector), 4 ≤ k) ↔ ∀ x ∈ s.store.table, 4 ≤ x.sector := by simp
  constructor
  · rintro ⟨⟨hwrite, hwipe, htasks, harray, htab, hring⟩, hquiet⟩
    exact ⟨⟨hwrite, hwipe, fun ho => htasks ho.1 ho.2, harray, htable.mpr htab, fun h => hquiet (hready.mp h)⟩, hring⟩
  · rintro ⟨⟨hwrite, hwipe, htasks, harray, htab, hquiet⟩, hring⟩
    exact ⟨⟨hwrite, hwipe, fun h h' => htasks ⟨h, h'⟩, harray, htable.mp htab, hring⟩, fun h => hquiet (hready.mpr h)⟩

namespace Store.Sound

variable {st st' : Store} {state : CatState} {ready : Bool} (h : st.Sound state ready)
include h

/-- Within one operation the steps stay and the array operation stays, or is one that may always be. -/
theorem same (ho : st'.operation = st.operation) (ht : st'.tasks = st.tasks)
    (ha : st'.arrayOp = st.arrayOp ∨ st'.arrayOp.Free ∧ (ready = true ∨ st'.arrayOp = .none))
    (htab : st'.table.map (fun x => x.sector) = st.table.map (fun x => x.sector)) : st'.Sound state ready := by
  refine ⟨?_, ?_, ?_, ?_, htab ▸ h.table, fun hr => ⟨ho ▸ (h.quiet hr).1, ?_⟩⟩
  · rw [ho, ht]; exact h.write
  · rw [ho, ht]; exact h.wipe
  · rw [ho, ht]; exact h.tasks
  · rcases ha with ha | ⟨ha, -⟩
    · rw [ha, ho]; exact h.array
    · exact ha _
  · rcases ha with ha | ⟨-, hr' | ha⟩
    · exact ha ▸ (h.quiet hr).2
    · rw [hr] at hr'; cases hr'
    · exact ha

/-- From one operation on the ring to another (R88). -/
theorem work (hon : st.operation.OnRing) (ho : st'.operation.OnRing) (hr : ready = true) (ht : st'.tasks = st.tasks)
    (ha : st'.arrayOp = st.arrayOp ∨ st'.arrayOp.Free)
    (htab : st'.table.map (fun x => x.sector) = st.table.map (fun x => x.sector)) : st'.Sound state ready := by
  refine ⟨fun hw => absurd hw ho.1, fun hw => absurd hw ho.2, fun _ => ht ▸ h.tasks hon, ?_, htab ▸ h.table, fun hr' => ?_⟩
  · rcases ha with ha | ha
    · exact ha ▸ h.array.free hon _
    · exact ha _
  · rw [hr] at hr'; cases hr'

/-- The store is IDLE with nothing to do, whatever the catalog state. -/
theorem idle (ho : st'.operation = .idle) (ht : st'.tasks = []) (ha : st'.arrayOp = .none)
    (htab : st'.table.map (fun x => x.sector) = st.table.map (fun x => x.sector)) (state' : CatState) : st'.Sound state' ready := by
  refine ⟨?_, ?_, fun _ => ht, ha ▸ trivial, htab ▸ h.table, fun _ => ⟨ho, ha⟩⟩ <;> rw [ho] <;> exact nofun

/-- Outside SEALING and WIPING the store works on the ring alone. -/
theorem onRing (hs : state ≠ .sealing) (hw : state ≠ .wiping) : st.operation.OnRing :=
  ⟨fun ho => hs (h.write ho).1, fun ho => hw (h.wipe ho).1⟩

end Store.Sound

theorem Operation.onRing_idle : Operation.idle.OnRing := ⟨nofun, nofun⟩
theorem Operation.onRing_appending : Operation.appending.OnRing := ⟨nofun, nofun⟩
theorem Operation.onRing_compacting : Operation.compacting.OnRing := ⟨nofun, nofun⟩
theorem Operation.onRing_erasing : Operation.erasing.OnRing := ⟨nofun, nofun⟩

/-! ### The sectors of the table -/

theorem sectors_map {f : SectorRec → SectorRec} (hf : ∀ x, (f x).sector = x.sector) (xs : List SectorRec) :
    (xs.map f).map (fun x => x.sector) = xs.map (fun x => x.sector) := by
  rw [List.map_map]
  exact List.map_congr_left fun x _ => hf x

theorem Store.modRec_sectors (st : Store) (k : Nat) {f : SectorRec → SectorRec} (hf : ∀ x, (f x).sector = x.sector) :
    (st.modRec k f).table.map (fun x => x.sector) = st.table.map (fun x => x.sector) :=
  sectors_map (fun x => by split; exacts [hf x, rfl]) _

theorem Store.closeOff_sectors (st : Store) : st.closeOff.table.map (fun x => x.sector) = st.table.map (fun x => x.sector) :=
  sectors_map (fun x => by split <;> rfl) _

theorem Store.supersede_sectors (st : Store) (g : Nat) :
    (st.supersede g).table.map (fun x => x.sector) = st.table.map (fun x => x.sector) :=
  sectors_map (fun x => by split <;> rfl) _

theorem Store.useSlot_sectors (st : Store) (k : Nat) :
    (st.useSlot k).table.map (fun x => x.sector) = st.table.map (fun x => x.sector) := st.modRec_sectors k fun _ => rfl

theorem Store.ringErased_sectors (st : Store) : st.ringErased.table.map (fun x => x.sector) = st.table.map (fun x => x.sector) :=
  sectors_map (f := fun x => { x with generation := none }) (fun _ => rfl) _

/-- The sector that is erased next stands in the table (R88). -/
theorem Store.nextStale_mem {st : Store} {k : Nat} (h : st.nextStale = some k) : k ∈ st.table.map (fun x => x.sector) := by
  have hfold : ∀ (xs : List SectorRec) (b : Option SectorRec) (y : SectorRec),
      xs.foldl (fun best x => match best with
        | none => some x
        | some y => if x.generation.getD 0 < y.generation.getD 0 then some x else some y) b = some y → b = some y ∨ y ∈ xs := by
    intro xs
    induction xs with
    | nil => exact fun b y hy => .inl hy
    | cons x xs ih =>
      intro b y hy
      rcases ih _ y hy with hb | hm
      · cases b with
        | none => cases hb; exact .inr (List.mem_cons_self ..)
        | some z =>
          dsimp only at hb
          split at hb
          · cases hb; exact .inr (List.mem_cons_self ..)
          · exact .inl hb
      · exact .inr (List.mem_cons_of_mem _ hm)
  unfold Store.nextStale at h
  dsimp only at h
  split at h
  · rename_i x hx
    cases h
    exact List.mem_map_of_mem (List.mem_of_mem_filter (List.mem_of_find?_eq_some hx))
  · obtain ⟨y, hy, rfl⟩ := Option.map_eq_some_iff.mp h
    rcases hfold _ _ y hy with hn | hm
    · cases hn
    · exact List.mem_map_of_mem (List.mem_of_mem_filter hm)

/-! ### The sectors of the array -/

/-- The array's ring still holds sectors from 4 on. -/
def NonVol.RingAbove (nv : NonVol) : Prop := ∀ k ∈ nv.ring.map (fun x => x.sector), 4 ≤ k

theorem NonVol.ringAbove_iff (nv : NonVol) : nv.RingAbove ↔ ∀ x ∈ nv.ring, 4 ≤ x.sector := by simp [NonVol.RingAbove]

theorem NonVol.modRing_sectors (nv : NonVol) (k : Nat) {f : RingSector → RingSector} (hf : ∀ x, (f x).sector = x.sector) :
    (nv.modRing k f).ring.map (fun x => x.sector) = nv.ring.map (fun x => x.sector) := by
  rw [NonVol.modRing, List.map_map]
  refine List.map_congr_left fun x _ => ?_
  simp only [Function.comp_apply]
  split
  exacts [hf x, rfl]

theorem RingSector.partErased_sector (b : Bool) (x : RingSector) : (x.partErased b).sector = x.sector := by cases b <;> rfl

theorem NonVol.failedErase_sectors (nv : NonVol) (k d : Nat) :
    (nv.failedErase k d).ring.map (fun x => x.sector) = nv.ring.map (fun x => x.sector) := by
  unfold NonVol.failedErase
  split
  · unfold NonVol.cutMap
    split <;> rfl
  · exact nv.modRing_sectors k fun x => x.partErased_sector _

theorem NonVol.cutErase_sectors (nv : NonVol) (k d : Nat) :
    (nv.cutErase k d).ring.map (fun x => x.sector) = nv.ring.map (fun x => x.sector) := by
  unfold NonVol.cutErase
  split
  · unfold NonVol.cutMap
    split <;> rfl
  · exact nv.modRing_sectors k fun x => x.partErased_sector _

theorem State.arraySettled_sectors (s : State) (ok : Bool) :
    (s.arraySettled ok).ring.map (fun x => x.sector) = s.nv.ring.map (fun x => x.sector) := by
  unfold State.arraySettled
  split
  · rfl
  · exact s.nv.modRing_sectors _ fun _ => rfl
  · exact s.nv.modRing_sectors _ fun _ => rfl
  · split
    · split
      · dsimp only; split <;> rfl
      · exact s.nv.modRing_sectors _ fun _ => rfl
    · exact s.nv.failedErase_sectors _ _
  · simp [State.headerProgrammed]
  · rfl
  · rfl

theorem State.arrayCut_sectors (s : State) : s.arrayCut.ring.map (fun x => x.sector) = s.nv.ring.map (fun x => x.sector) := by
  unfold State.arrayCut
  split
  · exact s.nv.cutErase_sectors _ _
  · rfl
  all_goals exact s.arraySettled_sectors false

end Sys2Proof.Machine
end

section
/-! SUPPORT. What the operations that the meanings share do to the rights and to the store's agreement with the catalog state. -/

namespace Sys2Proof.Machine

set_option Elab.async false

open Sys2Proof

/-! ### The invariant of the whole state -/

/-- `State.Coherent` with the owner standing exactly above depth 0, in its parts. -/
structure State.Sound (s : State) : Prop where
  rights : s.rights.Agree
  store : s.store.Sound s.catalog.state s.ready
  ring : s.nv.RingAbove

theorem State.sound_iff {s : State} (hb : s.StackBounded) : s.Coherent ↔ s.Sound := by
  rw [State.coherent_iff hb, State.storeSound_iff, ← NonVol.ringAbove_iff]
  exact ⟨fun ⟨hr, hs, hn⟩ => ⟨hr, hs, hn⟩, fun ⟨hr, hs, hn⟩ => ⟨hr, hs, hn⟩⟩

/-! ### Equal rights -/

theorem State.rights_congr {s t : State} (hk : t.stack.owner = s.stack.owner) (hd : t.depth = s.depth)
    (hs : t.catalog.state = s.catalog.state) (hr : t.ready = s.ready) (hc : t.commit = s.commit)
    (hn : t.store.durable = s.store.durable) (hl : ∀ p, (t.port p).lease.isRunning = (s.port p).lease.isRunning)
    (hb : ∀ p, (t.port p).bulk = (s.port p).bulk) : t.rights = s.rights := by
  simp only [State.rights, hk, hd, hs, hr, hc, hn, hl, hb]

theorem State.StoreDiffers.rights {s t : State} (h : s.StoreDiffers t) : t.rights = s.rights := by
  refine State.rights_congr ?_ ?_ ?_ ?_ h.commit h.durable (fun p => ?_) (fun p => ?_)
  · rw [h.stack]
  · rw [State.depth, h.stack, State.depth]
  · rw [h.catalog]
  · rw [State.ready, h.ctl, State.ready]
  all_goals cases p <;> simp [h.portA, h.portB]

/-- What a change of one port does to the rights. -/
theorem State.rights_modPort (s : State) (p : Port) (f : PortState → PortState) : (s.modPort p f).rights =
    { s.rights with
      runs := Function.update s.rights.runs p (f (s.port p)).lease.isRunning
      bulk := Function.update s.rights.bulk p (f (s.port p)).bulk } := by
  have hruns : (s.modPort p f).rights.runs = Function.update s.rights.runs p (f (s.port p)).lease.isRunning := by
    funext r
    cases p <;> cases r <;> rfl
  have hbulk : (s.modPort p f).rights.bulk = Function.update s.rights.bulk p (f (s.port p)).bulk := by
    funext r
    cases p <;> cases r <;> rfl
  rw [← hruns, ← hbulk]
  cases p <;> rfl

theorem State.update_runs_self (s : State) (p : Port) : Function.update s.rights.runs p (s.port p).lease.isRunning = s.rights.runs :=
  Function.update_eq_self p s.rights.runs

theorem State.update_bulk_self (s : State) (p : Port) : Function.update s.rights.bulk p (s.port p).bulk = s.rights.bulk :=
  Function.update_eq_self p s.rights.bulk

theorem State.rights_modPort_bulk (s : State) (p : Port) {f : PortState → PortState} (hl : ∀ x, (f x).lease = x.lease) :
    (s.modPort p f).rights = { s.rights with bulk := Function.update s.rights.bulk p (f (s.port p)).bulk } := by
  rw [State.rights_modPort, hl, State.update_runs_self]

theorem State.rights_modPort_lease (s : State) (p : Port) {f : PortState → PortState} (hb : ∀ x, (f x).bulk = x.bulk) :
    (s.modPort p f).rights = { s.rights with runs := Function.update s.rights.runs p (f (s.port p)).lease.isRunning } := by
  rw [State.rights_modPort, hb, State.update_bulk_self]

/-- A change of a port that touches neither its timer nor its bulk context. -/
theorem State.rights_modPort_quiet (s : State) (p : Port) {f : PortState → PortState} (hl : ∀ x, (f x).lease = x.lease)
    (hb : ∀ x, (f x).bulk = x.bulk) : (s.modPort p f).rights = s.rights := by
  rw [State.rights_modPort_bulk s p hl, hb, State.update_bulk_self]

theorem PortState.takeNotice_lease (x : PortState) (n : Notice) : (x.takeNotice n).lease = x.lease := by
  simp only [PortState.takeNotice_eq]

theorem PortState.takeNotice_bulk (x : PortState) (n : Notice) : (x.takeNotice n).bulk = x.bulk := by
  simp only [PortState.takeNotice_eq]

theorem PortState.takeNotices_lease (ns : List Notice) (x : PortState) : (ns.foldl PortState.takeNotice x).lease = x.lease := by
  induction ns generalizing x with
  | nil => rfl
  | cons n ns ih => exact (ih _).trans (x.takeNotice_lease n)

theorem PortState.takeNotices_bulk (ns : List Notice) (x : PortState) : (ns.foldl PortState.takeNotice x).bulk = x.bulk := by
  induction ns generalizing x with
  | nil => rfl
  | cons n ns ih => exact (ih _).trans (x.takeNotice_bulk n)

theorem PortState.answer_lease (x : PortState) (q : Byte) (b : Body) (keep : Bool) : (x.answer q b keep).lease = x.lease := by
  unfold PortState.answer
  split <;> rfl

theorem PortState.answer_bulk (x : PortState) (q : Byte) (b : Body) (keep : Bool) : (x.answer q b keep).bulk = x.bulk := by
  unfold PortState.answer
  split <;> rfl

section
variable (s : State) (p : Port)

@[simp] theorem State.rights_counting (f : Counters → Counters) : (s.counting p f).rights = s.rights :=
  s.rights_modPort_quiet p (fun _ => rfl) (fun _ => rfl)

@[simp] theorem State.rights_enlist (q k : Byte) : (s.enlist p q k).rights = s.rights :=
  s.rights_modPort_quiet p (fun _ => rfl) (fun _ => rfl)

@[simp] theorem State.rights_place (q : Byte) (b : Body) : (s.modPort p (fun x => x.place q b)).rights = s.rights :=
  s.rights_modPort_quiet p (fun _ => rfl) (fun _ => rfl)

@[simp] theorem State.rights_setWatch (rs : List IdRange) : (s.setWatch p rs).rights = s.rights :=
  s.rights_modPort_quiet p (fun _ => rfl) (fun _ => rfl)

@[simp] theorem State.rights_answer (q : Byte) (b : Body) (keep : Bool) : (s.modPort p (fun x => x.answer q b keep)).rights = s.rights :=
  s.rights_modPort_quiet p (fun x => x.answer_lease q b keep) (fun x => x.answer_bulk q b keep)

@[simp] theorem State.rights_reply (q k : Byte) (r : Reply) : (s.reply p q k r).rights = s.rights := s.rights_answer p q _ _

@[simp] theorem State.rights_refuse (q k : Byte) (c : RefuseCode) (id : Nat) : (s.refuse p q k c id).rights = s.rights :=
  s.rights_answer p q _ _

@[simp] theorem State.rights_noticeTo (n : Notice) : (s.noticeTo p n).rights = s.rights :=
  s.rights_modPort_quiet p (fun x => x.takeNotice_lease n) (fun x => x.takeNotice_bulk n)

@[simp] theorem State.rights_noticeBoth (n : Notice) : (s.noticeBoth n).rights = s.rights := by
  rw [State.noticeBoth, State.rights_noticeTo, State.rights_noticeTo]

@[simp] theorem State.rights_noticesTo (ns : List Notice) : (s.noticesTo p ns).rights = s.rights :=
  s.rights_modPort_quiet p (PortState.takeNotices_lease ns) (PortState.takeNotices_bulk ns)

theorem State.rights_setBulk (b : BulkCtx) : (s.setBulk p b).rights = { s.rights with bulk := Function.update s.rights.bulk p b } :=
  s.rights_modPort_bulk p (fun _ => rfl)

theorem State.rights_openBulk (b : BulkCtx) : (s.openBulk p b).rights = { s.rights with bulk := Function.update s.rights.bulk p b } :=
  s.rights_modPort_bulk p (fun _ => rfl)

theorem State.rights_closeBulk (d : DoneRec) :
    (s.closeBulk p d).rights = { s.rights with bulk := Function.update s.rights.bulk p (.closing d) } :=
  s.rights_modPort_bulk p (fun _ => rfl)

theorem State.rights_stopLease : (s.stopLease p).rights = { s.rights with runs := Function.update s.rights.runs p false } :=
  s.rights_modPort_lease p (fun _ => rfl)

theorem State.rights_startLease : (s.startLease p).rights =
    { s.rights with runs := Function.update s.rights.runs p (leaseOf (s.leasePeriod p)).isRunning } :=
  s.rights_modPort_lease p (fun _ => rfl)

theorem State.rights_restartLease : (s.restartLease p).rights =
    { s.rights with runs := Function.update s.rights.runs p ((s.port p).lease.restarted (s.leasePeriod p)).isRunning } :=
  s.rights_modPort_lease p (fun _ => rfl)

/-- With agreeing rights the owner's timer is the only one there is to stop (R63). -/
theorem State.rights_dropOwner (h : ∀ r, s.rights.runs r = true → s.rights.owner = some r) :
    s.dropOwner.rights = { s.rights with owner := none, runs := fun _ => false } := by
  have hstop : ∀ r, s.stack.owner ≠ some r → s.rights.runs r = false := fun r hr => by
    cases hrun : s.rights.runs r with
    | false => rfl
    | true => exact absurd (h r hrun) hr
  rw [State.dropOwner_eq]
  split
  · rename_i ho
    have hruns : s.rights.runs = fun _ => false := funext fun r => hstop r (by rw [ho]; exact nofun)
    rw [← hruns, ← ho]
    rfl
  · rename_i p ho
    have hruns : Function.update s.rights.runs p false = fun _ => false := funext fun r => by
      rw [Function.update_apply]
      split
      · rfl
      · rename_i hrp
        exact hstop r (by rw [ho]; exact fun he => hrp (Option.some.inj he).symm)
    rw [← hruns]
    exact State.rights_stopLease _ p

end

/-! ### Sound states -/

namespace State.Sound

variable {s t : State} (h : s.Sound)
include h

/-- A change that leaves store, array, catalog state and start. -/
theorem of_rights (hr : t.rights.Agree) (hst : t.store = s.store) (hn : t.nv = s.nv) (hc : t.catalog.state = s.catalog.state)
    (hs : t.ready = s.ready) : t.Sound := by
  refine ⟨hr, ?_, ?_⟩
  · rw [hst, hc, hs]; exact h.store
  · rw [hn]; exact h.ring

/-- A change of neither rights, store nor array. -/
theorem of_eq (hr : t.rights = s.rights) (hst : t.store = s.store) (hn : t.nv = s.nv) : t.Sound :=
  h.of_rights (hr ▸ h.rights) hst hn (congrArg Rights.state hr) (congrArg Rights.ready hr)

/-- A change of one port. -/
theorem modPort {p : Port} {f : PortState → PortState} (hr : (s.modPort p f).rights.Agree) : (s.modPort p f).Sound :=
  h.of_rights hr (by simp) (by simp) (by simp) (by simp [State.ready])

theorem counting (p : Port) (f : Counters → Counters) : (s.counting p f).Sound := h.of_eq (by simp) (by simp) (by simp)

theorem answer (p : Port) (q : Byte) (b : Body) (keep : Bool) : (s.modPort p (fun x => x.answer q b keep)).Sound :=
  h.of_eq (by simp) (by simp) (by simp)

theorem reply (p : Port) (q k : Byte) (r : Reply) : (s.reply p q k r).Sound := h.answer p q _ _

theorem refuse (p : Port) (q k : Byte) (c : RefuseCode) (id : Nat) : (s.refuse p q k c id).Sound := h.answer p q _ _

theorem noticeTo (p : Port) (n : Notice) : (s.noticeTo p n).Sound := h.of_eq (by simp) (by simp) (by simp)

theorem noticeBoth (n : Notice) : (s.noticeBoth n).Sound := h.of_eq (by simp) (by simp) (by simp)

theorem noticesTo (p : Port) (ns : List Notice) : (s.noticesTo p ns).Sound := h.of_eq (by simp) (by simp) (by simp)

theorem setWatch (p : Port) (rs : List IdRange) : (s.setWatch p rs).Sound := h.of_eq (by simp) (by simp) (by simp)

theorem closeBulk (p : Port) (d : DoneRec) : (s.closeBulk p d).Sound :=
  h.modPort (s.rights_closeBulk p d ▸ h.rights.endBulk p rfl)

theorem stopLease (p : Port) : (s.stopLease p).Sound := h.modPort (s.rights_stopLease p ▸ h.rights.stopLease p)

/-- A running timer starts again or, with a period of 0, stops (R71, R72). -/
theorem restartLease (p : Port) : (s.restartLease p).Sound := by
  refine h.modPort (State.rights_restartLease s p ▸ ?_)
  cases hrun : ((s.port p).lease.restarted (s.leasePeriod p)).isRunning with
  | false => exact h.rights.stopLease p
  | true =>
    have hsame : s.rights.runs p = true := by
      cases hl : (s.port p).lease with
      | stopped => rw [hl] at hrun; cases hrun
      | running n => exact congrArg Lease.isRunning hl
    rw [← hsame, Function.update_eq_self]
    exact h.rights

/-- A change of the store within what the catalog state lets it do. -/
theorem modStore {f : Store → Store} (hd : (f s.store).durable = s.store.durable)
    (hs : (f s.store).Sound s.catalog.state s.ready) : (s.modStore f).Sound := by
  refine ⟨?_, hs, h.ring⟩
  rw [State.rights_congr (t := s.modStore f) (s := s) rfl rfl rfl rfl rfl hd (fun p => by cases p <;> rfl) fun p => by cases p <;> rfl]
  exact h.rights

end State.Sound

end Sys2Proof.Machine
end

section
/-! SUPPORT. Every operation of the Journal Store keeps the rights and the store in agreement. -/

namespace Sys2Proof.Machine

set_option Elab.async false

open Sys2Proof

/-! ### What leaves the store's operation -/

section
variable (s : State)

theorem State.commitFails_store (c : RefuseCode) : (s.commitFails c).store = s.store := by
  unfold State.commitFails
  split
  · rfl
  · dsimp only
    split <;> simp

theorem State.cancelAppend_operation (c : RefuseCode) : (s.cancelAppend c).store.operation = s.store.operation := by
  unfold State.cancelAppend
  split
  · rfl
  · rw [State.commitFails_store]; rfl

theorem State.enterReadOnly_operation : s.enterReadOnly.store.operation = s.store.operation := by
  unfold State.enterReadOnly
  dsimp only
  split
  · simp
  · simp [State.cancelAppend_operation]

theorem State.readOnlyTest_operation : s.readOnlyTest.store.operation = s.store.operation := by
  unfold State.readOnlyTest
  split
  · exact s.enterReadOnly_operation
  · rfl

theorem State.requestRoom_operation : s.requestRoom.store.operation = s.store.operation := by
  unfold State.requestRoom
  split
  · rfl
  · split <;> rfl

theorem State.roomAsked_operation : s.roomAsked.store.operation = s.store.operation := by
  unfold State.roomAsked
  split
  · exact s.requestRoom_operation
  · rfl

theorem State.WorkDiffers.ready {s t : State} (h : s.WorkDiffers t) : t.ready = s.ready := by rw [State.ready, h.ctl, State.ready]

end

namespace State.Sound

variable {s : State} (h : s.Sound)
include h

/-! ### Programs and choices (R83 to R93, R99) -/

/-- A change of the store within its operation. -/
theorem modStore_same {f : Store → Store} (hd : (f s.store).durable = s.store.durable) (ho : (f s.store).operation = s.store.operation)
    (ht : (f s.store).tasks = s.store.tasks)
    (ha : (f s.store).arrayOp = s.store.arrayOp ∨ (f s.store).arrayOp.Free ∧ (s.ready = true ∨ (f s.store).arrayOp = .none))
    (htab : (f s.store).table.map (fun x => x.sector) = s.store.table.map (fun x => x.sector)) : (s.modStore f).Sound :=
  h.modStore hd (h.store.same ho ht ha htab)

/-- From one operation on the ring to another. -/
theorem modStore_work {f : Store → Store} (hd : (f s.store).durable = s.store.durable) (hr : s.ready = true)
    (hon : s.store.operation.OnRing) (ho : (f s.store).operation.OnRing) (ht : (f s.store).tasks = s.store.tasks)
    (ha : (f s.store).arrayOp = s.store.arrayOp ∨ (f s.store).arrayOp.Free)
    (htab : (f s.store).table.map (fun x => x.sector) = s.store.table.map (fun x => x.sector)) : (s.modStore f).Sound :=
  h.modStore hd (h.store.work hon ho hr ht ha htab)

theorem openSector (hr : s.ready = true) (g : GroupWrite) (k : Nat) : (s.openSector g k).Sound :=
  h.modStore_same (f := fun st =>
    { st.modRec k (fun x => { x with role := .filling, generation := some s.nextGeneration, used := 1 }) with
      openedLast := some k
      restartNote := false
      arrayOp := .header k s.nextGeneration st.restartNote
      writing := some { g with
        begun := some (g.begun.getD { sector := k, generation := some s.nextGeneration, shared := false })
        sectors := g.sectors ++ [k] } })
    rfl rfl rfl (.inr ⟨ArrayOp.free_header _ _ _, .inl hr⟩) (Store.modRec_sectors _ _ fun _ => rfl)

theorem programNext (hr : s.ready = true) : s.programNext.Sound := by
  unfold State.programNext
  split
  · exact h
  · split
    · exact h
    · split
      · exact h.modStore_same rfl rfl rfl (.inr ⟨ArrayOp.free_slot _ _, .inl hr⟩) rfl
      · split
        · exact h.openSector hr _ _
        · exact h

theorem startAppend (hr : s.ready = true) (ho : s.store.operation.OnRing) (a : PendingAppend) : (s.startAppend a).Sound := by
  have htab : (s.store.beginPosition a.attempt).table.map (fun x => x.sector) = s.store.table.map (fun x => x.sector) := by
    cases a.attempt with
    | first => rfl
    | second => exact s.store.closeOff_sectors
  exact (h.modStore_work (by simp) hr ho Operation.onRing_appending (by simp) (.inl (by simp)) htab).programNext hr

theorem requestRoom : s.requestRoom.Sound := by
  unfold State.requestRoom
  split
  · exact h
  · split
    · exact h.modStore_same rfl rfl rfl (.inl rfl) rfl
    · exact h

theorem roomAsked : s.roomAsked.Sound := by
  unfold State.roomAsked
  split
  · exact h.requestRoom
  · exact h

theorem compactionTest : s.compactionTest.Sound := by
  unfold State.compactionTest
  split
  · exact h.modStore_same rfl rfl rfl (.inl rfl) rfl
  · exact h

theorem startCompaction (hr : s.ready = true) (ho : s.store.operation.OnRing) (a : Attempt) : (s.startCompaction a).Sound := by
  refine State.Sound.programNext (h.modStore_work ?_ hr ho Operation.onRing_compacting ?_ (.inl ?_) ?_) hr
  all_goals
    dsimp only
    split
    · rfl
  · rfl
  · rfl
  · rfl
  · exact s.store.closeOff_sectors

theorem startErase (hr : s.ready = true) (ho : s.store.operation.OnRing) {k : Nat} (hk : 4 ≤ k) : (s.startErase k).Sound :=
  h.modStore_work rfl hr ho Operation.onRing_erasing rfl (.inr (ArrayOp.free_erase hk)) (Store.modRec_sectors _ _ fun _ => rfl)

theorem commitFails (c : RefuseCode) : (s.commitFails c).Sound := by
  unfold State.commitFails
  split
  · exact h
  · rename_i k hc
    have hstart : (State.startLease { s with commit := none } k.port).Sound :=
      h.of_rights (State.rights_startLease _ _ ▸ h.rights.commitEnds hc _) (by simp) (by simp) (by simp) (by simp [State.ready])
    dsimp only
    split
    · exact hstart
    · exact hstart.refuse _ _ _ _ _

theorem cancelAppend (c : RefuseCode) : (s.cancelAppend c).Sound := by
  unfold State.cancelAppend
  split
  · exact h
  · exact State.Sound.commitFails (h.modStore_same rfl rfl rfl (.inl rfl) rfl) c

theorem dropRequest : (s.modStore Store.dropRequest).Sound := h.modStore_same rfl rfl rfl (.inl rfl) rfl

theorem enterReadOnly : s.enterReadOnly.Sound := by
  have hdrop := ((h.modStore_same (f := fun st => { st with mode := .readOnly }) rfl rfl rfl (.inl rfl) rfl).noticeBoth
    (.storeReadOnly (s.store.count .retired))).dropRequest
  unfold State.enterReadOnly
  dsimp only
  split
  · exact hdrop
  · exact hdrop.cancelAppend _

theorem readOnlyTest : s.readOnlyTest.Sound := by
  unfold State.readOnlyTest
  split
  · exact h.enterReadOnly
  · exact h

theorem reclaim : s.reclaim.Sound := by
  unfold State.reclaim
  split
  · split
    · exact State.Sound.enterReadOnly (h.modStore_same rfl rfl rfl (.inl rfl) rfl)
    · exact h
  · exact h
  · exact h

theorem chooseErase (hr : s.ready = true) (ho : s.store.operation.OnRing) : s.chooseErase.Sound := by
  unfold State.chooseErase
  split
  · split
    · rename_i k hk
      exact h.startErase hr ho (h.store.table k (Store.nextStale_mem hk))
    · exact h.reclaim
  · exact h.reclaim

theorem chooseWork (hr : s.ready = true) (ho : s.store.operation.OnRing) : s.chooseWork.Sound := by
  unfold State.chooseWork
  split
  · split
    · exact h.startCompaction hr ho _
    · exact h.chooseErase hr ho
  · exact h.chooseErase hr ho
  · exact h.chooseErase hr ho

theorem chooseStart (hr : s.ready = true) (ho : s.store.operation.OnRing) : s.chooseStart.Sound := by
  unfold State.chooseStart
  split
  · exact h.chooseWork hr ho
  · split
    · exact h.startAppend hr ho _
    · exact h.chooseWork hr ho

theorem choose : s.choose.Sound := by
  rw [State.choose_eq]
  split
  · rename_i hidle
    obtain ⟨ho, -, hr⟩ := hidle
    have hsame : s.WorkDiffers s.roomAsked := by
      unfold State.roomAsked
      split
      · exact s.requestRoom_storeDiffers.work
      · exact .refl s
    exact h.roomAsked.chooseStart (hsame.ready.trans hr) (s.roomAsked_operation ▸ ho ▸ Operation.onRing_idle)
  · exact h

/-! ### SEAL and WIPE (R102 to R104) -/

omit h in
/-- Where nothing is owned, store and catalog may change freely while none of it comes up. -/
theorem of_unused {t : State} (hu : s.rights.Unused) (hk : t.stack = s.stack) (hc : t.commit = s.commit)
    (hl : ∀ p, (t.port p).lease = (s.port p).lease) (hb : ∀ p, (t.port p).bulk = (s.port p).bulk)
    (hst : t.store.Sound t.catalog.state t.ready) (hn : t.nv.RingAbove) : t.Sound := by
  obtain ⟨howner, hdepth, hcommit, hruns, hbulk⟩ := hu
  refine ⟨Rights.Unused.agree ⟨?_, ?_, ?_, fun p => ?_, fun p => ?_⟩, hst, hn⟩
  · rw [State.rights, hk]; exact howner
  · rw [State.rights, State.depth, hk]; exact hdepth
  · rw [State.rights, hc]; exact hcommit
  · exact (congrArg Lease.isRunning (hl p)).trans (hruns p)
  · exact (congrArg BulkCtx.active (hb p)).trans (hbulk p)

/-- Outside SEALED nothing is owned (R9, R51). -/
theorem unsealed {t : State} (hstate : s.catalog.state ≠ .sealed) (hk : t.stack = s.stack) (hc : t.commit = s.commit)
    (hA : t.portA = s.portA) (hB : t.portB = s.portB) (hst : t.store.Sound t.catalog.state t.ready) (hn : t.nv.RingAbove) :
    t.Sound := by
  have hport (p : Port) : t.port p = s.port p := by cases p <;> simp [hA, hB]
  exact of_unused (h.rights.unused hstate) hk hc (fun p => by rw [hport]) (fun p => by rw [hport]) hst hn

theorem sealFails (hstate : s.catalog.state ≠ .sealed) : s.sealFails.Sound := by
  have hfail (c : Catalog) (hc : c.state = .building) : State.Sound { s.modStore (fun st =>
      { st with
        table := st.table.map (fun x => if x.role = .retired ∨ x.role = .free then x else { x with role := .stale })
        operation := .idle, pend := none, compaction := .none, mode := .writable, durable := 0, reserve := 0
        writing := none, arrayOp := .none, tasks := [] }) with catalog := c } :=
    h.unsealed hstate rfl rfl rfl rfl (h.store.idle rfl rfl rfl (sectors_map (fun x => by split <;> rfl) _) c.state) h.ring
  unfold State.sealFails
  dsimp only
  split
  · exact (hfail _ rfl).refuse _ _ _ _ _
  · exact hfail _ rfl

theorem sealCompletes (hstate : s.catalog.state ≠ .sealed) (ha : s.store.arrayOp = .none) : s.sealCompletes.Sound := by
  have hdone (c : Catalog) (r : Rate) : State.Sound { s.modStore (fun st =>
      { st with operation := .idle, compaction := .none, durable := 0, tasks := [] }) with catalog := c, rateInUse := r } :=
    h.unsealed hstate rfl rfl rfl rfl (h.store.idle
      (st' := { s.store with operation := .idle, compaction := .none, durable := 0, tasks := [] }) rfl rfl ha rfl c.state) h.ring
  unfold State.sealCompletes
  refine State.Sound.choose (State.Sound.readOnlyTest ?_)
  split
  · exact (hdone _ _).reply _ _ _ _
  · exact hdone _ _

theorem beginInitialImage (hr : s.ready = true) (ho : s.store.operation = .catalogWrite) (a : Attempt) :
    (s.beginInitialImage a).Sound := by
  obtain ⟨hsealing, -⟩ := h.store.write ho
  unfold State.beginInitialImage
  split
  · refine State.Sound.programNext (h.modStore rfl ⟨fun _ => ⟨hsealing, rfl⟩, fun hw => ?_, fun _ => rfl, h.store.array,
      h.store.table, h.store.quiet⟩) hr
    rw [show _ = s.store.operation from rfl, ho] at hw
    cases hw
  · exact h.sealFails (by rw [hsealing]; exact nofun)

theorem wipeCompletes (hstate : s.catalog.state ≠ .sealed) (ha : s.store.arrayOp = .none) : s.wipeCompletes.Sound := by
  have hdone (c : Catalog) (r : Rate) : State.Sound { s.modStore (fun st =>
      { st.ringErased with
        operation := .idle, compaction := .none, mode := .writable, durable := 0, reserve := 0, tasks := []
        wipeFault := false }) with catalog := c, rateInUse := r } :=
    h.unsealed hstate rfl rfl rfl rfl (h.store.idle
      (st' := { s.store.ringErased with
        operation := .idle, compaction := .none, mode := .writable, durable := 0, reserve := 0, tasks := [], wipeFault := false })
      rfl rfl ha s.store.ringErased_sectors c.state) h.ring
  unfold State.wipeCompletes
  dsimp only
  split
  · split
    · exact (hdone _ _).refuse _ _ _ _ _
    · exact (hdone _ _).reply _ _ _ _
  · exact hdone _ _

end State.Sound

end Sys2Proof.Machine
end

section
/-! SUPPORT. Every end of an array operation and every crossing of the supply keeps the rights and the store in agreement. -/

namespace Sys2Proof.Machine

set_option Elab.async false

open Sys2Proof

theorem Store.eraseTasks_ofWipe (st : Store) : st.eraseTasks.all Task.ofWipe = true := by
  simp [Store.eraseTasks, Task.ofWipe]

theorem Store.eraseTasks_ofSeal (st : Store) : st.eraseTasks.all Task.ofSeal = true := by
  simp [Store.eraseTasks, Task.ofSeal]

theorem State.areaTasks_ofSeal (s : State) : s.areaTasks.all Task.ofSeal = true := by
  simp [State.areaTasks, Task.ofSeal]

namespace Store.Sound

variable {st : Store} {state : CatState} {ready : Bool} (h : st.Sound state ready)
include h

/-- A store with steps to do is in the catalog write or in the wipe erase (R102, R104). -/
theorem hasTasks (ht : st.tasks ≠ []) : st.operation = .catalogWrite ∧ state = .sealing ∨ st.operation = .wipeErase ∧ state = .wiping := by
  by_cases hw : st.operation = .catalogWrite
  · exact .inl ⟨hw, (h.write hw).1⟩
  · by_cases hw' : st.operation = .wipeErase
    · exact .inr ⟨hw', (h.wipe hw').1⟩
    · exact absurd (h.tasks ⟨hw, hw'⟩) ht

theorem unsealed_of_tasks (ht : st.tasks ≠ []) : state ≠ .sealed := by
  rcases h.hasTasks ht with ⟨-, hs⟩ | ⟨-, hs⟩ <;> rw [hs] <;> exact nofun

/-- A step of SEAL alone is a step of the catalog write. -/
theorem write_of_task {t : Task} {ts : List Task} (ht : st.tasks = t :: ts) (hwipe : t.ofWipe = false) : st.operation = .catalogWrite := by
  rcases h.hasTasks (by rw [ht]; exact List.cons_ne_nil _ _) with ⟨ho, -⟩ | ⟨ho, -⟩
  · exact ho
  · have hall := (h.wipe ho).2
    rw [ht, List.all_cons, hwipe] at hall
    cases hall

/-- A step of WIPE alone is a step of the wipe erase. -/
theorem wipe_of_task {t : Task} {ts : List Task} (ht : st.tasks = t :: ts) (hseal : t.ofSeal = false) : st.operation = .wipeErase := by
  rcases h.hasTasks (by rw [ht]; exact List.cons_ne_nil _ _) with ⟨ho, -⟩ | ⟨ho, -⟩
  · have hall := (h.write ho).2
    rw [ht, List.all_cons, hseal] at hall
    cases hall
  · exact ho

/-- The first step leaves the list and its array operation starts. -/
theorem step {t : Task} {ts : List Task} (ht : st.tasks = t :: ts) {st' : Store} (hts : st'.tasks = ts)
    (ho : st'.operation = st.operation) (ha : st'.arrayOp.Fits st.operation) (hr : ready = true)
    (htab : st'.table.map (fun x => x.sector) = st.table.map (fun x => x.sector)) : st'.Sound state ready := by
  refine ⟨fun hw => ?_, fun hw => ?_, fun hon => ?_, ho ▸ ha, htab ▸ h.table, fun hr' => ?_⟩
  · obtain ⟨hs, hall⟩ := h.write (ho ▸ hw)
    rw [ht, List.all_cons, Bool.and_eq_true] at hall
    exact ⟨hs, hts ▸ hall.2⟩
  · obtain ⟨hs, hall⟩ := h.wipe (ho ▸ hw)
    rw [ht, List.all_cons, Bool.and_eq_true] at hall
    exact ⟨hs, hts ▸ hall.2⟩
  · have hnil := h.tasks (ho ▸ hon)
    rw [ht] at hnil
    cases hnil
  · rw [hr] at hr'; cases hr'

/-- What an erase of a step works on, the catalog area among it, is in reach of SEAL and WIPE. -/
theorem fits_erase (ht : st.tasks ≠ []) (k : Nat) : (ArrayOp.erase k).Fits st.operation := by
  intro _
  rcases h.hasTasks ht with ⟨ho, -⟩ | ⟨ho, -⟩
  · exact .inl ho
  · exact .inr ho

end Store.Sound

/-! ### What stays READY -/

theorem State.dropOwner_ready (s : State) : s.dropOwner.ready = s.ready := by
  rw [State.dropOwner_eq]
  split <;> simp [State.ready]

theorem State.changesReleased_ready (s : State) (c : InFlight) : (s.changesTold c).releaseAtZero.ready = s.ready := by
  have htold : (s.changesTold c).ready = s.ready := by simp [State.ready, State.changesTold, State.madeDurable]
  unfold State.releaseAtZero
  split
  · exact (State.dropOwner_ready _).trans htold
  · exact htold

theorem State.durabilityPoint_ready (s : State) : s.durabilityPoint.ready = s.ready := by
  cases hc : s.commit with
  | none => rw [State.durabilityPoint, hc]
  | some c =>
    rw [State.durabilityPoint_eq hc]
    split
    · exact s.changesReleased_ready c
    · simpa [State.ready] using s.changesReleased_ready c

theorem State.retire_ready (s : State) (k : Nat) (mapOk : Bool) : (s.retire k mapOk).ready = s.ready := by
  unfold State.retire
  dsimp only
  split <;> rfl

/-- The store with the slot in progress counted as in use: an abandoned image leaves it so, whether it is programmed or not (log 12). -/
def State.inProgressCounted (s : State) : Store :=
  match s.store.arrayOp with
  | .slot k _ => s.store.useSlot k
  | _ => s.store

theorem State.abandonImage_eq (s : State) (g : GroupWrite) : s.abandonImage g =
    ({ s with nv := s.arraySettled (Config.residue s.draws 2 && !s.store.arrayOp.closes), draws := s.draws + 1 } : State).modStore
      (fun _ => { s.inProgressCounted with
        table := s.inProgressCounted.table.map g.abandonedRole, restartNote := true, writing := none, arrayOp := .none }) := by
  unfold State.abandonImage State.inProgressCounted
  cases s.store.arrayOp <;> rfl

theorem State.retire_store (s : State) (k : Nat) (mapOk : Bool) :
    (s.retire k mapOk).store = s.store.modRec k (fun x => { x with role := .retired }) := by
  unfold State.retire
  dsimp only
  split <;> rfl

theorem State.retire_ring (s : State) (k : Nat) (mapOk : Bool) : (s.retire k mapOk).nv.ring = s.nv.ring := by
  unfold State.retire
  dsimp only
  split <;> rfl

namespace State.Sound

variable {s : State} (h : s.Sound)
include h

/-! ### Steps of SEAL and WIPE -/

theorem programArea (hr : s.ready = true) {ts : List Task} (ht : s.store.tasks = .programArea :: ts) :
    (if (s.modStore Store.ringErased).initialFits then
      (s.modStore Store.ringErased).modStore (fun st =>
        { st with tasks := (s.modStore Store.ringErased).areaTasks, arrayOp := .areaHeader 0 })
    else (s.modStore Store.ringErased).sealFails).Sound := by
  have herased : (s.modStore Store.ringErased).Sound := h.modStore_same rfl rfl rfl (.inl rfl) s.store.ringErased_sectors
  have ho : s.store.operation = .catalogWrite := h.store.write_of_task ht rfl
  obtain ⟨hs, -⟩ := h.store.write ho
  split
  · refine herased.modStore rfl ⟨fun _ => ⟨hs, State.areaTasks_ofSeal _⟩, fun hw => ?_, fun hon => ?_, ho, herased.store.table, fun hr' => ?_⟩
    · exact absurd (ho.symm.trans hw) nofun
    · exact absurd ho hon.1
    · exact absurd (hr.symm.trans hr') nofun
  · exact herased.sealFails (show s.catalog.state ≠ .sealed by rw [hs]; exact nofun)

theorem runTasks (hr : s.ready = true) : s.runTasks.Sound := by
  unfold State.runTasks
  split
  · exact h
  · rename_i k ts ht
    exact h.modStore rfl (h.store.step ht rfl rfl (h.store.write_of_task ht rfl) hr rfl)
  · rename_i k c ts ht
    exact h.modStore rfl (h.store.step ht rfl rfl (h.store.write_of_task ht rfl) hr rfl)
  · rename_i k ts ht
    split
    · exact h
    · exact h.modStore rfl (h.store.step ht rfl rfl (h.store.fits_erase (by rw [ht]; exact List.cons_ne_nil _ _) k) hr
        (Store.modRec_sectors _ _ fun _ => rfl))
  · rename_i ts ht
    split
    · exact h
    · exact h.programArea hr ht
  · rename_i a ts ht
    split
    · exact h
    · exact h.beginInitialImage hr (h.store.write_of_task ht rfl) a
  · rename_i ts ht
    split
    · exact h
    · exact h.modStore rfl (h.store.step ht rfl rfl (h.store.wipe_of_task ht rfl) hr rfl)

theorem startCatalogWrite (hr : s.ready = true) (hs : s.catalog.state = .sealing) (hon : s.store.operation.OnRing) :
    s.startCatalogWrite.Sound := by
  refine State.Sound.runTasks (h.modStore rfl ⟨fun _ => ⟨hs, ?_⟩, nofun, fun ho => absurd rfl ho.1, ?_, h.store.table, fun hr' => ?_⟩) hr
  · rw [List.all_append, Store.eraseTasks_ofSeal]; rfl
  · exact h.store.array.free hon _
  · exact absurd (hr.symm.trans hr') nofun

theorem startWipeErase (hr : s.ready = true) (hs : s.catalog.state = .wiping) (hon : s.store.operation.OnRing) :
    s.startWipeErase.Sound := by
  refine State.Sound.runTasks (h.modStore rfl ⟨nofun, fun _ => ⟨hs, ?_⟩, fun ho => absurd rfl ho.2, ?_, h.store.table, fun hr' => ?_⟩) hr
  · rw [List.all_append, Store.eraseTasks_ofWipe]; rfl
  · exact h.store.array.free hon _
  · exact absurd (hr.symm.trans hr') nofun

theorem operationEnded (hr : s.ready = true) : s.operationEnded.Sound := by
  unfold State.operationEnded
  split
  · rename_i hend
    exact h.startWipeErase hr hend.1 (hend.2 ▸ Operation.onRing_idle)
  · exact h.choose

/-! ### The durability point (R61 to R65) -/

theorem changesReleased {c : InFlight} (hc : s.commit = some c) : (s.changesTold c).releaseAtZero.Sound := by
  obtain ⟨hdepth, howner, hinactive, -⟩ := h.rights.commit c hc
  have hstack : (s.changesTold c).stack = s.stack.freeTop := by simp [State.changesTold, State.madeDurable]
  have hframes : (s.changesTold c).stack.frames = [] := by
    rw [hstack]
    rcases s.stack.freeTop_cases with ⟨hnil, -⟩ | ⟨f, fs, hf, hk⟩
    · rw [State.rights, State.depth, hnil] at hdepth; cases hdepth
    · rw [State.rights, State.depth, hf] at hdepth
      rw [hk]
      exact List.length_eq_zero_iff.mp (Nat.succ.inj hdepth)
  have hdurable : (s.madeDurable c).rights =
      { s.rights with depth := s.stack.freeTop.frames.length, commit := none, durable := c.number,
                      owner := s.stack.freeTop.owner } := rfl
  have hkeep : s.stack.freeTop.owner = s.stack.owner := by
    rcases s.stack.freeTop_cases with ⟨-, hk⟩ | ⟨f, fs, -, hk⟩ <;> rw [hk]
  have htold : (s.changesTold c).rights =
      { s.rights with depth := 0, commit := none, durable := c.number } := by
    rw [State.changesTold, State.rights_noticesTo, State.rights_noticesTo, hdurable, hkeep, ← hstack, hframes]
    rfl
  have hlocks (p : Port) : (s.rights.bulk p).locks = false := by
    by_cases hp : p = c.port
    · exact hp ▸ BulkCtx.locks_of_inactive hinactive
    · exact h.rights.locks_false_of_ne howner hp
  have hruns : ∀ r, (s.changesTold c).rights.runs r = true → (s.changesTold c).rights.owner = some r := by
    rw [htold]
    exact fun r hr => (h.rights.lease r hr).1
  rw [State.releaseAtZero, if_pos hframes, State.release]
  refine State.Sound.noticeBoth ⟨?_, ?_, ?_⟩ _
  · rw [State.rights_dropOwner _ hruns, htold]
    exact h.rights.emptied hlocks c.number
  · have hst : (s.changesTold c).dropOwner.store = { s.store with durable := c.number } := by
      rw [State.dropOwner_eq]
      split <;> simp [State.changesTold, State.madeDurable]
    have hready : (s.changesTold c).dropOwner.ready = s.ready := by
      rw [State.dropOwner_eq]
      split <;> simp [State.ready, State.changesTold, State.madeDurable]
    rw [hst, State.dropOwner_catalog, hready]
    have hcat : (s.changesTold c).catalog.state = s.catalog.state := by simp [State.changesTold, State.madeDurable]
    rw [hcat]
    exact h.store.same rfl rfl (.inl rfl) rfl
  · have hn : (s.changesTold c).dropOwner.nv = s.nv := by
      rw [State.dropOwner_eq]
      split <;> simp [State.changesTold, State.madeDurable]
    rw [hn]
    exact h.ring

theorem durabilityPoint : s.durabilityPoint.Sound := by
  cases hc : s.commit with
  | none => rw [State.durabilityPoint, hc]; exact h
  | some c =>
    rw [State.durabilityPoint_eq hc]
    split
    · exact h.changesReleased hc
    · exact (h.changesReleased hc).reply _ _ _ _

/-! ### A program ends (R80, R85, R90, R96, R97) -/

/-- The array changes with its ring sectors in place. -/
theorem setArray {nv : NonVol} (hn : nv.ring.map (fun x => x.sector) = s.nv.ring.map (fun x => x.sector)) (d : Nat) :
    State.Sound { s with nv := nv, draws := d } := ⟨h.rights, h.store, by rw [NonVol.RingAbove, hn]; exact h.ring⟩

theorem groupClosed (hr : s.ready = true) (g : GroupWrite) : (s.groupClosed g).Sound := by
  have hclosed : (s.modStore (fun st => { st with writing := none, arrayOp := .none, restartNote := false })).Sound :=
    h.modStore_same rfl rfl rfl (.inr ⟨ArrayOp.free_none, .inr rfl⟩) rfl
  unfold State.groupClosed
  dsimp only
  split
  · rename_i ho
    refine State.Sound.operationEnded (State.Sound.compactionTest (State.Sound.durabilityPoint
      (hclosed.modStore_work rfl hr (ho ▸ Operation.onRing_appending) Operation.onRing_idle rfl (.inl rfl) rfl))) ?_
    rw [(State.compactionTest_storeDiffers _).work.ready, State.durabilityPoint_ready]
    exact hr
  · rename_i ho
    refine State.Sound.operationEnded (hclosed.modStore_work ?_ hr (ho ▸ Operation.onRing_compacting) Operation.onRing_idle ?_ (.inl ?_) ?_) hr
    · dsimp only; split <;> rfl
    · dsimp only; split <;> rfl
    · dsimp only; split <;> rfl
    · dsimp only
      split
      · exact Store.supersede_sectors _ _
      · rfl
  · rename_i ho
    obtain ⟨hs, -⟩ := h.store.write ho
    exact hclosed.sealCompletes (show s.catalog.state ≠ .sealed by rw [hs]; exact nofun) rfl
  all_goals exact hclosed

theorem rewriteOrEnd (hr : s.ready = true) (hon : s.store.operation.OnRing) : s.rewriteOrEnd.Sound := by
  unfold State.rewriteOrEnd
  split
  · exact h.operationEnded hr
  · split
    · exact (h.cancelAppend _).operationEnded ((s.cancelAppend_workDiffers _).ready.trans hr)
    · split
      · exact (h.cancelAppend _).operationEnded ((s.cancelAppend_workDiffers _).ready.trans hr)
      · split
        · exact h.startAppend hr hon _
        · exact h.requestRoom.operationEnded (s.requestRoom_storeDiffers.work.ready.trans hr)

/-- The append is over, and the READ_ONLY test is made (R96, R99). -/
theorem appendFailed (hr : s.ready = true) (hon : s.store.operation.OnRing) (a : PendingAppend) : (s.appendFailed a).Sound := by
  have hended (pend : Option PendingAppend) : (s.modStore (fun st => { st with operation := .idle, pend := pend })).Sound :=
    h.modStore_work rfl hr hon Operation.onRing_idle rfl (.inl rfl) rfl
  cases hat : a.attempt with
  | first =>
    rw [s.appendFailed_first hat]
    exact (hended _).readOnlyTest.rewriteOrEnd ((State.readOnlyTest_workDiffers _).ready.trans hr)
      (by rw [State.readOnlyTest_operation]; exact Operation.onRing_idle)
  | second =>
    rw [s.appendFailed_second hat]
    refine State.Sound.operationEnded (State.Sound.compactionTest ((hended none).readOnlyTest.commitFails _)) ?_
    rw [(State.compactionTest_storeDiffers _).work.ready, (State.commitFails_workDiffers _ _).ready,
      (State.readOnlyTest_workDiffers _).ready]
    exact hr

theorem imageAgain (hr : s.ready = true) (hon : s.store.operation.OnRing) (a : Attempt) : (s.imageAgain a).Sound := by
  unfold State.imageAgain
  split
  · exact h.operationEnded hr
  · split
    · split
      · exact h.startCompaction hr hon _
      · exact State.Sound.operationEnded (h.modStore_same rfl rfl rfl (.inl rfl) rfl) hr
    · exact h.requestRoom.operationEnded (s.requestRoom_storeDiffers.work.ready.trans hr)

theorem imageFailed (hr : s.ready = true) (hon : s.store.operation.OnRing) (a : Attempt) : (s.imageFailed a).Sound := by
  have hended : (s.modStore (fun st => { st with operation := .idle, compaction := .none })).Sound :=
    h.modStore_work rfl hr hon Operation.onRing_idle rfl (.inl rfl) rfl
  rw [State.imageFailed_eq]
  exact hended.readOnlyTest.imageAgain ((State.readOnlyTest_workDiffers _).ready.trans hr)
    (by rw [State.readOnlyTest_operation]; exact Operation.onRing_idle) a

theorem retire (k : Nat) (mapOk : Bool) : (s.retire k mapOk).Sound := by
  have hretired : (s.modStore (fun st => st.modRec k (fun x => { x with role := .retired }))).Sound :=
    h.modStore_same rfl rfl rfl (.inl rfl) (Store.modRec_sectors _ _ fun _ => rfl)
  unfold State.retire
  dsimp only
  split
  · exact hretired.setArray (nv := s.nv.mapRetired k) rfl s.draws
  · exact hretired

theorem groupAbandoned (k : Nat) (mapOk : Bool) : (s.groupAbandoned k mapOk).Sound :=
  (h.retire k mapOk).modStore_same rfl rfl rfl (.inr ⟨ArrayOp.free_none, .inr rfl⟩) (Store.closeOff_sectors _)

theorem groupFailed (hr : s.ready = true) (g : GroupWrite) (k : Nat) (mapOk : Bool) : (s.groupFailed g k mapOk).Sound := by
  have hgone := h.groupAbandoned k mapOk
  have hready : (s.groupAbandoned k mapOk).ready = true := (s.retire_ready k mapOk).trans hr
  have ho : (s.groupAbandoned k mapOk).store.operation = s.store.operation := by
    rw [State.groupAbandoned, State.modStore_store, State.retire_store]; rfl
  rw [State.groupFailed_eq]
  split
  · rename_i hop
    rw [hop] at ho
    split
    · exact hgone.appendFailed hready (ho ▸ Operation.onRing_appending) _
    · exact State.Sound.operationEnded (hgone.modStore_work rfl hready (ho ▸ Operation.onRing_appending) Operation.onRing_idle rfl
        (.inl rfl) rfl) hready
  · rename_i hop
    rw [hop] at ho
    exact hgone.imageFailed hready (ho ▸ Operation.onRing_compacting) _
  · rename_i hop
    rw [hop] at ho
    split
    · exact hgone.beginInitialImage hready ho _
    · exact hgone.sealFails (by rw [(hgone.store.write ho).1]; exact nofun)
  all_goals exact hgone

theorem slotProgrammed (hr : s.ready = true) (g : GroupWrite) (k : Nat) (c : Slot) : (s.slotProgrammed g k c).Sound := by
  have hdone : State.Sound { s with
      nv := s.nv.appendSlot k c
      store := { s.store.useSlot k with arrayOp := .none, writing := some { g with remaining := g.remaining.tail } } } := by
    have harray := h.setArray (nv := s.nv.appendSlot k c) (s.nv.modRing_sectors k fun _ => rfl) s.draws
    exact harray.modStore_same (f := fun st => { st.useSlot k with
      arrayOp := .none, writing := some { g with remaining := g.remaining.tail } }) rfl rfl rfl
      (.inr ⟨ArrayOp.free_none, .inr rfl⟩) (Store.useSlot_sectors _ _)
  unfold State.slotProgrammed
  dsimp only
  split
  · exact hdone.groupClosed hr g
  · exact hdone.programNext hr

/-- An array operation in progress says that the part is READY. -/
theorem ready_of_arrayOp (ha : s.store.arrayOp ≠ .none) : s.ready = true := by
  cases hr : s.ready with
  | true => rfl
  | false => exact absurd (h.store.quiet hr).2 ha

theorem programEnds (ok mapOk : Bool) : (s.programEnds ok mapOk).Sound := by
  have hclear {t : State} (ht : t.Sound) : (t.modStore (fun st => { st with arrayOp := .none })).Sound :=
    ht.modStore_same rfl rfl rfl (.inr ⟨ArrayOp.free_none, .inr rfl⟩) rfl
  unfold State.programEnds
  split
  · exact h
  · exact h
  · rename_i k g flag ha
    have hr := h.ready_of_arrayOp (by rw [ha]; exact nofun)
    have harray (f : Field) := h.setArray (nv := s.nv.programHeader k f flag) (s.nv.modRing_sectors k fun _ => rfl) s.draws
    split
    · exact h
    · split
      · exact (hclear (harray _)).programNext hr
      · exact (harray _).groupFailed hr _ _ _
  · rename_i k c ha
    have hr := h.ready_of_arrayOp (by rw [ha]; exact nofun)
    split
    · exact h
    · split
      · exact h.slotProgrammed hr _ _ _
      · have harray := h.setArray (nv := s.nv.appendSlot k .damaged) (s.nv.modRing_sectors k fun _ => rfl) s.draws
        exact State.Sound.groupFailed (harray.modStore_same (f := fun st => st.useSlot k) rfl rfl rfl (.inl rfl)
          (Store.useSlot_sectors _ _)) hr _ _ _
  · rename_i k ha
    have hr := h.ready_of_arrayOp (by rw [ha]; exact nofun)
    have hfit := h.store.array
    rw [ha] at hfit
    have harray (b : Bool) (d : Nat) := h.setArray (nv := s.headerProgrammed k b) (by simp [State.headerProgrammed]) d
    split
    · exact (hclear (harray true s.draws)).runTasks hr
    · exact (harray false _).sealFails (show s.catalog.state ≠ .sealed by rw [(h.store.write hfit).1]; exact nofun)
  · rename_i k c ha
    have hr := h.ready_of_arrayOp (by rw [ha]; exact nofun)
    have hfit := h.store.array
    rw [ha] at hfit
    have harray (x : AreaSlot) := h.setArray (nv := s.nv.appendArea k x) rfl s.draws
    split
    · exact (hclear (harray c)).runTasks hr
    · exact (harray _).sealFails (show s.catalog.state ≠ .sealed by rw [(h.store.write hfit).1]; exact nofun)
  · rename_i ha
    have hfit := h.store.array
    rw [ha] at hfit
    have harray := h.setArray (nv := s.mapProgrammed ok) rfl (if ok then s.draws else s.draws + 1)
    exact State.Sound.wipeCompletes (harray.modStore_same rfl rfl rfl (.inr ⟨ArrayOp.free_none, .inr rfl⟩) rfl)
      (show s.catalog.state ≠ .sealed by rw [(h.store.wipe hfit).1]; exact nofun) rfl

/-! ### An erase ends (R94, R97) -/

theorem ringEraseEnds (k : Nat) (r : EraseResult) (mapOk : Bool) : (s.ringEraseEnds k r mapOk).Sound := by
  have hring (f : RingSector → RingSector) (hf : ∀ x, (f x).sector = x.sector) :=
    h.setArray (nv := s.nv.modRing k f) (s.nv.modRing_sectors k hf) s.draws
  unfold State.ringEraseEnds
  split
  · have hfree := (hring (fun x => { x.erased with eraseCount := .val (s.store.nextEraseCount k) }) fun _ => rfl).modStore_same
      (f := fun st => st.modRec k (fun x =>
        { x with role := .free, generation := none, eraseCount := some (s.store.nextEraseCount k), used := 1 }))
      rfl rfl rfl (.inl rfl) (Store.modRec_sectors _ _ fun _ => rfl)
    dsimp only
    split
    · exact hfree.retire k mapOk
    · exact hfree
  · exact (h.setArray (s.nv.failedErase_sectors k s.draws) _).retire k mapOk
  · exact (hring (fun x => { x.erased with eraseCount := .torn }) fun _ => rfl).retire k mapOk

theorem ringErased (k : Nat) (r : EraseResult) (mapOk : Bool) : (s.ringErased k r mapOk).Sound :=
  (h.ringEraseEnds k r mapOk).modStore_same rfl rfl rfl (.inr ⟨ArrayOp.free_none, .inr rfl⟩) rfl

theorem areaErased (hr : s.ready = true) (k : Nat) : (State.areaEraseEnds.erased s k).Sound := by
  refine State.Sound.runTasks ((h.setArray ?_ s.draws).modStore_same rfl rfl rfl (.inr ⟨ArrayOp.free_none, .inr rfl⟩) rfl) hr
  split <;> rfl

theorem areaEraseEnds (hr : s.ready = true) (k : Nat) (r : EraseResult) : (s.areaEraseEnds k r).Sound := by
  unfold State.areaEraseEnds
  split
  · have harray := h.setArray (s.nv.failedErase_sectors k s.draws) (s.draws + 1)
    dsimp only
    split
    · rename_i ho
      exact harray.sealFails (show s.catalog.state ≠ .sealed by rw [(h.store.write ho).1]; exact nofun)
    · exact State.Sound.runTasks (harray.modStore_same rfl rfl rfl (.inr ⟨ArrayOp.free_none, .inr rfl⟩) rfl) hr
  · exact h.areaErased hr k
  · exact h.areaErased hr k

theorem ringEraseFollowed (hr : s.ready = true) (k : Nat) : (s.ringEraseFollowed k).Sound := by
  unfold State.ringEraseFollowed
  split
  · exact h.readOnlyTest.operationEnded (s.readOnlyTest_workDiffers.ready.trans hr)
  · exact h.operationEnded hr

omit h in
theorem ringErased_same (k : Nat) (r : EraseResult) (mapOk : Bool) :
    (s.ringErased k r mapOk).ready = s.ready ∧ (s.ringErased k r mapOk).store.operation = s.store.operation := by
  unfold State.ringErased State.ringEraseEnds
  split
  · dsimp only
    split
    · exact ⟨State.retire_ready _ _ _, by rw [State.modStore_store, State.retire_store]; rfl⟩
    · exact ⟨rfl, rfl⟩
  · exact ⟨State.retire_ready _ _ _, by rw [State.modStore_store, State.retire_store]; rfl⟩
  · exact ⟨State.retire_ready _ _ _, by rw [State.modStore_store, State.retire_store]; rfl⟩

theorem eraseEnds (r : EraseResult) (mapOk : Bool) : (s.eraseEnds r mapOk).Sound := by
  by_cases hop : ∃ k, s.store.arrayOp = .erase k
  · obtain ⟨k, hop⟩ := hop
    have hr := h.ready_of_arrayOp (by rw [hop]; exact nofun)
    by_cases hk : k < 4
    · rw [s.eraseEnds_area hop hk]
      exact h.areaEraseEnds hr k r
    · obtain ⟨hready, ho⟩ := State.Sound.ringErased_same (s := s) k r mapOk
      rw [s.eraseEnds_ring hop hk]
      split
      · rename_i her
        refine State.Sound.ringEraseFollowed ((h.ringErased k r mapOk).modStore_work rfl (hready.trans hr) ?_ Operation.onRing_idle
          rfl (.inl rfl) rfl) (hready.trans hr) k
        rw [ho, her]
        exact Operation.onRing_erasing
      · exact (h.ringErased k r mapOk).runTasks (hready.trans hr)
  · rw [s.eraseEnds_other (not_exists.mp hop)]
    exact h

/-! ### The supply (R100, R101) -/

omit h in
theorem inProgressCounted_same (s : State) : s.inProgressCounted.operation = s.store.operation ∧
    s.inProgressCounted.tasks = s.store.tasks ∧ s.inProgressCounted.durable = s.store.durable ∧
    s.inProgressCounted.table.map (fun x => x.sector) = s.store.table.map (fun x => x.sector) := by
  unfold State.inProgressCounted
  split
  · exact ⟨rfl, rfl, rfl, Store.useSlot_sectors _ _⟩
  · exact ⟨rfl, rfl, rfl, rfl⟩

theorem abandonImage (g : GroupWrite) : (s.abandonImage g).Sound := by
  have hrole (x : SectorRec) : (g.abandonedRole x).sector = x.sector := by
    unfold GroupWrite.abandonedRole
    split
    · split <;> rfl
    · rfl
  obtain ⟨ho, ht, hd, htab⟩ := inProgressCounted_same s
  rw [State.abandonImage_eq]
  exact (h.setArray (s.arraySettled_sectors _) (s.draws + 1)).modStore_same hd ho ht (.inr ⟨ArrayOp.free_none, .inr rfl⟩)
    ((sectors_map hrole _).trans htab)

omit h in
theorem abandonImage_same (s : State) (g : GroupWrite) :
    (s.abandonImage g).ready = s.ready ∧ (s.abandonImage g).store.operation = s.store.operation ∧
      (s.abandonImage g).store.tasks = s.store.tasks ∧ (s.abandonImage g).store.arrayOp = .none := by
  obtain ⟨ho, ht, -, -⟩ := inProgressCounted_same s
  rw [State.abandonImage_eq]
  exact ⟨rfl, ho, ht, rfl⟩

theorem storeWarned (hr : s.ready = true) : s.storeWarned.Sound := by
  unfold State.storeWarned
  split
  · exact h.dropRequest
  · rename_i g ho _
    obtain ⟨hready, hop, -, -⟩ := abandonImage_same s g
    refine State.Sound.operationEnded (State.Sound.cancelAppend ((h.abandonImage g).modStore_work rfl (hready.trans hr)
      (by rw [hop, ho]; exact Operation.onRing_compacting) Operation.onRing_idle rfl (.inl rfl) rfl) _) ?_
    rw [(State.cancelAppend_workDiffers _ _).ready]
    exact hready.trans hr
  · rename_i g ho _
    obtain ⟨-, hop, -, harray⟩ := abandonImage_same s g
    have hgone := h.abandonImage g
    have hwrite : (s.abandonImage g).store.operation = .catalogWrite := hop.trans ho
    refine hgone.modStore rfl ⟨fun _ => ⟨(hgone.store.write hwrite).1, rfl⟩, fun hw => ?_, fun hon => absurd hwrite hon.1, ?_,
      hgone.store.table, hgone.store.quiet⟩
    · exact absurd (hwrite.symm.trans hw) nofun
    · exact hgone.store.array
  · exact h.dropRequest.cancelAppend _

theorem storeRestored (hr : s.ready = true) : s.storeRestored.Sound := by
  unfold State.storeRestored
  split
  · exact h.compactionTest.choose
  · split
    · exact h.runTasks hr
    · exact h
  · split
    · exact h.runTasks hr
    · exact h
  all_goals exact h.compactionTest

end State.Sound

end Sys2Proof.Machine
end

section
/-! SUPPORT. Every command keeps ownership, leases, transfers, the commit in flight and the store in agreement (R51, R70, R74). -/

namespace Sys2Proof.Machine

set_option Elab.async false

open Sys2Proof

/-! ### Frames (R45, R47, R48) -/

/-- The rights after the top frame has gone, with the owner when it was the last (R31). -/
def Rights.popped (v : Rights) : Rights :=
  if v.depth ≤ 1 then { v with owner := none, depth := 0, runs := fun _ => false } else { v with depth := v.depth - 1 }

theorem Rights.Agree.popped {v : Rights} (h : v.Agree) (hc : v.commit = none) (hlocks : ∀ p, (v.bulk p).locks = false) :
    v.popped.Agree := by
  unfold Rights.popped
  split
  · have hempty := h.emptied hlocks v.durable
    rw [← hc] at hempty
    exact hempty
  · exact h.depthChanged hc (by omega) (by omega)

theorem Rights.popped_bulk (v : Rights) (b : Port → BulkCtx) :
    ({ v.popped with bulk := b } : Rights) = ({ v with bulk := b } : Rights).popped := by
  unfold Rights.popped
  split <;> rfl

theorem State.dropOwner_same (s : State) : s.dropOwner.store = s.store ∧ s.dropOwner.nv = s.nv ∧ s.dropOwner.commit = s.commit := by
  rw [State.dropOwner_eq]
  split <;> simp

theorem State.rollbackTop_same (s : State) : s.rollbackTop.store = s.store ∧ s.rollbackTop.nv = s.nv ∧
    s.rollbackTop.catalog.state = s.catalog.state ∧ s.rollbackTop.ready = s.ready := by
  unfold State.rollbackTop
  split <;> exact ⟨rfl, rfl, rfl, rfl⟩

theorem State.rollbackTop_rights (s : State) : s.rollbackTop.rights = { s.rights with depth := s.depth - 1 } := by
  have hports (p : Port) : s.rollbackTop.port p = s.port p := by
    unfold State.rollbackTop
    split <;> cases p <;> rfl
  have hruns : s.rollbackTop.rights.runs = s.rights.runs := funext fun p => congrArg (fun x : PortState => x.lease.isRunning) (hports p)
  have hbulk : s.rollbackTop.rights.bulk = s.rights.bulk := funext fun p => congrArg PortState.bulk (hports p)
  obtain ⟨hst, -, hstate, hready⟩ := s.rollbackTop_same
  refine Rights.ext ?_ ?_ hstate hready ?_ (congrArg Store.durable hst) hruns hbulk
  · unfold State.rollbackTop
    split <;> rfl
  · unfold State.rollbackTop
    split
    · rename_i hnil
      simp only [State.rights, State.depth, hnil]
      rfl
    · rename_i f fs hf
      simp only [State.rights, State.depth, hf]
      rfl
  · unfold State.rollbackTop
    split <;> rfl

theorem State.releaseAtZero_same (s : State) : s.releaseAtZero.store = s.store ∧ s.releaseAtZero.nv = s.nv ∧
    s.releaseAtZero.catalog.state = s.catalog.state ∧ s.releaseAtZero.ready = s.ready := by
  unfold State.releaseAtZero
  split
  · obtain ⟨hst, hn, -⟩ := s.dropOwner_same
    exact ⟨hst, hn, congrArg Catalog.state s.dropOwner_catalog, s.dropOwner_ready⟩
  · exact ⟨rfl, rfl, rfl, rfl⟩

theorem State.rollbackFrame_same (s : State) : s.rollbackFrame.store = s.store ∧ s.rollbackFrame.nv = s.nv ∧
    s.rollbackFrame.catalog.state = s.catalog.state ∧ s.rollbackFrame.ready = s.ready := by
  obtain ⟨hst, hn, hc, hr⟩ := s.rollbackTop_same
  obtain ⟨hst', hn', hc', hr'⟩ := s.rollbackTop.releaseAtZero_same
  exact ⟨hst'.trans hst, hn'.trans hn, hc'.trans hc, hr'.trans hr⟩

/-- A rollback of the top frame, seen by the rights. -/
theorem State.rollbackFrame_rights {s : State} (h : s.rights.Agree) : s.rollbackFrame.rights = s.rights.popped := by
  have htop := s.rollbackTop_rights
  have hsame : s.rights.depth = s.depth := rfl
  have hdepth : s.rollbackTop.depth = s.depth - 1 := congrArg Rights.depth htop
  have hruns : ∀ r, s.rollbackTop.rights.runs r = true → s.rollbackTop.rights.owner = some r := by
    rw [htop]
    exact fun r hr => (h.lease r hr).1
  unfold State.rollbackFrame State.releaseAtZero
  split
  · rename_i hnil
    rw [State.depth, hnil] at hdepth
    rw [State.release, State.rights_noticeBoth, State.rights_dropOwner _ hruns, htop, ← hdepth, Rights.popped,
      if_pos (show s.rights.depth ≤ 1 by simp only [List.length_nil] at hdepth; omega)]
    rfl
  · rename_i hne
    have hpos : s.rollbackTop.depth ≠ 0 := fun h0 => hne (List.length_eq_zero_iff.mp h0)
    rw [htop, Rights.popped, if_neg (show ¬ s.rights.depth ≤ 1 by omega)]
    rfl

theorem State.stage_rights (s : State) (i : Nat) (v : Value) : (s.stage i v).rights = s.rights := by
  have hstack : (s.stage i v).stack.owner = s.stack.owner ∧ (s.stage i v).depth = s.depth := by
    rw [State.depth, State.depth, State.stage_stack]
    split
    · unfold Stack.takeRecord
      split
      · exact ⟨rfl, rfl⟩
      · rename_i hf
        exact ⟨rfl, by rw [hf]; rfl⟩
    · exact ⟨rfl, rfl⟩
  exact State.rights_congr hstack.1 hstack.2 rfl rfl rfl rfl (fun p => by cases p <;> rfl) (fun p => by cases p <;> rfl)

theorem applyItems_rights (p : Port) (blk i : Nat) (rs : List SetReq) (s : State) : (applyItems p blk i rs s).1.rights = s.rights ∧
    (applyItems p blk i rs s).1.store = s.store ∧ (applyItems p blk i rs s).1.nv = s.nv := by
  induction rs generalizing i s with
  | nil => exact ⟨rfl, rfl, rfl⟩
  | cons r rs ih =>
    unfold applyItems
    split
    · exact ⟨rfl, rfl, rfl⟩
    · rename_i v _
      obtain ⟨hr, hst, hn⟩ := ih (i + 1) (s.stage r.id v)
      exact ⟨hr.trans (s.stage_rights r.id v), hst, hn⟩

namespace State.Sound

variable {s : State} (h : s.Sound)
include h

theorem rollbackFrame (hc : s.commit = none) (hlocks : ∀ p, (s.port p).bulk.locks = false) : s.rollbackFrame.Sound := by
  obtain ⟨hst, hn, hstate, hr⟩ := s.rollbackFrame_same
  exact h.of_rights (State.rollbackFrame_rights h.rights ▸ h.rights.popped hc hlocks) hst hn hstate hr

theorem commit_none_of_writing {p : Port} {w : WriteCtx} (hw : (s.port p).bulk = .writing w) : s.commit = none :=
  h.rights.commit_none_of_locks (p := p) (show (s.port p).bulk.locks = true by rw [hw]; rfl)

/-- The end of a write rolls its frame back; the context lets go of the staged values in the same event (R145). -/
theorem rollbackFrame_closeBulk {p : Port} {w : WriteCtx} (hw : (s.port p).bulk = .writing w) (d : DoneRec) :
    (s.rollbackFrame.closeBulk p d).Sound := by
  obtain ⟨hst, hn, hstate, hr⟩ := s.rollbackFrame_same
  have hlock : (s.rights.bulk p).locks = true := show (s.port p).bulk.locks = true by rw [hw]; rfl
  have hclosed := h.rights.endBulk p (b := .closing d) rfl
  have hlocks (r : Port) : (Function.update s.rights.bulk p (.closing d) r).locks = false := by
    rw [Function.update_apply]
    split
    · rfl
    · exact h.rights.locks_false_of_ne (h.rights.locks p hlock) ‹_›
  refine h.of_rights ?_ ?_ ?_ ?_ ?_
  · rw [State.rights_closeBulk, State.rollbackFrame_rights h.rights]
    have hbulk : s.rights.popped.bulk = s.rights.bulk := by unfold Rights.popped; split <;> rfl
    rw [hbulk, Rights.popped_bulk]
    exact hclosed.popped (h.commit_none_of_writing hw) hlocks
  · rw [State.closeBulk_store, hst]
  · rw [State.closeBulk_nv, hn]
  · rw [State.closeBulk_catalog, hstate]
  · rw [State.ready, State.closeBulk_ctl]; exact hr

theorem mergeTop (hc : s.commit = none) : s.mergeTop.Sound := by
  obtain ⟨hcatalog, -⟩ := s.mergeTop_elsewhere
  have hport := s.mergeTop_port
  cases hf : s.stack.frames with
  | nil => rw [State.mergeTop, hf]; exact h
  | cons f fs =>
    cases fs with
    | nil => rw [State.mergeTop, hf]; exact h
    | cons g fs =>
      have hdepth : s.rights.depth = fs.length + 2 := by rw [State.rights, State.depth, hf]; rfl
      have hmerged : s.mergeTop.rights = { s.rights with depth := fs.length + 1 } := by
        simp only [State.mergeTop, hf]
        rfl
      refine h.of_rights (hmerged ▸ h.rights.depthChanged hc (by omega) (Nat.succ_ne_zero _)) ?_ ?_ (by rw [hcatalog]) ?_
      all_goals simp only [State.mergeTop, hf]
      all_goals rfl

theorem stage (i : Nat) (v : Value) : (s.stage i v).Sound := h.of_eq (s.stage_rights i v) rfl rfl

/-! ### Transfers (R127 to R147) -/

theorem endBulk (p : Port) (e : BulkEnd) : (s.endBulk p e).Sound := by
  unfold State.endBulk
  split
  · exact h.closeBulk p _
  · exact h.closeBulk p _
  · exact h.rollbackFrame_closeBulk ‹_› _
  · exact h
  · exact h

theorem endBulkAtExpiry (p : Port) : (s.endBulkAtExpiry p).Sound := by
  unfold State.endBulkAtExpiry
  split
  · split
    · exact h.closeBulk p _
    · exact h
  · split
    · exact h.closeBulk p _
    · exact h
  · exact h.closeBulk p _
  · exact h
  · exact h

theorem finishWrite {p : Port} {w₀ : WriteCtx} (hw : (s.port p).bulk = .writing w₀) (w : WriteCtx) : (s.finishWrite p w).Sound := by
  unfold State.finishWrite
  split
  · refine State.Sound.closeBulk ?_ p _
    split
    · exact h.mergeTop (h.commit_none_of_writing hw)
    · exact h
  · exact h.rollbackFrame_closeBulk hw _

/-- A context goes on in another of its kind. -/
theorem nextBulk {p : Port} {f : PortState → PortState} (hl : ∀ x, (f x).lease = x.lease) (hactive : (s.port p).bulk.active = true)
    (hlocks : (f (s.port p)).bulk.locks = (s.port p).bulk.locks)
    (hw : ∀ w, (f (s.port p)).bulk = .writing w → w.creditsOpen + w.buffer.length + w.creditsPending = 2) : (s.modPort p f).Sound :=
  h.modPort (State.rights_modPort_bulk s p hl ▸ h.rights.nextBulk hactive hlocks hw)

theorem processBlock {p : Port} {w : WriteCtx} {b : Block} {rest : List Block} (hw : (s.port p).bulk = .writing w)
    (hb : w.buffer = b :: rest) : (s.processBlock p w b).Sound := by
  obtain ⟨hr, hst, hn⟩ := applyItems_rights p b.index 0 (w.itemsToApply b) s
  have happlied := h.of_eq hr hst hn
  have hbulk : ((applyItems p b.index 0 (w.itemsToApply b) s).1.port p).bulk = .writing w := (congrFun (congrArg Rights.bulk hr) p).trans hw
  have hcredits := h.rights.credits p w hw
  unfold State.processBlock
  dsimp only
  split
  · exact happlied.finishWrite hbulk _
  · refine happlied.nextBulk (fun _ => rfl) (by rw [hbulk]; rfl) (by rw [hbulk]; rfl) fun w' hw' => ?_
    cases hw'
    simp only [WriteCtx.afterBlock, hb, List.tail_cons]
    rw [hb, List.length_cons] at hcredits
    omega

end State.Sound

end Sys2Proof.Machine
end

section
/-! SUPPORT. Every command keeps ownership, leases, transfers, the commit in flight and the store in agreement, request by request and
event by event. -/

namespace Sys2Proof.Machine

set_option Elab.async false

open Sys2Proof

theorem firstFail_cons {ok : Bool} {c : RefuseCode} {cs : List (Bool × RefuseCode)} (h : firstFail ((ok, c) :: cs) = none) :
    ok = true ∧ firstFail cs = none := by
  cases ok with
  | true => exact ⟨rfl, h⟩
  | false => cases h

theorem State.owns_iff_owner (s : State) (p : Port) : s.owns p = true ↔ s.stack.owner = some p := beq_iff_eq

theorem State.not_ownedByOther (s : State) (p : Port) (h : (!s.ownedByOther p) = true) {r : Port} (hr : s.stack.owner = some r) : r = p := by
  rw [State.ownedByOther, hr] at h
  cases p <;> cases r <;> first | rfl | exact absurd h (by decide)

namespace State.Sound

variable {s : State} (h : s.Sound)
include h

/-! ### The common check order -/

theorem takeRequest {p : Port} {q k : Byte} {next : State → State} (hnext : ∀ t : State, t.Sound → (next t).Sound) :
    (s.takeRequest p q k next).Sound := by
  unfold State.takeRequest
  split
  · have hrestart := h.restartLease p
    have hplace (b : Body) : ((s.restartLease p).modPort p (fun x => x.place q b)).Sound :=
      hrestart.of_eq (by simp) (by simp) (by simp)
    dsimp only
    split
    · exact hrestart.counting _ _
    · exact (hplace _).counting _ _
    · exact (hplace _).counting _ _
    · exact hrestart.counting _ _
    · exact hnext _ (hrestart.of_eq (by simp) (by simp) (by simp))
  · exact h

/-- A request's own part runs from READY on. -/
theorem request {α : Type} {p : Port} {q k : Byte} {fields : Option α} {own : α → State → State}
    (hown : ∀ a (t : State), t.Sound → t.ready = true → (own a t).Sound) : (s.request p q k fields own).Sound := by
  refine h.takeRequest fun t ht => ?_
  unfold State.checkRequest
  split
  · exact ht.answer _ _ _ _
  · split
    · rename_i hready
      split
      · exact hown _ t ht hready
      · exact ht.refuse _ _ _ _ _
    · exact ht.answer _ _ _ _

theorem ownChecks {p : Port} {q k : Byte} {checks : List (Bool × RefuseCode)} {accept : State → State}
    (haccept : firstFail checks = none → (accept s).Sound) : (s.ownChecks p q k checks accept).Sound := by
  unfold State.ownChecks
  split
  · exact h.refuse _ _ _ _ _
  · exact haccept ‹_›

theorem streamMessage {p : Port} {next : State → State} (hnext : ∀ t : State, t.Sound → (next t).Sound) :
    (s.streamMessage p next).Sound := by
  unfold State.streamMessage
  split
  · exact hnext _ (h.restartLease p)
  · exact h

/-! ### Requests of the stack -/

/-- A frame is pushed where nobody else owns the stack and no commit is in flight (R36, R135). -/
theorem pushFrame {p : Port} (hr : s.ready = true) (hstate : s.catalog.state = .sealed) (howner : (!s.ownedByOther p) = true)
    (hc : s.commit = none) (label : Option (List Byte)) : (s.pushFrame p label).Sound ∧ (s.pushFrame p label).stack.owner = some p := by
  unfold State.pushFrame
  dsimp only
  split
  · rename_i hnil
    have hd : s.rights.depth = 0 := by rw [State.rights, State.depth, hnil]; rfl
    refine ⟨State.Sound.noticeBoth (h.of_rights ?_ (by simp) (by simp) (by simp) (by simp [State.ready])) _, by simp [State.takeOwnership]⟩
    rw [State.rights_startLease]
    have hdepth : (1 : Nat) = ({ label := label, undo := [] } :: s.stack.frames).length := by rw [hnil]; rfl
    have hfirst := h.rights.firstFrame hd hstate hr p (leaseOf (s.leasePeriod p)).isRunning
    rw [hdepth] at hfirst
    exact hfirst
  · rename_i hne
    have hd : s.rights.depth ≠ 0 := fun h0 => hne (List.length_eq_zero_iff.mp h0)
    refine ⟨h.of_rights (h.rights.depthChanged hc hd (Nat.succ_ne_zero _)) rfl rfl rfl rfl, ?_⟩
    obtain ⟨r, hown⟩ := Option.isSome_iff_exists.mp (h.rights.bounded.mpr hd)
    exact hown.trans (congrArg some (s.not_ownedByOther p howner hown))

theorem acceptBegin {p : Port} (hr : s.ready = true) (q : Byte) (label : Option (List Byte))
    (hpass : firstFail (s.beginChecks p) = none) : (s.acceptBegin p q label).Sound := by
  obtain ⟨hstate, hpass⟩ := firstFail_cons hpass
  obtain ⟨howner, hpass⟩ := firstFail_cons hpass
  obtain ⟨-, hpass⟩ := firstFail_cons hpass
  obtain ⟨hc, -⟩ := firstFail_cons hpass
  exact (h.pushFrame hr (beq_iff_eq.mp hstate) howner (Option.isNone_iff_eq_none.mp hc) label).1.reply _ _ _ _

theorem ownSet (p : Port) (q : Byte) (r : SetReq) :
    (match s.setCheck p r with
      | .error c => s.refuse p q kSet c r.id
      | .ok v => s.acceptSet p q r.id v).Sound := by
  split
  · exact h.refuse _ _ _ _ _
  · exact (h.stage _ _).reply _ _ _ _

theorem ownGet (p : Port) (q : Byte) (id : Nat) : (s.ownGet p q id).Sound := by
  unfold State.ownGet
  split
  · split
    · exact h.reply _ _ _ _
    · exact h.refuse _ _ _ _ _
  · exact h.refuse _ _ _ _ _

/-- The owner's context does not work on the staged values, so none does. -/
theorem unlocked_all {p : Port} (ho : s.owns p = true) (hu : s.unlocked p = true) (r : Port) : (s.port r).bulk.locks = false := by
  by_cases hr : r = p
  · simpa [State.unlocked, hr] using hu
  · exact h.rights.locks_false_of_ne ((s.owns_iff_owner p).mp ho) hr

theorem acceptRollback {p : Port} (q : Byte) (expected : Option (List Byte)) (hpass : firstFail (s.rollbackChecks p expected) = none) :
    (s.acceptRollback p q).Sound := by
  obtain ⟨-, hpass⟩ := firstFail_cons hpass
  obtain ⟨-, hpass⟩ := firstFail_cons hpass
  obtain ⟨ho, hpass⟩ := firstFail_cons hpass
  obtain ⟨hc, hpass⟩ := firstFail_cons hpass
  obtain ⟨hu, -⟩ := firstFail_cons hpass
  exact (h.rollbackFrame (Option.isNone_iff_eq_none.mp hc) (h.unlocked_all ho hu)).reply _ _ _ _

theorem acceptMerge {p : Port} (q : Byte) (expected : Option (List Byte)) (hpass : firstFail (s.mergeChecks p expected) = none) :
    (s.acceptMerge p q).Sound := by
  obtain ⟨-, hpass⟩ := firstFail_cons hpass
  obtain ⟨-, hpass⟩ := firstFail_cons hpass
  obtain ⟨-, hpass⟩ := firstFail_cons hpass
  obtain ⟨hc, -⟩ := firstFail_cons hpass
  exact (h.mergeTop (Option.isNone_iff_eq_none.mp hc)).reply _ _ _ _

/-- Every frame goes, and the owner with them (R48, R49, R73). -/
theorem rollbackAll (hc : s.commit = none) (hlocks : ∀ p, (s.port p).bulk.locks = false) :
    (State.rollbackMany s.depth s).dropOwner.Sound := by
  rw [State.rollbackMany_all]
  have hrights : State.rights { s with
      catalog := { s.catalog with entries := restoreFrames s.stack.frames s.catalog.entries }
      stack := { s.stack with frames := [], free := s.stack.free + s.inUse } } = { s.rights with depth := 0 } :=
    Rights.ext rfl rfl rfl rfl rfl rfl (funext fun p => by cases p <;> rfl) (funext fun p => by cases p <;> rfl)
  have hempty := h.rights.emptied hlocks s.store.durable
  rw [← hc] at hempty
  refine h.of_rights ?_ (State.dropOwner_same _).1 (State.dropOwner_same _).2.1 ((congrArg Catalog.state (State.dropOwner_catalog _)).trans rfl)
    (State.dropOwner_ready _)
  rw [State.rights_dropOwner _ (by rw [hrights]; exact fun r hr => (h.rights.lease r hr).1), hrights]
  exact hempty

theorem acceptAbandon {p : Port} (q : Byte) (hpass : firstFail (s.abandonChecks p) = none) : (s.acceptAbandon p q).Sound := by
  obtain ⟨-, hpass⟩ := firstFail_cons hpass
  obtain ⟨-, hpass⟩ := firstFail_cons hpass
  obtain ⟨ho, hpass⟩ := firstFail_cons hpass
  obtain ⟨hc, hpass⟩ := firstFail_cons hpass
  obtain ⟨hu, -⟩ := firstFail_cons hpass
  exact ((h.rollbackAll (Option.isNone_iff_eq_none.mp hc) (h.unlocked_all ho hu)).noticeBoth _).reply _ _ _ _

/-! ### Requests of the Bulk Engine -/

theorem acceptBulkRead {p : Port} (hr : s.ready = true) (q : Byte) (r : BulkReadReq)
    (hpass : firstFail (s.bulkReadChecks p r) = none) : (s.acceptBulkRead p q r).Sound := by
  obtain ⟨hstate, hpass⟩ := firstFail_cons hpass
  obtain ⟨-, hpass⟩ := firstFail_cons hpass
  obtain ⟨-, hpass⟩ := firstFail_cons hpass
  obtain ⟨hview, hpass⟩ := firstFail_cons hpass
  obtain ⟨hcommit, -⟩ := firstFail_cons hpass
  have hopen : (s.openBulk p (.reading (s.readCtx r))).Sound := by
    refine h.modPort (State.rights_openBulk s p _ ▸ h.rights.setBulk (fun hl => ?_) (fun _ => ⟨beq_iff_eq.mp hstate, hr, fun c hc hcp => ?_⟩)
      nofun)
    · have hw : r.view = .working := beq_iff_eq.mp hl
      rw [hw] at hview
      exact (s.owns_iff_owner p).mp hview
    · obtain ⟨-, hown, -⟩ := h.rights.commit c hc
      have howns : s.owns p = true := (s.owns_iff_owner p).mpr (hcp ▸ hown)
      rw [howns, show s.commit = some c from hc] at hcommit
      cases hcommit
  unfold State.acceptBulkRead
  dsimp only
  split
  · exact (hopen.reply _ _ _ _).closeBulk _ _
  · exact hopen.reply _ _ _ _

theorem acceptBulkWrite {p : Port} (hr : s.ready = true) (q : Byte) (count : Nat)
    (hpass : firstFail (s.bulkWriteChecks p count) = none) : (s.acceptBulkWrite p q count).Sound := by
  obtain ⟨hstate, hpass⟩ := firstFail_cons hpass
  obtain ⟨-, hpass⟩ := firstFail_cons hpass
  obtain ⟨-, hpass⟩ := firstFail_cons hpass
  obtain ⟨howner, hpass⟩ := firstFail_cons hpass
  obtain ⟨-, hpass⟩ := firstFail_cons hpass
  obtain ⟨hc, -⟩ := firstFail_cons hpass
  have hcommit := Option.isNone_iff_eq_none.mp hc
  obtain ⟨hpushed, hown⟩ := h.pushFrame hr (beq_iff_eq.mp hstate) howner hcommit none
  have hsealed := hpushed.rights.owner (show (s.pushFrame p none).stack.owner ≠ none by rw [hown]; exact nofun)
  have hnone : (s.pushFrame p none).commit = none := by
    rw [← hcommit, State.pushFrame]
    dsimp only
    split
    · simp [State.takeOwnership]
    · rfl
  refine State.Sound.reply (hpushed.modPort (State.rights_openBulk _ p _ ▸ hpushed.rights.setBulk (fun _ => hown)
    (fun _ => ⟨hsealed.1, hsealed.2, fun c hc => ?_⟩) fun w hw => ?_)) _ _ _ _
  · exact absurd (hnone.symm.trans hc) nofun
  · cases hw; rfl

theorem ownBulkAbort (p : Port) (q : Byte) : (s.ownBulkAbort p q).Sound := by
  unfold State.ownBulkAbort
  split
  · split
    · exact (h.endBulk p _).reply _ _ _ _
    · exact h.refuse _ _ _ _ _
  · exact h.refuse _ _ _ _ _

/-! ### Requests of the Catalog and COMMIT -/

theorem ownDefine (p : Port) (q : Byte) (r : DefineReq) : (s.ownDefine p q r).Sound := by
  unfold State.ownDefine
  split
  · exact h.refuse _ _ _ _ _
  · rename_i d hd
    have htakes : s.catalog.state.takesDefinitions = true := by
      by_contra hno
      rw [State.defineCheck_wrongState (Bool.eq_false_iff.mpr hno)] at hd
      cases hd
    have hstate : s.catalog.state ≠ .sealed ∧ s.catalog.state ≠ .sealing ∧ s.catalog.state ≠ .wiping := by
      refine ⟨?_, ?_, ?_⟩ <;> intro hs <;> rw [hs] at htakes <;> cases htakes
    obtain ⟨hsealed, hsealing, hwiping⟩ := hstate
    have hon := h.store.onRing hsealing hwiping
    exact (h.unsealed (t := s.addDefinition d) hsealed rfl rfl rfl rfl
      ⟨fun ho => absurd ho hon.1, fun ho => absurd ho hon.2, h.store.tasks, h.store.array, h.store.table, h.store.quiet⟩
      h.ring).reply _ _ _ _

theorem ownSetup (p : Port) (q : Byte) (r : SetupReq) : (s.ownSetup p q r).Sound := by
  have hset (u : Setup) : State.Sound { s with catalog := { s.catalog with setup := u } } :=
    h.of_eq (State.rights_congr rfl rfl rfl rfl rfl rfl (fun p => by cases p <;> rfl) (fun p => by cases p <;> rfl)) rfl rfl
  unfold State.ownSetup
  split
  · split
    · exact (hset _).reply _ _ _ _
    · exact h.refuse _ _ _ _ _
  · exact h.refuse _ _ _ _ _

theorem acceptSeal (hr : s.ready = true) (q : Byte) (hcheck : s.sealCheck = none) : (s.acceptSeal q).Sound := by
  have hbuilding : s.catalog.state = .building := by
    unfold State.sealCheck at hcheck
    split at hcheck
    · assumption
    · cases hcheck
  have hon := h.store.onRing (by rw [hbuilding]; exact nofun) (by rw [hbuilding]; exact nofun)
  refine State.Sound.startCatalogWrite (h.unsealed (by rw [hbuilding]; exact nofun) rfl rfl rfl rfl ?_ h.ring) hr rfl hon
  exact ⟨fun ho => absurd ho hon.1, fun ho => absurd ho hon.2, h.store.tasks, h.store.array, h.store.table, h.store.quiet⟩

/-- WIPE is taken where nothing is owned (R21). -/
theorem acceptWipe (hr : s.ready = true) (q : Byte) (hallow : s.wipeAllowed = true) : (s.acceptWipe q).Sound := by
  have hunused : s.rights.Unused := by
    by_cases hstate : s.catalog.state = .sealed
    · rw [State.wipeAllowed, hstate] at hallow
      simp only [Bool.and_eq_true, List.isEmpty_iff, Bool.not_eq_true'] at hallow
      obtain ⟨⟨hnil, hA⟩, hB⟩ := hallow
      have hdepth : s.rights.depth = 0 := by rw [State.rights, State.depth, hnil]; rfl
      have howner := h.rights.depth_zero.mp hdepth
      exact ⟨howner, hdepth, h.rights.commit_none_of_owner howner, h.rights.runs_false_of_owner howner, fun p => by cases p <;> assumption⟩
    · exact h.rights.unused hstate
  have hon : s.store.operation.OnRing := by
    refine h.store.onRing (fun hs => ?_) (fun hs => ?_) <;> rw [State.wipeAllowed, hs] at hallow <;> cases hallow
  refine State.Sound.operationEnded (State.Sound.of_unused hunused rfl rfl (fun p => by cases p <;> rfl) (fun p => by cases p <;> rfl) ?_ h.ring) hr
  exact ⟨fun ho => absurd ho hon.1, fun ho => absurd ho hon.2, h.store.tasks, h.store.array, h.store.table, h.store.quiet⟩

theorem acceptCommit {p : Port} (q : Byte) (run : Bool) (hcheck : s.commitCheck p run = none) : (s.acceptCommit p q run).Sound := by
  unfold State.commitCheck at hcheck
  split at hcheck
  · cases hcheck
  · rename_i hpass
    obtain ⟨-, hpass⟩ := firstFail_cons hpass
    obtain ⟨howns, hpass⟩ := firstFail_cons hpass
    obtain ⟨hdepth, hpass⟩ := firstFail_cons hpass
    obtain ⟨-, hpass⟩ := firstFail_cons hpass
    obtain ⟨hidle, -⟩ := firstFail_cons hpass
    have hhand : (s.handOver p q run).Sound := by
      refine ⟨?_, ?_, ?_⟩
      · rw [State.handOver, State.rights_stopLease]
        exact h.rights.committed (c := s.inFlightRecord p q run) (beq_iff_eq.mp hdepth) ((s.owns_iff_owner p).mp howns)
          (show (s.port p).bulk.active = false by simpa using hidle) rfl
      · have hstore : (s.handOver p q run).store = { s.store with pend := some s.groupOf } := by simp [State.handOver]
        have hcat : (s.handOver p q run).catalog = s.catalog := by simp [State.handOver]
        have hready : (s.handOver p q run).ready = s.ready := by simp [State.handOver, State.ready]
        rw [hstore, hcat, hready]
        exact h.store.same rfl rfl (.inl rfl) rfl
      · simpa [State.handOver] using h.ring
    exact hhand.requestRoom.choose

/-! ### Requests of Notice Unit and Link Unit -/

theorem ownWatch (p : Port) (q : Byte) (rs : List IdRange) : (s.ownWatch p q rs).Sound := by
  unfold State.ownWatch
  split
  · exact h.refuse _ _ _ _ _
  · exact (h.setWatch _ _).reply _ _ _ _

theorem ownUnwatch (p : Port) (q : Byte) : (s.ownUnwatch p q).Sound := by
  unfold State.ownUnwatch
  split
  · exact (h.setWatch _ _).reply _ _ _ _
  · exact h.refuse _ _ _ _ _

/-- A suppressed commit is the same commit to everything that depends on the owner. -/
theorem suppressReply (p : Port) : (s.suppressReply p).Sound := by
  refine h.of_rights ⟨h.rights.bounded, h.rights.owner, ?_, fun r hr => ?_, ?_, ?_, ?_, fun c hc => ?_⟩ rfl rfl rfl rfl
  · exact fun hr r => by cases r; exacts [h.rights.early hr .A, h.rights.early hr .B]
  · have hrun : s.rights.runs r = true := by cases r <;> exact hr
    obtain ⟨hown, hnone⟩ := h.rights.lease r hrun
    exact ⟨hown, by rw [State.rights, State.suppressReply, show s.commit = none from hnone]; rfl⟩
  · exact fun r hr => h.rights.locks r (by cases r <;> exact hr)
  · exact fun r hr => h.rights.active r (by cases r <;> exact hr)
  · exact fun r w hw => h.rights.credits r w (by cases r <;> exact hw)
  · obtain ⟨d, hd, rfl⟩ := Option.map_eq_some_iff.mp (show s.commit.map _ = some c from hc)
    obtain ⟨hdepth, hown, hinactive, hnum⟩ := h.rights.commit d hd
    have hport : (if d.port = p then { d with suppressed := true } else d).port = d.port := by split <;> rfl
    have hnumber : (if d.port = p then { d with suppressed := true } else d).number = d.number := by split <;> rfl
    rw [hport, hnumber]
    refine ⟨hdepth, hown, ?_, hnum⟩
    cases hp : d.port <;> rw [hp] at hinactive <;> exact hinactive

theorem disownRequest (p : Port) : (s.disownRequest p).Sound := by
  cases p
  · exact h.of_eq (State.rights_congr rfl rfl rfl rfl rfl rfl (fun p => by cases p <;> rfl) (fun p => by cases p <;> rfl)) rfl rfl
  · exact h

theorem linkReset (p : Port) (q : Byte) : (s.linkReset p q).Sound := by
  have hended := ((h.endBulk p .linkReset).suppressReply p).disownRequest p
  exact hended.of_eq (State.rights_modPort_quiet _ p (fun _ => rfl) (fun _ => rfl)) (by simp [State.linkReset]) (by simp [State.linkReset])

omit h in
theorem held (nv : NonVol) (cause : Option ResetCause) (supply : Supply) (draws : Nat) (pending : List Instr) (hn : nv.RingAbove) :
    (State.held nv cause supply draws pending).Sound :=
  (State.sound_iff (by simp [State.StackBounded, State.depth, State.held, Stack.reset])).mp
    (State.held_coherent nv cause supply draws pending ((NonVol.ringAbove_iff nv).mp hn))

theorem resetTo {nv : NonVol} (hn : nv.ring.map (fun x => x.sector) = s.nv.ring.map (fun x => x.sector)) (cause : Option ResetCause) :
    (s.resetTo nv cause).Sound := State.Sound.held _ _ _ _ _ (by rw [NonVol.RingAbove, hn]; exact h.ring)

/-! ### Stream messages and events of the links -/

theorem takeBlock (p : Port) (payload : List Byte) : (s.takeBlock p payload).Sound := by
  unfold State.takeBlock
  split
  · rename_i b w _ hw
    refine h.nextBulk (fun _ => rfl) (by rw [hw]; rfl) (by rw [hw]; rfl) fun w' hw' => ?_
    cases hw'
    have hcredits := h.rights.credits p w hw
    unfold WriteCtx.arrive
    split
    · simp only [List.length_append, List.length_singleton]
      omega
    · exact hcredits
  · exact h.counting _ _

theorem takeHold (p : Port) : (s.takeHold p).Sound := by
  unfold State.takeHold
  split
  · rename_i r hb
    exact h.nextBulk (fun _ => rfl) (by rw [hb]; rfl) (by rw [hb]; rfl) nofun
  · exact h
  · exact h
  · exact h
  · exact h.counting _ _

theorem takeGo (p : Port) : (s.takeGo p).Sound := by
  unfold State.takeGo
  split
  · rename_i r hb
    exact h.nextBulk (fun _ => rfl) (by rw [hb]; rfl) (by rw [hb]; rfl) nofun
  · exact h
  · exact h
  · exact h
  · exact h.counting _ _

/-- A change of one port beside its timer and its context. -/
theorem modPort_quiet (p : Port) {f : PortState → PortState} (hl : ∀ x, (f x).lease = x.lease) (hb : ∀ x, (f x).bulk = x.bulk) :
    (s.modPort p f).Sound := h.of_eq (State.rights_modPort_quiet s p hl hb) (by simp) (by simp)

theorem framingFault (p : Port) : (s.framingFault p).Sound := (h.counting p _).modPort_quiet p (fun _ => rfl) (fun _ => rfl)

theorem cut (taken : List Byte) : (s.cut taken).Sound := by
  have hcut : (s.modPort .A (fun x => { x with rx := .hunt, outPos := 0 })).Sound := h.modPort_quiet .A (fun _ => rfl) (fun _ => rfl)
  unfold State.cut
  dsimp only
  split
  · exact h
  · split
    · exact hcut
    · exact hcut.counting _ _

theorem setBreak (b : Bool) : State.Sound { s with breakLow := b } :=
  h.of_eq (State.rights_congr rfl rfl rfl rfl rfl rfl (fun p => by cases p <;> rfl) (fun p => by cases p <;> rfl)) rfl rfl

theorem takeBreak : s.takeBreak.Sound := State.Sound.linkReset ((h.setBreak true).counting _ _) _ _

theorem messageSent (p : Port) : (s.messageSent p).Sound := by
  unfold State.messageSent
  split
  · split
    · exact h
    · exact h.modPort_quiet p (fun _ => rfl) (fun _ => rfl)
  · exact h

/-! ### What the part does of itself at a port -/

theorem placeData {p : Port} {r : ReadCtx} (hb : (s.port p).bulk = .reading r) : (s.placeData p r).Sound := by
  have hplaced := h.nextBulk (p := p) (f := fun x => { x.placeBulk (.data r.next s.store.durable (s.blockItems r)) with
    bulk := .reading (r.advance s.store.durable) }) (fun _ => rfl) (by rw [hb]; rfl) (by rw [hb]; rfl) nofun
  unfold State.placeData
  dsimp only
  split
  · exact hplaced
  · exact hplaced.closeBulk p _

theorem placeCredit {p : Port} {w : WriteCtx} (hb : (s.port p).bulk = .writing w) : (s.placeCredit p w).Sound := by
  refine h.nextBulk (fun _ => rfl) (by rw [hb]; rfl) (by rw [hb]; rfl) fun w' hw' => ?_
  cases hw'
  have hcredits := h.rights.credits p w hb
  dsimp only
  omega

theorem placeDone (p : Port) (d : DoneRec) : (s.placeDone p d).Sound :=
  h.modPort (State.rights_modPort_bulk s p (f := fun x => { x.placeBulk (.bulkDone d) with bulk := .idle }) (fun _ => rfl) ▸
    h.rights.endBulk p rfl)

theorem sendNotices (p : Port) : (s.modPort p PortState.sendNotices).Sound := by
  refine h.modPort_quiet p (fun x => ?_) (fun x => ?_) <;>
    · unfold PortState.sendNotices PortState.drained
      split <;> rfl

omit h in
/-- At the expiry of the owner's lease its transfer lets go of the staged values (R74, R146). -/
theorem endBulkAtExpiry_unlocks (s : State) (p : Port) : ((s.endBulkAtExpiry p).port p).bulk.locks = false := by
  have hclosed (d : DoneRec) : ((s.closeBulk p d).port p).bulk.locks = false := by
    rw [State.closeBulk, State.port_modPort_self]; rfl
  unfold State.endBulkAtExpiry
  split
  · rename_i r hb
    split
    · exact hclosed _
    · rename_i hview
      rw [hb]
      exact beq_eq_false_iff_ne.mpr hview
  · rename_i r hb
    split
    · exact hclosed _
    · rename_i hview
      rw [hb]
      exact beq_eq_false_iff_ne.mpr hview
  · exact hclosed _
  · rename_i hb
    rw [hb]; rfl
  · rename_i hb
    rw [hb]; rfl

omit h in
theorem endBulkAtExpiry_same (s : State) (p : Port) :
    (s.endBulkAtExpiry p).commit = s.commit ∧ (s.endBulkAtExpiry p).stack = s.stack := by
  unfold State.endBulkAtExpiry
  split
  · split <;> simp
  · split <;> simp
  · simp
  · simp
  · simp

theorem expire {p : Port} (hrun : (s.port p).lease.isRunning = true) : (s.expire p).Sound := by
  obtain ⟨howner, hcommit⟩ := h.rights.lease p hrun
  have hended := (h.stopLease p).endBulkAtExpiry p
  obtain ⟨hc, hk⟩ := endBulkAtExpiry_same (s.stopLease p) p
  have hnone : ((s.stopLease p).endBulkAtExpiry p).commit = none := by rw [hc, State.stopLease_commit]; exact hcommit
  have hown : ((s.stopLease p).endBulkAtExpiry p).stack.owner = some p := by rw [hk, State.stopLease_stack]; exact howner
  have hlocks (r : Port) : (((s.stopLease p).endBulkAtExpiry p).port r).bulk.locks = false := by
    by_cases hr : r = p
    · exact hr ▸ endBulkAtExpiry_unlocks _ _
    · exact hended.rights.locks_false_of_ne hown hr
  exact ((hended.rollbackAll hnone hlocks).noticeTo _ _).noticeBoth _

/-! ### Start-up and supply -/

/-- Before READY nothing is owned (R51). -/
theorem unused_early (hr : s.ready = false) : s.rights.Unused := by
  have howner : s.rights.owner = none := by
    by_contra ho
    exact absurd (hr.symm.trans (h.rights.owner ho).2) nofun
  exact ⟨howner, h.rights.depth_zero.mpr howner, h.rights.commit_none_of_owner howner, h.rights.runs_false_of_owner howner,
    h.rights.early hr⟩

/-- Start-up's work on catalog and store, the ring's table kept or read anew. -/
theorem starts {t : State} (hr : s.ready = false) (hk : t.stack = s.stack) (hc : t.commit = s.commit)
    (hl : ∀ p, (t.port p).lease = (s.port p).lease) (hb : ∀ p, (t.port p).bulk = (s.port p).bulk) (hn : t.nv = s.nv)
    (ho : t.store.operation = s.store.operation) (ht : t.store.tasks = s.store.tasks) (ha : t.store.arrayOp = s.store.arrayOp)
    (htab : ∀ k ∈ t.store.table.map (fun x => x.sector), 4 ≤ k) : t.Sound := by
  obtain ⟨hidle, hquiet⟩ := h.store.quiet hr
  have htasks := h.store.tasks (hidle ▸ Operation.onRing_idle)
  refine State.Sound.of_unused (h.unused_early hr) hk hc hl hb ⟨?_, ?_, fun _ => ht.trans htasks, ?_, htab,
    fun _ => ⟨ho.trans hidle, ha.trans hquiet⟩⟩ (hn ▸ h.ring)
  · rw [ho, hidle]; exact nofun
  · rw [ho, hidle]; exact nofun
  · rw [ha, hquiet]; trivial

theorem leaveHeld (hr : s.ready = false) (vdd : Nat) : (s.leaveHeld vdd).Sound :=
  h.starts hr rfl rfl (fun p => by cases p <;> rfl) (fun p => by cases p <;> rfl) rfl rfl rfl rfl h.store.table

theorem scanned (hr : s.ready = false) : s.scanned.Sound := by
  unfold State.scanned
  split
  · exact h.starts hr rfl rfl (fun p => by cases p <;> rfl) (fun p => by cases p <;> rfl) rfl rfl rfl rfl h.store.table
  · exact h.starts hr rfl rfl (fun p => by cases p <;> rfl) (fun p => by cases p <;> rfl) rfl rfl rfl rfl h.store.table

theorem replayed (hr : s.ready = false) : s.replayed.Sound := by
  unfold State.replayed
  split
  · exact h.starts hr rfl rfl (fun p => by cases p <;> rfl) (fun p => by cases p <;> rfl) rfl rfl rfl rfl h.store.table
  · exact h.starts hr rfl rfl (fun p => by cases p <;> rfl) (fun p => by cases p <;> rfl) rfl rfl rfl rfl h.store.table

omit h in
theorem cleanRec_sector (nv : NonVol) (r : ReplayResult) (x : RingSector) : (nv.cleanRec r x).sector = x.sector := by
  unfold NonVol.cleanRec
  dsimp only
  split
  all_goals first | rfl | skip
  split <;> rfl

omit h in
theorem emptyRec_sector (nv : NonVol) (x : RingSector) : (nv.emptyRec x).sector = x.sector := by
  unfold NonVol.emptyRec
  dsimp only
  split <;> rfl

omit h in
theorem cleanedStore_same (s : State) (r : ReplayResult) : (s.cleanedStore r).operation = s.store.operation ∧
    (s.cleanedStore r).tasks = s.store.tasks ∧ (s.cleanedStore r).arrayOp = s.store.arrayOp ∧
    (s.cleanedStore r).table.map (fun x => x.sector) = s.nv.ring.map (fun x => x.sector) := by
  unfold State.cleanedStore
  split
  · refine ⟨rfl, rfl, rfl, ?_⟩
    simp only [Store.cleaned, List.map_map]
    exact List.map_congr_left fun x _ => cleanRec_sector s.nv r x
  · refine ⟨rfl, rfl, rfl, ?_⟩
    simp only [Store.emptied, List.map_map]
    exact List.map_congr_left fun x _ => emptyRec_sector s.nv x

theorem cleanedUp (hr : s.ready = false) : s.cleanedUp.Sound := by
  obtain ⟨ho, ht, ha, htab⟩ := cleanedStore_same s (s.ctl.replay.getD .nothing)
  refine State.Sound.choose (h.starts hr rfl rfl (fun p => by cases p <;> rfl) (fun p => by cases p <;> rfl) rfl ho ht ha ?_)
  intro k hk
  exact h.ring k (htab ▸ hk)

theorem setSupply (x : Supply) : (s.setSupply x).Sound :=
  h.of_eq (State.rights_congr rfl rfl rfl rfl rfl rfl (fun p => by cases p <;> rfl) (fun p => by cases p <;> rfl)) rfl rfl

theorem warn : s.warn.Sound := by
  unfold State.warn
  dsimp only
  split
  · exact ((h.setSupply .warn).storeWarned ‹_›).noticeBoth _
  · exact h.setSupply .warn

theorem recover : s.recover.Sound := by
  unfold State.recover
  dsimp only
  split
  · exact ((h.setSupply .normal).storeRestored ‹_›).noticeBoth _
  · exact h.setSupply .normal

end State.Sound

/-! ### Every command -/

theorem State.not_ready_of {s : State} {c : StartState} (h : s.ctl.start = c) (hc : c ≠ .ready) : s.ready = false := by
  rw [← Bool.not_eq_true, State.ready_iff, h]
  exact hc

/-- Every command keeps a sound state sound. -/
theorem exec_sound (c : Instr) {s t : State} (h : s.Sound) (hexec : exec c s = .next t) : t.Sound := by
  cases c with
  | describe p q b => cases hexec; exact h.request fun _ t ht _ => ht.reply _ _ _ _
  | status p q b run => cases hexec; exact h.request fun _ t ht _ => ht.reply _ _ _ _
  | linkReset p q b => cases hexec; exact h.request fun _ t ht _ => ht.linkReset _ _
  | restart p q b ok => cases hexec; exact h.request fun _ t ht _ => ht.resetTo (t.arraySettled_sectors ok) _
  | define p q b => cases hexec; exact h.request fun r t ht _ => ht.ownDefine p q r
  | setup p q b => cases hexec; exact h.request fun r t ht _ => ht.ownSetup p q r
  | wipe p q b =>
    cases hexec
    refine h.request fun _ t ht hr => ?_
    split
    · exact ht.acceptWipe hr q ‹_›
    · exact ht.refuse _ _ _ _ _
  | beginFrame p q b => cases hexec; exact h.request fun label t ht hr => ht.ownChecks fun hpass => ht.acceptBegin hr q label hpass
  | set p q b => cases hexec; exact h.request fun r t ht _ => ht.ownSet p q r
  | get p q b => cases hexec; exact h.request fun id t ht _ => ht.ownGet p q id
  | rollback p q b => cases hexec; exact h.request fun label t ht _ => ht.ownChecks fun hpass => ht.acceptRollback q label hpass
  | merge p q b => cases hexec; exact h.request fun label t ht _ => ht.ownChecks fun hpass => ht.acceptMerge q label hpass
  | abandon p q b => cases hexec; exact h.request fun _ t ht _ => ht.ownChecks fun hpass => ht.acceptAbandon q hpass
  | commit p q b run =>
    cases hexec
    refine h.request fun _ t ht _ => ?_
    split
    · exact ht.refuse _ _ _ _ _
    · exact ht.acceptCommit q run ‹_›
  | bulkRead p q b => cases hexec; exact h.request fun r t ht hr => ht.ownChecks fun hpass => ht.acceptBulkRead hr q r hpass
  | bulkWrite p q b => cases hexec; exact h.request fun n t ht hr => ht.ownChecks fun hpass => ht.acceptBulkWrite hr q n hpass
  | bulkAbort p q b => cases hexec; exact h.request fun _ t ht _ => ht.ownBulkAbort p q
  | watch p q b => cases hexec; exact h.request fun rs t ht _ => ht.ownWatch p q rs
  | unwatch p q b => cases hexec; exact h.request fun _ t ht _ => ht.ownUnwatch p q
  | unknownKind p q k b => cases hexec; exact h.takeRequest fun t ht => ht.answer _ _ _ _
  | block p b => cases hexec; exact h.streamMessage fun t ht => ht.takeBlock p b
  | hold p => cases hexec; exact h.streamMessage fun t ht => ht.takeHold p
  | go p => cases hexec; exact h.streamMessage fun t ht => ht.takeGo p
  | checkError p => cases hexec; split; exacts [h.counting _ _, h]
  | framingError f => cases hexec; split; exacts [h.framingFault _, h]
  | cutMessage taken => cases hexec; split; exacts [h.cut taken, h]
  | breakStart => cases hexec; split; exacts [h.takeBreak, h]
  | breakEnd => cases hexec; exact h.setBreak false
  | messageSentA => cases hexec; exact h.messageSent .A
  | messageSentB => cases hexec; exact h.messageSent .B
  | data p =>
    cases hexec
    split
    · split; exacts [h.placeData ‹_›, h]
    all_goals exact h
  | credit p =>
    cases hexec
    split
    · split; exacts [h.placeCredit ‹_›, h]
    all_goals exact h
  | bulkDone p =>
    cases hexec
    split
    · split; exacts [h.placeDone _ _, h]
    all_goals exact h
  | notice p => cases hexec; split; exacts [h.sendNotices p, h]
  | blockProcessing p =>
    cases hexec
    split
    · split
      · exact h
      · exact h.processBlock ‹_› ‹_›
    all_goals exact h
  | leaseExpiry p =>
    cases hexec
    split
    · rename_i hexpires
      rw [Bool.and_eq_true] at hexpires
      exact h.expire hexpires.2
    · exact h
  | warnCrossing => cases hexec; split; exacts [h.warn, h]
  | normalCrossing => cases hexec; split; exacts [h.recover, h]
  | cutoff => cases hexec; exact h.resetTo s.arrayCut_sectors _
  | pinReset => cases hexec; exact h.resetTo s.arrayCut_sectors _
  | powerOnReset => cases hexec; exact h.resetTo s.arrayCut_sectors _
  | heldExit vdd =>
    cases hexec
    split
    · rename_i hheld
      exact h.leaveHeld (State.not_ready_of hheld.1 nofun) vdd
    · exact h
  | scanEnd => cases hexec; split; exacts [h.scanned (State.not_ready_of (c := .scanning) ‹_› nofun), h]
  | replayEnd => cases hexec; split; exacts [h.replayed (State.not_ready_of (c := .replaying) ‹_› nofun), h]
  | cleanupEnd => cases hexec; split; exacts [h.cleanedUp (State.not_ready_of (c := .cleanup) ‹_› nofun), h]
  | slotProgramDone ok mapOk => cases hexec; exact h.programEnds ok mapOk
  | sectorEraseDone r mapOk => cases hexec; exact h.eraseEnds r mapOk
  | _ =>
    -- SEAL, whose constructor's name is a keyword of Lean
    rename_i p q b
    cases hexec
    refine h.request fun _ t ht hr => ?_
    split
    · exact ht.refuse _ _ _ _ _
    · exact ht.acceptSeal hr q ‹_›

/-- The queue of waiting commands is no part of what a sound state says. -/
theorem State.Sound.setPending {s : State} (h : s.Sound) (cs : List Instr) : State.Sound { s with pending := cs } :=
  h.of_eq (State.rights_congr rfl rfl rfl rfl rfl rfl (fun p => by cases p <;> rfl) (fun p => by cases p <;> rfl)) rfl rfl

/-- Settles O28: the rights and the store agree after every command, and what they say with a bounded stack is coherence. -/
theorem ownershipStaysCoherent : Obligations.OwnershipStaysCoherent := by
  intro s t hbounded hcoherent hstep
  have hsound := (State.sound_iff hbounded).mp hcoherent
  have hbounded' : t.StackBounded := depthAndOwnerStayBound s t hbounded hstep
  refine (State.sound_iff hbounded').mpr ?_
  obtain ⟨-, rfl⟩ | ⟨c, rest, -, hexec⟩ := step_cases hstep
  · exact hsound
  · exact exec_sound c (hsound.setPending rest) hexec

end Sys2Proof.Machine
end

section
/-! SUPPORT. A property that each single change of a command keeps is kept by every command: the changes are listed once, with what is
known where they are made, and each property of steps is then a matter of that list. -/

namespace Sys2Proof.Machine

set_option Elab.async false

open Sys2Proof

/-! ### The single changes -/

/-- A change of the store that starts no append, unless no image is owed (R118). -/
def Store.OwesNoAppend (st st' : Store) : Prop :=
  st'.operation ≠ .appending ∨ st'.imageOwed = false ∨ st'.operation = st.operation ∧ st'.imageOwed = st.imageOwed

/-- The property is kept by each change that the store makes at its work (R61 to R66, R88 to R104). `σ` says whether it is kept only
where rights and store agree (`State.Sound`). -/
structure KeptByWork (σ : Prop) (P : State → Prop) : Prop where
  beside : ∀ {s t : State}, P s → t.store = s.store → t.stack = s.stack → t.catalog.entries = s.catalog.entries →
    t.catalog.state = s.catalog.state → t.ctl.start = s.ctl.start → t.commit = s.commit → P t
  commitEnds : ∀ {s : State}, P s → P { s with commit := none }
  store : ∀ {s : State} {f : Store → Store}, P s → (f s.store).durable = s.store.durable → s.store.OwesNoAppend (f s.store) →
    P (s.modStore f)
  durable : ∀ {s : State} {c : InFlight}, P s → (σ → s.Sound) → s.commit = some c → P (s.changesTold c).releaseAtZero
  catalogEnds : ∀ {s t : State}, P s → (σ → s.Sound) → (σ → s.catalog.state = .sealing ∨ s.catalog.state = .wiping) →
    t.store.durable = 0 → t.store.operation = .idle → t.stack = s.stack → t.commit = s.commit → t.ctl.start = s.ctl.start →
    t.catalog.entries = s.catalog.entries ∨ t.catalog.entries = atDefaults s.catalog.entries → P t

/-- The property `P` is kept by each change that requests and events make beside the store's work; an accepted SEAL or WIPE, after which
nothing follows in its event, gives `Q`. -/
structure KeptByCommands (σ : Prop) (P Q : State → Prop) : Prop extends KeptByWork σ P where
  done : ∀ {s : State}, P s → Q s
  suppress : ∀ {s : State} (p : Port), P s → P (s.suppressReply p)
  push : ∀ {s : State} (p : Port) (label : Option (List Byte)), P s → (σ → s.commit = none) → P (s.pushFrame p label)
  stage : ∀ {s : State} (i : Nat) (v : Value), P s → (σ → s.commit = none) → (σ → s.stack.frames ≠ []) → P (s.stage i v)
  merge : ∀ {s : State}, P s → (σ → s.commit = none) → P s.mergeTop
  pop : ∀ {s : State}, P s → (σ → s.commit = none) → P s.rollbackFrame
  popAll : ∀ {s : State}, P s → (σ → s.commit = none) → P (State.rollbackMany s.depth s).dropOwner
  commits : ∀ {s : State} (p : Port) (q : Byte) (run : Bool), P s → s.commit = none → Q (s.acceptCommit p q run)
  define : ∀ {s : State} (d : Definition), P s → (σ → s.stack.frames = []) → (σ → s.commit = none) →
    s.catalog.state.takesDefinitions = true → P (s.addDefinition d)
  seals : ∀ {s t : State}, P s → t.store.durable = s.store.durable → s.store.OwesNoAppend t.store → t.stack = s.stack →
    t.commit = s.commit → t.ctl.start = s.ctl.start → t.catalog.entries = s.catalog.entries → Q t
  wipes : ∀ {s t : State}, P s → (σ → s.stack.frames = []) → (σ → s.commit = none) → t.store.durable = s.store.durable →
    s.store.OwesNoAppend t.store → t.stack = s.stack → t.commit = s.commit → t.ctl.start = s.ctl.start →
    t.catalog.entries = [] → Q t
  reset : ∀ {s : State} (nv : NonVol) (cause : Option ResetCause), P s → P (s.resetTo nv cause)

/-! ### The store's work -/

namespace KeptByWork

variable {σ : Prop} {P : State → Prop} (hP : KeptByWork σ P) {s : State}
include hP

/-- A change of the store that leaves its operation and the image owed. -/
theorem same (h : P s) {f : Store → Store} (hd : (f s.store).durable = s.store.durable)
    (ho : (f s.store).operation = s.store.operation) (hi : (f s.store).imageOwed = s.store.imageOwed) : P (s.modStore f) :=
  hP.store h hd (.inr (.inr ⟨ho, hi⟩))

/-- A change of the store that appends nothing. -/
theorem work (h : P s) {f : Store → Store} (hd : (f s.store).durable = s.store.durable) (ho : (f s.store).operation ≠ .appending) :
    P (s.modStore f) := hP.store h hd (.inl ho)

theorem port (h : P s) (p : Port) (f : PortState → PortState) : P (s.modPort p f) :=
  hP.beside h (by simp) (by simp) (by simp) (by simp) (by simp) (by simp)

theorem array (h : P s) (nv : NonVol) (d : Nat) : P { s with nv := nv, draws := d } := hP.beside h rfl rfl rfl rfl rfl rfl

theorem openSector (h : P s) (g : GroupWrite) (k : Nat) : P (s.openSector g k) := by
  unfold State.openSector
  exact hP.same h rfl rfl rfl

theorem programNext (h : P s) : P s.programNext := by
  unfold State.programNext
  split
  · exact h
  · split
    · exact h
    · split
      · exact hP.same h rfl rfl rfl
      · split
        · exact hP.openSector h _ _
        · exact h

/-- An append starts only where no image is owed (R118). -/
theorem startAppend (h : P s) (a : PendingAppend) (hmay : s.store.appendMayStart a = true) : P (s.startAppend a) := by
  have howed : s.store.imageOwed = false := by
    rw [Store.appendMayStart, Bool.and_eq_true, Bool.not_eq_true'] at hmay
    exact hmay.1
  exact hP.programNext (hP.store h (by simp) (.inr (.inl (by simpa using howed))))

theorem requestRoom (h : P s) : P s.requestRoom := by
  unfold State.requestRoom
  split
  · exact h
  · split
    · exact hP.same h rfl rfl rfl
    · exact h

theorem roomAsked (h : P s) : P s.roomAsked := by
  unfold State.roomAsked
  split
  · exact hP.requestRoom h
  · exact h

theorem compactionTest (h : P s) : P s.compactionTest := by
  unfold State.compactionTest
  split
  · exact hP.same h rfl rfl rfl
  · exact h

theorem startCompaction (h : P s) (a : Attempt) : P (s.startCompaction a) :=
  hP.programNext (hP.work h (by dsimp only; split <;> rfl) nofun)

theorem startErase (h : P s) (k : Nat) : P (s.startErase k) := hP.work h rfl (by exact nofun)

theorem commitFails (h : P s) (c : RefuseCode) : P (s.commitFails c) := by
  unfold State.commitFails
  split
  · exact h
  · have hstart := hP.port (hP.commitEnds h)
    dsimp only
    split
    · exact hstart _ _
    · exact hP.port (hstart _ _) _ _

theorem cancelAppend (h : P s) (c : RefuseCode) : P (s.cancelAppend c) := by
  unfold State.cancelAppend
  split
  · exact h
  · exact hP.commitFails (hP.same h rfl rfl rfl) c

theorem dropRequest (h : P s) : P (s.modStore Store.dropRequest) := hP.same h rfl rfl rfl

theorem noticeBoth (h : P s) (n : Notice) : P (s.noticeBoth n) :=
  hP.port (s := s.noticeTo .A n) (hP.port h .A _) .B (fun x => x.takeNotice n)

theorem enterReadOnly (h : P s) : P s.enterReadOnly := by
  have hdrop := hP.dropRequest (hP.noticeBoth (hP.same (f := fun st => { st with mode := .readOnly }) h rfl rfl rfl)
    (.storeReadOnly (s.store.count .retired)))
  unfold State.enterReadOnly
  dsimp only
  split
  · exact hdrop
  · exact hP.cancelAppend hdrop _

theorem readOnlyTest (h : P s) : P s.readOnlyTest := by
  unfold State.readOnlyTest
  split
  · exact hP.enterReadOnly h
  · exact h

theorem reclaim (h : P s) : P s.reclaim := by
  unfold State.reclaim
  split
  · split
    · exact hP.enterReadOnly (hP.same h rfl rfl rfl)
    · exact h
  · exact h
  · exact h

theorem chooseErase (h : P s) : P s.chooseErase := by
  unfold State.chooseErase
  split
  · split
    · exact hP.startErase h _
    · exact hP.reclaim h
  · exact hP.reclaim h

theorem chooseWork (h : P s) : P s.chooseWork := by
  unfold State.chooseWork
  split
  · split
    · exact hP.startCompaction h _
    · exact hP.chooseErase h
  · exact hP.chooseErase h
  · exact hP.chooseErase h

theorem chooseStart (h : P s) : P s.chooseStart := by
  unfold State.chooseStart
  split
  · exact hP.chooseWork h
  · split
    · rename_i hstart
      obtain ⟨hadm, -⟩ := hstart
      rw [State.admissible, Bool.and_eq_true] at hadm
      exact hP.startAppend h _ hadm.2
    · exact hP.chooseWork h

theorem choose (h : P s) : P s.choose := by
  rw [State.choose_eq]
  split
  · exact hP.chooseStart (hP.roomAsked h)
  · exact h

/-! ### SEAL and WIPE -/

theorem sealFails (h : P s) (hs : σ → s.Sound) (hstate : σ → s.catalog.state = .sealing ∨ s.catalog.state = .wiping) :
    P s.sealFails := by
  unfold State.sealFails
  dsimp only
  split
  · refine hP.port (hP.catalogEnds h hs hstate ?_ ?_ ?_ ?_ ?_ ?_) _ _
    exacts [rfl, rfl, rfl, rfl, rfl, .inl rfl]
  · exact hP.catalogEnds h hs hstate rfl rfl rfl rfl rfl (.inl rfl)

theorem sealCompletes (h : P s) (hs : σ → s.Sound) (hstate : σ → s.catalog.state = .sealing ∨ s.catalog.state = .wiping) :
    P s.sealCompletes := by
  unfold State.sealCompletes
  refine hP.choose (hP.readOnlyTest ?_)
  split
  · refine hP.port (hP.catalogEnds h hs hstate ?_ ?_ ?_ ?_ ?_ ?_) _ _
    exacts [rfl, rfl, rfl, rfl, rfl, .inr rfl]
  · exact hP.catalogEnds h hs hstate rfl rfl rfl rfl rfl (.inr rfl)

theorem beginInitialImage (h : P s) (hs : σ → s.Sound) (hstate : σ → s.catalog.state = .sealing ∨ s.catalog.state = .wiping)
    (a : Attempt) : P (s.beginInitialImage a) := by
  unfold State.beginInitialImage
  split
  · exact hP.programNext (hP.same h rfl rfl rfl)
  · exact hP.sealFails h hs hstate

theorem wipeCompletes (h : P s) (hs : σ → s.Sound) (hstate : σ → s.catalog.state = .sealing ∨ s.catalog.state = .wiping) :
    P s.wipeCompletes := by
  unfold State.wipeCompletes
  dsimp only
  split
  · split
    · refine hP.port (hP.catalogEnds h hs hstate ?_ ?_ ?_ ?_ ?_ ?_) _ _
      exacts [rfl, rfl, rfl, rfl, rfl, .inl rfl]
    · refine hP.port (hP.catalogEnds h hs hstate ?_ ?_ ?_ ?_ ?_ ?_) _ _
      exacts [rfl, rfl, rfl, rfl, rfl, .inl rfl]
  · exact hP.catalogEnds h hs hstate rfl rfl rfl rfl rfl (.inl rfl)

omit hP in
/-- Steps of SEAL and WIPE are there in SEALING and WIPING only. -/
theorem tasks_state (hs : s.Sound) {t : Task} {ts : List Task} (ht : s.store.tasks = t :: ts) :
    s.catalog.state = .sealing ∨ s.catalog.state = .wiping := by
  rcases hs.store.hasTasks (by rw [ht]; exact List.cons_ne_nil _ _) with ⟨-, hst⟩ | ⟨-, hst⟩
  · exact .inl hst
  · exact .inr hst

theorem runTasks (h : P s) (hs : σ → s.Sound) : P s.runTasks := by
  unfold State.runTasks
  split
  · exact h
  · exact hP.same h rfl rfl rfl
  · exact hP.same h rfl rfl rfl
  · split
    · exact h
    · exact hP.same h rfl rfl rfl
  · rename_i ts ht
    have herased := hP.store (f := Store.ringErased) h rfl (.inr (.inl rfl))
    have hsound (i : σ) : (s.modStore Store.ringErased).Sound :=
      (hs i).modStore_same rfl rfl rfl (.inl rfl) s.store.ringErased_sectors
    have hstate (i : σ) := tasks_state (hs i) ht
    split
    · exact h
    · dsimp only
      split
      · exact hP.same herased rfl rfl rfl
      · exact hP.sealFails herased hsound hstate
  · rename_i a ts ht
    split
    · exact h
    · exact hP.beginInitialImage h hs (fun i => tasks_state (hs i) ht) a
  · split
    · exact h
    · exact hP.same h rfl rfl rfl

/-- A change of the store alone that appends nothing. -/
theorem storeDiffers {t : State} (h : P s) (hd : s.StoreDiffers t) (ho : t.store.operation ≠ .appending) : P t :=
  hP.beside (hP.work (f := fun _ => t.store) h hd.durable ho) rfl hd.stack (congrArg Catalog.entries hd.catalog)
    (congrArg Catalog.state hd.catalog) (congrArg Controller.start hd.ctl) hd.commit

theorem operationEnded (h : P s) : P s.operationEnded := by
  unfold State.operationEnded
  split
  · obtain ⟨hd, ho⟩ := s.startWipeErase_frame
    exact hP.storeDiffers h hd (by rw [ho]; exact nofun)
  · exact hP.choose h

/-! ### Ends of programs and erases -/

theorem durabilityPoint (h : P s) (hs : σ → s.Sound) : P s.durabilityPoint := by
  cases hc : s.commit with
  | none => rw [State.durabilityPoint, hc]; exact h
  | some c =>
    rw [State.durabilityPoint_eq hc]
    split
    · exact hP.durable h hs hc
    · exact hP.port (hP.durable h hs hc) _ _

theorem groupClosed (h : P s) (hs : σ → s.Sound) (hr : σ → s.ready = true) (g : GroupWrite) : P (s.groupClosed g) := by
  have hclosed := hP.same (f := fun st => { st with writing := none, arrayOp := .none, restartNote := false }) h rfl rfl rfl
  have hsound (i : σ) : (s.modStore (fun st => { st with writing := none, arrayOp := .none, restartNote := false })).Sound :=
    (hs i).modStore_same rfl rfl rfl (.inr ⟨ArrayOp.free_none, .inr rfl⟩) rfl
  unfold State.groupClosed
  dsimp only
  split
  · rename_i ho
    exact hP.operationEnded (hP.compactionTest (hP.durabilityPoint (hP.work hclosed rfl (by exact nofun)) fun i =>
      (hsound i).modStore_work rfl (hr i) (ho ▸ Operation.onRing_appending) Operation.onRing_idle rfl (.inl rfl) rfl))
  · refine hP.operationEnded (hP.work hclosed ?_ nofun)
    dsimp only
    split <;> rfl
  · rename_i ho
    exact hP.sealCompletes hclosed hsound fun i => .inl ((hs i).store.write ho).1
  all_goals exact hclosed

theorem rewriteOrEnd (h : P s) : P s.rewriteOrEnd := by
  unfold State.rewriteOrEnd
  split
  · exact hP.operationEnded h
  · split
    · exact hP.operationEnded (hP.cancelAppend h _)
    · split
      · exact hP.operationEnded (hP.cancelAppend h _)
      · split
        · exact hP.startAppend h _ ‹_›
        · exact hP.operationEnded (hP.requestRoom h)

theorem appendFailed (h : P s) (a : PendingAppend) : P (s.appendFailed a) := by
  have hended (pend : Option PendingAppend) : P (s.modStore (fun st => { st with operation := .idle, pend := pend })) :=
    hP.work h rfl (by exact nofun)
  cases hat : a.attempt with
  | first =>
    rw [s.appendFailed_first hat]
    exact hP.rewriteOrEnd (hP.readOnlyTest (hended _))
  | second =>
    rw [s.appendFailed_second hat]
    exact hP.operationEnded (hP.compactionTest (hP.commitFails (hP.readOnlyTest (hended none)) _))

theorem imageAgain (h : P s) (a : Attempt) : P (s.imageAgain a) := by
  unfold State.imageAgain
  split
  · exact hP.operationEnded h
  · split
    · split
      · exact hP.startCompaction h _
      · exact hP.operationEnded (hP.same h rfl rfl rfl)
    · exact hP.operationEnded (hP.requestRoom h)

theorem imageFailed (h : P s) (a : Attempt) : P (s.imageFailed a) := by
  rw [State.imageFailed_eq]
  exact hP.imageAgain (hP.readOnlyTest (hP.work h rfl (by exact nofun))) a

theorem retire (h : P s) (k : Nat) (mapOk : Bool) : P (s.retire k mapOk) := by
  have hretired := hP.same (f := fun st => st.modRec k (fun x => { x with role := .retired })) h rfl rfl rfl
  unfold State.retire
  dsimp only
  split
  · exact hP.array hretired (s.nv.mapRetired k) s.draws
  · exact hretired

theorem groupAbandoned (h : P s) (k : Nat) (mapOk : Bool) : P (s.groupAbandoned k mapOk) := hP.same (hP.retire h k mapOk) rfl rfl rfl

theorem groupFailed (h : P s) (hs : σ → s.Sound) (g : GroupWrite) (k : Nat) (mapOk : Bool) : P (s.groupFailed g k mapOk) := by
  have hgone := hP.groupAbandoned h k mapOk
  have hsound (i : σ) := (hs i).groupAbandoned k mapOk
  have ho : (s.groupAbandoned k mapOk).store.operation = s.store.operation := by
    rw [State.groupAbandoned, State.modStore_store, State.retire_store]; rfl
  rw [State.groupFailed_eq]
  split
  · split
    · exact hP.appendFailed hgone _
    · exact hP.operationEnded (hP.work hgone rfl (by exact nofun))
  · exact hP.imageFailed hgone _
  · rename_i hop
    rw [hop] at ho
    have hstate (i : σ) : (s.groupAbandoned k mapOk).catalog.state = .sealing ∨
        (s.groupAbandoned k mapOk).catalog.state = .wiping := .inl ((hsound i).store.write ho).1
    split
    · exact hP.beginInitialImage hgone hsound hstate _
    · exact hP.sealFails hgone hsound hstate
  all_goals exact hgone

theorem slotProgrammed (h : P s) (hs : σ → s.Sound) (hr : σ → s.ready = true) (g : GroupWrite) (k : Nat) (c : Slot) :
    P (s.slotProgrammed g k c) := by
  have hdone (i : σ) : State.Sound { s with
      nv := s.nv.appendSlot k c
      store := { s.store.useSlot k with arrayOp := .none, writing := some { g with remaining := g.remaining.tail } } } := by
    have harray := (hs i).setArray (nv := s.nv.appendSlot k c) (s.nv.modRing_sectors k fun _ => rfl) s.draws
    exact harray.modStore_same (f := fun st => { st.useSlot k with
      arrayOp := .none, writing := some { g with remaining := g.remaining.tail } }) rfl rfl rfl
      (.inr ⟨ArrayOp.free_none, .inr rfl⟩) (Store.useSlot_sectors _ _)
  have hkept := hP.same (f := fun st => { st.useSlot k with
    arrayOp := .none, writing := some { g with remaining := g.remaining.tail } }) (hP.array h (s.nv.appendSlot k c) s.draws) rfl rfl rfl
  unfold State.slotProgrammed
  dsimp only
  split
  · exact hP.groupClosed hkept hdone hr g
  · exact hP.programNext hkept

theorem programEnds (h : P s) (hs : σ → s.Sound) (ok mapOk : Bool) : P (s.programEnds ok mapOk) := by
  have hclear {t : State} (ht : P t) : P (t.modStore (fun st => { st with arrayOp := .none })) := hP.same ht rfl rfl rfl
  have hclearSound {t : State} (ht : σ → t.Sound) (i : σ) : (t.modStore (fun st => { st with arrayOp := .none })).Sound :=
    (ht i).modStore_same rfl rfl rfl (.inr ⟨ArrayOp.free_none, .inr rfl⟩) rfl
  unfold State.programEnds
  split
  · exact h
  · exact h
  · rename_i k g flag ha
    split
    · exact h
    · split
      · exact hP.programNext (hclear (hP.array h _ s.draws))
      · exact hP.groupFailed (hP.array h _ s.draws)
          (fun i => (hs i).setArray (nv := s.nv.programHeader k .torn flag) (s.nv.modRing_sectors k fun _ => rfl) s.draws) _ _ _
  · rename_i k c ha
    have hr (i : σ) := (hs i).ready_of_arrayOp (by rw [ha]; exact nofun)
    split
    · exact h
    · split
      · exact hP.slotProgrammed h hs hr _ _ _
      · have harray (i : σ) := (hs i).setArray (nv := s.nv.appendSlot k .damaged) (s.nv.modRing_sectors k fun _ => rfl) s.draws
        exact hP.groupFailed (hP.same (f := fun st => st.useSlot k) (hP.array h (s.nv.appendSlot k .damaged) s.draws) rfl rfl rfl)
          (fun i => (harray i).modStore_same (f := fun st => st.useSlot k) rfl rfl rfl (.inl rfl) (Store.useSlot_sectors _ _)) _ _ _
  · rename_i k ha
    have hfit (i : σ) := ha ▸ (hs i).store.array
    have harray (b : Bool) (d : Nat) (i : σ) := (hs i).setArray (nv := s.headerProgrammed k b) (by simp [State.headerProgrammed]) d
    split
    · exact hP.runTasks (hclear (hP.array h _ s.draws)) (hclearSound (harray true s.draws))
    · exact hP.sealFails (hP.array h _ _) (harray false _) fun i => .inl ((hs i).store.write (hfit i)).1
  · rename_i k c ha
    have hfit (i : σ) := ha ▸ (hs i).store.array
    have harray (x : AreaSlot) (i : σ) := (hs i).setArray (nv := s.nv.appendArea k x) rfl s.draws
    split
    · exact hP.runTasks (hclear (hP.array h _ s.draws)) (hclearSound (harray c))
    · exact hP.sealFails (hP.array h _ s.draws) (harray _) fun i => .inl ((hs i).store.write (hfit i)).1
  · rename_i ha
    have hfit (i : σ) := ha ▸ (hs i).store.array
    have harray (i : σ) := (hs i).setArray (nv := s.mapProgrammed ok) rfl (if ok then s.draws else s.draws + 1)
    exact hP.wipeCompletes (hP.same (hP.array h _ _) rfl rfl rfl)
      (fun i => (harray i).modStore_same rfl rfl rfl (.inr ⟨ArrayOp.free_none, .inr rfl⟩) rfl)
      fun i => .inr ((hs i).store.wipe (hfit i)).1

theorem ringEraseEnds (h : P s) (k : Nat) (r : EraseResult) (mapOk : Bool) : P (s.ringEraseEnds k r mapOk) := by
  unfold State.ringEraseEnds
  split
  · have hfree := hP.same (f := fun st => st.modRec k (fun x =>
      { x with role := .free, generation := none, eraseCount := some (s.store.nextEraseCount k), used := 1 }))
      (hP.array h (s.nv.modRing k (fun x => { x.erased with eraseCount := .val (s.store.nextEraseCount k) })) s.draws) rfl rfl rfl
    dsimp only
    split
    · exact hP.retire hfree k mapOk
    · exact hfree
  · exact hP.retire (hP.array h _ _) k mapOk
  · exact hP.retire (hP.array h _ s.draws) k mapOk

theorem ringErased (h : P s) (k : Nat) (r : EraseResult) (mapOk : Bool) : P (s.ringErased k r mapOk) :=
  hP.same (hP.ringEraseEnds h k r mapOk) rfl rfl rfl

theorem areaErased (h : P s) (hs : σ → s.Sound) (k : Nat) : P (State.areaEraseEnds.erased s k) := by
  refine hP.runTasks (hP.same (hP.array h _ s.draws) rfl rfl rfl) fun i => ((hs i).setArray ?_ s.draws).modStore_same rfl rfl rfl
    (.inr ⟨ArrayOp.free_none, .inr rfl⟩) rfl
  split <;> rfl

theorem areaEraseEnds (h : P s) (hs : σ → s.Sound) (k : Nat) (r : EraseResult) : P (s.areaEraseEnds k r) := by
  unfold State.areaEraseEnds
  split
  · have harray (i : σ) := (hs i).setArray (s.nv.failedErase_sectors k s.draws) (s.draws + 1)
    have hkept := hP.array h (s.nv.failedErase k s.draws) (s.draws + 1)
    dsimp only
    split
    · rename_i ho
      exact hP.sealFails hkept harray fun i => .inl ((hs i).store.write ho).1
    · exact hP.runTasks (hP.same hkept rfl rfl rfl) fun i =>
        (harray i).modStore_same rfl rfl rfl (.inr ⟨ArrayOp.free_none, .inr rfl⟩) rfl
  · exact hP.areaErased h hs k
  · exact hP.areaErased h hs k

theorem ringEraseFollowed (h : P s) (k : Nat) : P (s.ringEraseFollowed k) := by
  unfold State.ringEraseFollowed
  split
  · exact hP.operationEnded (hP.readOnlyTest h)
  · exact hP.operationEnded h

theorem eraseEnds (h : P s) (hs : σ → s.Sound) (r : EraseResult) (mapOk : Bool) : P (s.eraseEnds r mapOk) := by
  by_cases hop : ∃ k, s.store.arrayOp = .erase k
  · obtain ⟨k, hop⟩ := hop
    by_cases hk : k < 4
    · rw [s.eraseEnds_area hop hk]
      exact hP.areaEraseEnds h hs k r
    · rw [s.eraseEnds_ring hop hk]
      split
      · exact hP.ringEraseFollowed (hP.work (hP.ringErased h k r mapOk) rfl (by exact nofun)) k
      · exact hP.runTasks (hP.ringErased h k r mapOk) fun i => (hs i).ringErased k r mapOk
  · rw [s.eraseEnds_other (not_exists.mp hop)]
    exact h

/-! ### The supply -/

theorem abandonImage (h : P s) (g : GroupWrite) : P (s.abandonImage g) := by
  rw [State.abandonImage_eq]
  have hsame : s.inProgressCounted.operation = s.store.operation ∧ s.inProgressCounted.imageOwed = s.store.imageOwed ∧
      s.inProgressCounted.durable = s.store.durable := by
    unfold State.inProgressCounted
    split <;> exact ⟨rfl, rfl, rfl⟩
  obtain ⟨ho, hi, hd⟩ := hsame
  exact hP.same (hP.array h _ _) hd ho hi

theorem storeWarned (h : P s) : P s.storeWarned := by
  unfold State.storeWarned
  split
  · exact hP.dropRequest h
  · exact hP.operationEnded (hP.cancelAppend (hP.work (hP.abandonImage h _) rfl (by exact nofun)) _)
  · exact hP.same (hP.abandonImage h _) rfl rfl rfl
  · exact hP.cancelAppend (hP.dropRequest h) _

theorem storeRestored (h : P s) (hs : σ → s.Sound) : P s.storeRestored := by
  unfold State.storeRestored
  split
  · exact hP.choose (hP.compactionTest h)
  · split
    · exact hP.runTasks h hs
    · exact h
  · split
    · exact hP.runTasks h hs
    · exact h
  all_goals exact hP.compactionTest h

end KeptByWork

end Sys2Proof.Machine
end

section
/-! SUPPORT. The principle for whole commands: a property kept by each single change is kept by every command but the four that end a
start state. -/

namespace Sys2Proof.Machine

set_option Elab.async false

open Sys2Proof

namespace KeptByCommands

variable {σ : Prop} {P Q : State → Prop} (hP : KeptByCommands σ P Q) {s : State}
include hP

/-! ### The common check order -/

theorem counting (h : P s) (p : Port) (f : Counters → Counters) : P (s.counting p f) := hP.port h _ _

theorem takeRequest {p : Port} {q k : Byte} {next : State → State} (h : P s) (hs : σ → s.Sound)
    (hnext : ∀ t : State, P t → (σ → t.Sound) → Q (next t)) : Q (s.takeRequest p q k next) := by
  unfold State.takeRequest
  split
  · have hrestart := hP.port h p (fun x => { x with lease := x.lease.restarted (s.leasePeriod p) })
    have hsound (i : σ) := (hs i).restartLease p
    dsimp only
    split
    · exact hP.done (hP.port hrestart _ _)
    · exact hP.done (hP.port (hP.port hrestart _ _) _ _)
    · exact hP.done (hP.port (hP.port hrestart _ _) _ _)
    · exact hP.done (hP.port hrestart _ _)
    · exact hnext _ (hP.port hrestart _ _) fun i => (hsound i).of_eq (by simp) (by simp) (by simp)
  · exact hP.done h

theorem request {α : Type} {p : Port} {q k : Byte} {fields : Option α} {own : α → State → State} (h : P s) (hs : σ → s.Sound)
    (hown : ∀ a (t : State), P t → (σ → t.Sound) → Q (own a t)) : Q (s.request p q k fields own) := by
  refine hP.takeRequest h hs fun t ht hts => ?_
  unfold State.checkRequest
  split
  · exact hP.done (hP.port ht _ _)
  · split
    · split
      · exact hown _ t ht hts
      · exact hP.done (hP.port ht _ _)
    · exact hP.done (hP.port ht _ _)

theorem ownChecks {p : Port} {q k : Byte} {checks : List (Bool × RefuseCode)} {accept : State → State} (h : P s)
    (haccept : firstFail checks = none → P (accept s)) : Q (s.ownChecks p q k checks accept) := by
  unfold State.ownChecks
  split
  · exact hP.done (hP.port h _ _)
  · exact hP.done (haccept ‹_›)

theorem streamMessage {p : Port} {next : State → State} (h : P s) (hnext : ∀ t : State, P t → P (next t)) :
    Q (s.streamMessage p next) := by
  unfold State.streamMessage
  split
  · exact hP.done (hnext _ (hP.port h _ _))
  · exact hP.done h

theorem reply (h : P s) (p : Port) (q k : Byte) (r : Reply) : P (s.reply p q k r) := hP.port h _ _

theorem refuse (h : P s) (p : Port) (q k : Byte) (c : RefuseCode) (id : Nat) : P (s.refuse p q k c id) := hP.port h _ _

/-! ### Requests -/

theorem acceptBegin (h : P s) {p : Port} (q : Byte) (label : Option (List Byte)) (hpass : firstFail (s.beginChecks p) = none) :
    P (s.acceptBegin p q label) := by
  obtain ⟨-, hpass⟩ := firstFail_cons hpass
  obtain ⟨-, hpass⟩ := firstFail_cons hpass
  obtain ⟨-, hpass⟩ := firstFail_cons hpass
  obtain ⟨hc, -⟩ := firstFail_cons hpass
  exact hP.reply (hP.push p label h fun _ => Option.isNone_iff_eq_none.mp hc) _ _ _ _

omit hP in
/-- Where somebody owns the stack it is not empty (R24). -/
theorem frames_ne_nil (hs : s.Sound) {p : Port} (ho : s.stack.owner = some p) : s.stack.frames ≠ [] := by
  intro hnil
  have hdepth : s.rights.depth = 0 := by rw [State.rights, State.depth, hnil]; rfl
  exact absurd (ho.symm.trans (hs.rights.depth_zero.mp hdepth)) nofun

omit hP in
/-- Where nobody owns the stack it is empty (R24). -/
theorem frames_nil (hs : s.Sound) (ho : s.stack.owner = none) : s.stack.frames = [] :=
  List.length_eq_zero_iff.mp (hs.rights.depth_zero.mpr ho)

theorem ownSet (h : P s) (hs : σ → s.Sound) (p : Port) (q : Byte) (r : SetReq) :
    P (match s.setCheck p r with
      | .error c => s.refuse p q kSet c r.id
      | .ok v => s.acceptSet p q r.id v) := by
  split
  · exact hP.refuse h _ _ _ _ _
  · rename_i v hv
    unfold State.setCheck at hv
    split at hv
    · cases hv
    · rename_i hpass
      obtain ⟨-, hpass⟩ := firstFail_cons hpass
      obtain ⟨ho, hpass⟩ := firstFail_cons hpass
      obtain ⟨hc, -⟩ := firstFail_cons hpass
      exact hP.reply (hP.stage r.id v h (fun _ => Option.isNone_iff_eq_none.mp hc)
        fun i => frames_ne_nil (hs i) ((s.owns_iff_owner p).mp ho)) _ _ _ _

theorem ownGet (h : P s) (p : Port) (q : Byte) (id : Nat) : P (s.ownGet p q id) := by
  unfold State.ownGet
  split
  · split
    · exact hP.reply h _ _ _ _
    · exact hP.refuse h _ _ _ _ _
  · exact hP.refuse h _ _ _ _ _

theorem acceptRollback (h : P s) {p : Port} (q : Byte) (expected : Option (List Byte))
    (hpass : firstFail (s.rollbackChecks p expected) = none) : P (s.acceptRollback p q) := by
  obtain ⟨-, hpass⟩ := firstFail_cons hpass
  obtain ⟨-, hpass⟩ := firstFail_cons hpass
  obtain ⟨-, hpass⟩ := firstFail_cons hpass
  obtain ⟨hc, -⟩ := firstFail_cons hpass
  exact hP.reply (hP.pop h fun _ => Option.isNone_iff_eq_none.mp hc) _ _ _ _

theorem acceptMerge (h : P s) {p : Port} (q : Byte) (expected : Option (List Byte))
    (hpass : firstFail (s.mergeChecks p expected) = none) : P (s.acceptMerge p q) := by
  obtain ⟨-, hpass⟩ := firstFail_cons hpass
  obtain ⟨-, hpass⟩ := firstFail_cons hpass
  obtain ⟨-, hpass⟩ := firstFail_cons hpass
  obtain ⟨hc, -⟩ := firstFail_cons hpass
  exact hP.reply (hP.merge h fun _ => Option.isNone_iff_eq_none.mp hc) _ _ _ _

theorem acceptAbandon (h : P s) {p : Port} (q : Byte) (hpass : firstFail (s.abandonChecks p) = none) : P (s.acceptAbandon p q) := by
  obtain ⟨-, hpass⟩ := firstFail_cons hpass
  obtain ⟨-, hpass⟩ := firstFail_cons hpass
  obtain ⟨-, hpass⟩ := firstFail_cons hpass
  obtain ⟨hc, -⟩ := firstFail_cons hpass
  exact hP.reply (hP.noticeBoth (hP.popAll h fun _ => Option.isNone_iff_eq_none.mp hc) _) _ _ _ _

theorem acceptBulkRead (h : P s) (p : Port) (q : Byte) (r : BulkReadReq) : P (s.acceptBulkRead p q r) := by
  have hopen := hP.reply (hP.port h p (fun x => { x with bulk := .reading (s.readCtx r), lastDone := none })) p q kBulkRead
    (.bulkRead (s.readCtx r).items.length (s.readCtx r).blocks)
  unfold State.acceptBulkRead
  dsimp only
  split
  · exact hP.port hopen _ _
  · exact hopen

theorem acceptBulkWrite (h : P s) {p : Port} (q : Byte) (count : Nat) (hpass : firstFail (s.bulkWriteChecks p count) = none) :
    P (s.acceptBulkWrite p q count) := by
  obtain ⟨-, hpass⟩ := firstFail_cons hpass
  obtain ⟨-, hpass⟩ := firstFail_cons hpass
  obtain ⟨-, hpass⟩ := firstFail_cons hpass
  obtain ⟨-, hpass⟩ := firstFail_cons hpass
  obtain ⟨-, hpass⟩ := firstFail_cons hpass
  obtain ⟨hc, -⟩ := firstFail_cons hpass
  exact hP.reply (hP.port (hP.push p none h fun _ => Option.isNone_iff_eq_none.mp hc) p
    (fun x => { x with bulk := .writing (writeCtx count), lastDone := none })) _ _ _ _

theorem closeBulk (h : P s) (p : Port) (d : DoneRec) : P (s.closeBulk p d) := hP.port h _ _

theorem endBulk (h : P s) (hs : σ → s.Sound) (p : Port) (e : BulkEnd) : P (s.endBulk p e) := by
  unfold State.endBulk
  split
  · exact hP.closeBulk h _ _
  · exact hP.closeBulk h _ _
  · exact hP.closeBulk (hP.pop h fun i => (hs i).commit_none_of_writing ‹_›) _ _
  · exact h
  · exact h

theorem endBulkAtExpiry (h : P s) (p : Port) : P (s.endBulkAtExpiry p) := by
  unfold State.endBulkAtExpiry
  split
  · split
    · exact hP.closeBulk h _ _
    · exact h
  · split
    · exact hP.closeBulk h _ _
    · exact h
  · exact hP.closeBulk h _ _
  · exact h
  · exact h

theorem ownBulkAbort (h : P s) (hs : σ → s.Sound) (p : Port) (q : Byte) : P (s.ownBulkAbort p q) := by
  unfold State.ownBulkAbort
  split
  · split
    · exact hP.reply (hP.endBulk h hs p _) _ _ _ _
    · exact hP.refuse h _ _ _ _ _
  · exact hP.refuse h _ _ _ _ _

theorem ownDefine (h : P s) (hs : σ → s.Sound) (p : Port) (q : Byte) (r : DefineReq) : P (s.ownDefine p q r) := by
  unfold State.ownDefine
  split
  · exact hP.refuse h _ _ _ _ _
  · rename_i d hd
    have htakes : s.catalog.state.takesDefinitions = true := by
      by_contra hno
      rw [State.defineCheck_wrongState (Bool.eq_false_iff.mpr hno)] at hd
      cases hd
    have hunused (i : σ) := (hs i).rights.unused (show s.catalog.state ≠ .sealed from fun hst => by rw [hst] at htakes; cases htakes)
    exact hP.reply (hP.define d h (fun i => frames_nil (hs i) (hunused i).owner) (fun i => (hunused i).commit) htakes) _ _ _ _

theorem ownSetup (h : P s) (p : Port) (q : Byte) (r : SetupReq) : P (s.ownSetup p q r) := by
  have hset (u : Setup) : P { s with catalog := { s.catalog with setup := u } } := hP.beside h rfl rfl rfl rfl rfl rfl
  unfold State.ownSetup
  split
  · split
    · exact hP.reply (hset _) _ _ _ _
    · exact hP.refuse h _ _ _ _ _
  · exact hP.refuse h _ _ _ _ _

omit hP in
/-- The first step of the catalog write is an erase, so an accepted SEAL changes the store and the catalog state alone (R18, R102). -/
theorem acceptSeal_frame (s : State) (q : Byte) : (s.acceptSeal q).stack = s.stack ∧ (s.acceptSeal q).commit = s.commit ∧
    (s.acceptSeal q).ctl = s.ctl ∧ (s.acceptSeal q).catalog.entries = s.catalog.entries ∧
    (s.acceptSeal q).store.durable = s.store.durable ∧ (s.acceptSeal q).store.operation = .catalogWrite := by
  obtain ⟨hd, ho⟩ := State.runTasks_erase_frame
    (s := State.modStore { s with
      catalog := { s.catalog with state := .sealing, request := some q }
      store := { s.store with reserve := imageReserve s.catalog.entries } } (fun st =>
        { st with operation := .catalogWrite, tasks := st.eraseTasks ++ [.programArea] })) rfl
  exact ⟨hd.stack, hd.commit, hd.ctl, (congrArg Catalog.entries hd.catalog).trans rfl, hd.durable, ho⟩

theorem ownSeal (h : P s) (p : Port) (q : Byte) :
    Q (match s.sealCheck with
      | some (c, id) => s.refuse p q kSeal c id
      | none => s.acceptSeal q) := by
  split
  · exact hP.done (hP.refuse h _ _ _ _ _)
  · obtain ⟨hk, hc, hctl, he, hd, ho⟩ := acceptSeal_frame s q
    exact hP.seals h hd (.inl (by rw [ho]; exact nofun)) hk hc (congrArg Controller.start hctl) he

omit hP in
/-- WIPE is taken where nothing is owned (R21). -/
theorem wipeAllowed_unused (hs : s.Sound) (hallow : s.wipeAllowed = true) : s.rights.owner = none := by
  by_cases hstate : s.catalog.state = .sealed
  · rw [State.wipeAllowed, hstate] at hallow
    simp only [Bool.and_eq_true, List.isEmpty_iff] at hallow
    obtain ⟨⟨hnil, -⟩, -⟩ := hallow
    exact hs.rights.depth_zero.mp (by rw [State.rights, State.depth, hnil]; rfl)
  · exact (hs.rights.unused hstate).owner

theorem acceptWipe (h : P s) (hs : σ → s.Sound) (q : Byte) (hallow : s.wipeAllowed = true) : Q (s.acceptWipe q) := by
  have howner (i : σ) := wipeAllowed_unused (hs i) hallow
  have hd := s.acceptWipe_storeDiffers q
  refine hP.wipes h (fun i => frames_nil (hs i) (howner i)) (fun i => (hs i).rights.commit_none_of_owner (howner i)) hd.durable ?_
    hd.stack hd.commit (congrArg Controller.start hd.ctl) (congrArg Catalog.entries hd.catalog)
  rw [State.acceptWipe_eq]
  split
  · exact .inl (by rw [(State.startWipeErase_frame _).2]; exact nofun)
  · exact .inr (.inr ⟨rfl, rfl⟩)

theorem acceptCommit (h : P s) {p : Port} (q : Byte) (run : Bool) (hcheck : s.commitCheck p run = none) :
    Q (s.acceptCommit p q run) := by
  unfold State.commitCheck at hcheck
  split at hcheck
  · cases hcheck
  · rename_i hpass
    obtain ⟨-, hpass⟩ := firstFail_cons hpass
    obtain ⟨-, hpass⟩ := firstFail_cons hpass
    obtain ⟨-, hpass⟩ := firstFail_cons hpass
    obtain ⟨hc, -⟩ := firstFail_cons hpass
    exact hP.commits p q run h (Option.isNone_iff_eq_none.mp hc)

theorem ownWatch (h : P s) (p : Port) (q : Byte) (rs : List IdRange) : P (s.ownWatch p q rs) := by
  unfold State.ownWatch
  split
  · exact hP.refuse h _ _ _ _ _
  · exact hP.reply (hP.port h p (fun x => { x with watch := rs })) _ _ _ _

theorem ownUnwatch (h : P s) (p : Port) (q : Byte) : P (s.ownUnwatch p q) := by
  unfold State.ownUnwatch
  split
  · exact hP.reply (hP.port h p (fun x => { x with watch := [] })) _ _ _ _
  · exact hP.refuse h _ _ _ _ _

theorem linkReset (h : P s) (hs : σ → s.Sound) (p : Port) (q : Byte) : P (s.linkReset p q) := by
  have hsuppressed := hP.suppress p (hP.endBulk h hs p .linkReset)
  have hdisowned : P (((s.endBulk p .linkReset).suppressReply p).disownRequest p) := by
    cases p
    · exact hP.beside hsuppressed rfl rfl rfl rfl rfl rfl
    · exact hsuppressed
  exact hP.port hdisowned p (fun x => x.purged q (((s.endBulk p .linkReset).suppressReply p).disownRequest p).resyncRec)

/-! ### Stream messages and events of the links -/

theorem takeBlock (h : P s) (p : Port) (payload : List Byte) : P (s.takeBlock p payload) := by
  unfold State.takeBlock
  split
  · exact hP.port h _ _
  · exact hP.counting h _ _

theorem takeHold (h : P s) (p : Port) : P (s.takeHold p) := by
  unfold State.takeHold
  split
  · exact hP.port h _ _
  · exact h
  · exact h
  · exact h
  · exact hP.counting h _ _

theorem takeGo (h : P s) (p : Port) : P (s.takeGo p) := by
  unfold State.takeGo
  split
  · exact hP.port h _ _
  · exact h
  · exact h
  · exact h
  · exact hP.counting h _ _

theorem cut (h : P s) (taken : List Byte) : P (s.cut taken) := by
  have hcut := hP.port h .A (fun x => { x with rx := .hunt, outPos := 0 })
  unfold State.cut
  dsimp only
  split
  · exact h
  · split
    · exact hcut
    · exact hP.port hcut .A _

theorem setBreak (h : P s) (b : Bool) : P { s with breakLow := b } := hP.beside h rfl rfl rfl rfl rfl rfl

theorem takeBreak (h : P s) (hs : σ → s.Sound) : P s.takeBreak :=
  hP.linkReset (hP.counting (hP.setBreak h true) .B _) (fun i => ((hs i).setBreak true).counting _ _) .B 0

theorem messageSent (h : P s) (p : Port) : P (s.messageSent p) := by
  unfold State.messageSent
  split
  · split
    · exact h
    · exact hP.port h _ _
  · exact h

/-! ### What the part does of itself -/

theorem placeData (h : P s) (p : Port) (r : ReadCtx) : P (s.placeData p r) := by
  have hplaced := hP.port h p (fun x => { x.placeBulk (.data r.next s.store.durable (s.blockItems r)) with
    bulk := .reading (r.advance s.store.durable) })
  unfold State.placeData
  dsimp only
  split
  · exact hplaced
  · exact hP.port hplaced _ _

omit hP in
theorem stage_commit (s : State) (i : Nat) (v : Value) : (s.stage i v).commit = s.commit := rfl

theorem applyItems (p : Port) (blk i : Nat) (rs : List SetReq) (h : P s) (hs : σ → s.Sound) (hc : σ → s.commit = none)
    (hframes : σ → s.stack.frames ≠ []) : P (Sys2Proof.Machine.applyItems p blk i rs s).1 := by
  induction rs generalizing i s with
  | nil => exact h
  | cons r rs ih =>
    unfold Sys2Proof.Machine.applyItems
    split
    · exact h
    · rename_i v _
      refine ih (i + 1) (hP.stage r.id v h hc hframes) (fun j => (hs j).stage r.id v) hc fun j hnil => hframes j ?_
      have hdepth : (s.stage r.id v).depth = s.depth := congrArg Rights.depth (s.stage_rights r.id v)
      rw [State.depth, hnil] at hdepth
      exact List.length_eq_zero_iff.mp hdepth.symm

theorem processBlock (h : P s) (hs : σ → s.Sound) {p : Port} {w : WriteCtx} (b : Block) (hw : (s.port p).bulk = .writing w) :
    P (s.processBlock p w b) := by
  have hlocks : (s.port p).bulk.locks = true := by rw [hw]; rfl
  have hc (i : σ) := (hs i).commit_none_of_writing hw
  have happlied := hP.applyItems p b.index 0 (w.itemsToApply b) h hs hc fun i => frames_ne_nil (hs i) ((hs i).rights.locks p hlocks)
  have hcommit (i : σ) : (Sys2Proof.Machine.applyItems p b.index 0 (w.itemsToApply b) s).1.commit = none :=
    (congrArg Rights.commit (applyItems_rights p b.index 0 (w.itemsToApply b) s).1).trans (hc i)
  unfold State.processBlock
  dsimp only
  split
  · unfold State.finishWrite
    split
    · refine hP.closeBulk ?_ _ _
      split
      · exact hP.merge happlied hcommit
      · exact happlied
    · exact hP.closeBulk (hP.pop happlied hcommit) _ _
  · exact hP.port happlied _ _

theorem expire (h : P s) (hs : σ → s.Sound) {p : Port} (hrun : (s.port p).lease.isRunning = true) : P (s.expire p) := by
  have hended := hP.endBulkAtExpiry (hP.port h p (fun x => { x with lease := .stopped })) p
  have hc (i : σ) : ((s.stopLease p).endBulkAtExpiry p).commit = none := by
    rw [(State.Sound.endBulkAtExpiry_same (s.stopLease p) p).1, State.stopLease_commit]
    exact ((hs i).rights.lease p hrun).2
  exact hP.noticeBoth (hP.port (hP.popAll hended hc) _ _) _

theorem warn (h : P s) : P s.warn := by
  have hset : P (s.setSupply .warn) := hP.beside h rfl rfl rfl rfl rfl rfl
  unfold State.warn
  dsimp only
  split
  · exact hP.noticeBoth (hP.storeWarned hset) _
  · exact hset

theorem recover (h : P s) (hs : σ → s.Sound) : P s.recover := by
  have hset : P (s.setSupply .normal) := hP.beside h rfl rfl rfl rfl rfl rfl
  unfold State.recover
  dsimp only
  split
  · exact hP.noticeBoth (hP.storeRestored hset fun i => (hs i).setSupply .normal) _
  · exact hset

end KeptByCommands

/-! ### Every command -/

/-- The commands that end a start state (Table 6.2). -/
def endsStart : Instr → Bool
  | .heldExit _ | .scanEnd | .replayEnd | .cleanupEnd => true
  | _ => false

/-- A property kept by each single change is kept by each command that ends no start state. -/
theorem KeptByCommands.exec {σ : Prop} {P Q : State → Prop} (hP : KeptByCommands σ P Q) (c : Instr) {s t : State} (h : P s)
    (hs : σ → s.Sound) (hexec : Sys2Proof.Machine.exec c s = .next t) (hstart : endsStart c = false) : Q t := by
  cases c with
  | describe p q b => cases hexec; exact hP.request h hs fun _ t ht _ => hP.done (hP.reply ht _ _ _ _)
  | status p q b run => cases hexec; exact hP.request h hs fun _ t ht _ => hP.done (hP.reply ht _ _ _ _)
  | linkReset p q b => cases hexec; exact hP.request h hs fun _ t ht hts => hP.done (hP.linkReset ht hts _ _)
  | restart p q b ok => cases hexec; exact hP.request h hs fun _ t ht _ => hP.done (hP.reset _ _ ht)
  | define p q b => cases hexec; exact hP.request h hs fun r t ht hts => hP.done (hP.ownDefine ht hts p q r)
  | setup p q b => cases hexec; exact hP.request h hs fun r t ht _ => hP.done (hP.ownSetup ht p q r)
  | wipe p q b =>
    cases hexec
    refine hP.request h hs fun _ t ht hts => ?_
    split
    · exact hP.acceptWipe ht hts q ‹_›
    · exact hP.done (hP.refuse ht _ _ _ _ _)
  | beginFrame p q b =>
    cases hexec; exact hP.request h hs fun label t ht _ => hP.ownChecks ht fun hpass => hP.acceptBegin ht q label hpass
  | set p q b => cases hexec; exact hP.request h hs fun r t ht hts => hP.done (hP.ownSet ht hts p q r)
  | get p q b => cases hexec; exact hP.request h hs fun id t ht _ => hP.done (hP.ownGet ht p q id)
  | rollback p q b =>
    cases hexec; exact hP.request h hs fun label t ht _ => hP.ownChecks ht fun hpass => hP.acceptRollback ht q label hpass
  | merge p q b => cases hexec; exact hP.request h hs fun label t ht _ => hP.ownChecks ht fun hpass => hP.acceptMerge ht q label hpass
  | abandon p q b => cases hexec; exact hP.request h hs fun _ t ht _ => hP.ownChecks ht fun hpass => hP.acceptAbandon ht q hpass
  | commit p q b run =>
    cases hexec
    refine hP.request h hs fun _ t ht _ => ?_
    split
    · exact hP.done (hP.refuse ht _ _ _ _ _)
    · exact hP.acceptCommit ht q run ‹_›
  | bulkRead p q b => cases hexec; exact hP.request h hs fun r t ht _ => hP.ownChecks ht fun _ => hP.acceptBulkRead ht p q r
  | bulkWrite p q b =>
    cases hexec; exact hP.request h hs fun n t ht _ => hP.ownChecks ht fun hpass => hP.acceptBulkWrite ht q n hpass
  | bulkAbort p q b => cases hexec; exact hP.request h hs fun _ t ht hts => hP.done (hP.ownBulkAbort ht hts p q)
  | watch p q b => cases hexec; exact hP.request h hs fun rs t ht _ => hP.done (hP.ownWatch ht p q rs)
  | unwatch p q b => cases hexec; exact hP.request h hs fun _ t ht _ => hP.done (hP.ownUnwatch ht p q)
  | unknownKind p q k b => cases hexec; exact hP.takeRequest h hs fun t ht _ => hP.done (hP.port ht _ _)
  | block p b => cases hexec; exact hP.streamMessage h fun t ht => hP.takeBlock ht p b
  | hold p => cases hexec; exact hP.streamMessage h fun t ht => hP.takeHold ht p
  | go p => cases hexec; exact hP.streamMessage h fun t ht => hP.takeGo ht p
  | checkError p => cases hexec; refine hP.done ?_; split; exacts [hP.port h _ _, h]
  | framingError f => cases hexec; refine hP.done ?_; split; exacts [hP.port (hP.port h _ _) _ _, h]
  | cutMessage taken => cases hexec; refine hP.done ?_; split; exacts [hP.cut h taken, h]
  | breakStart => cases hexec; refine hP.done ?_; split; exacts [hP.takeBreak h hs, h]
  | breakEnd => cases hexec; exact hP.done (hP.setBreak h false)
  | messageSentA => cases hexec; exact hP.done (hP.messageSent h .A)
  | messageSentB => cases hexec; exact hP.done (hP.messageSent h .B)
  | data p =>
    cases hexec
    refine hP.done ?_
    split
    · split; exacts [hP.placeData h p _, h]
    all_goals exact h
  | credit p =>
    cases hexec
    refine hP.done ?_
    split
    · split; exacts [hP.port h _ _, h]
    all_goals exact h
  | bulkDone p =>
    cases hexec
    refine hP.done ?_
    split
    · split; exacts [hP.port h _ _, h]
    all_goals exact h
  | notice p => cases hexec; refine hP.done ?_; split; exacts [hP.port h _ _, h]
  | blockProcessing p =>
    cases hexec
    refine hP.done ?_
    split
    · split
      · exact h
      · exact hP.processBlock h hs _ ‹_›
    all_goals exact h
  | leaseExpiry p =>
    cases hexec
    refine hP.done ?_
    split
    · rename_i hexpires
      rw [Bool.and_eq_true] at hexpires
      exact hP.expire h hs hexpires.2
    · exact h
  | warnCrossing => cases hexec; refine hP.done ?_; split; exacts [hP.warn h, h]
  | normalCrossing => cases hexec; refine hP.done ?_; split; exacts [hP.recover h hs, h]
  | cutoff => cases hexec; exact hP.done (hP.reset _ _ h)
  | pinReset => cases hexec; exact hP.done (hP.reset _ _ h)
  | powerOnReset => cases hexec; exact hP.done (hP.reset _ _ h)
  | heldExit vdd => cases hstart
  | scanEnd => cases hstart
  | replayEnd => cases hstart
  | cleanupEnd => cases hstart
  | slotProgramDone ok mapOk => cases hexec; exact hP.done (hP.programEnds h hs ok mapOk)
  | sectorEraseDone r mapOk => cases hexec; exact hP.done (hP.eraseEnds h hs r mapOk)
  | _ =>
    -- SEAL, whose constructor's name is a keyword of Lean
    rename_i p q b
    cases hexec
    exact hP.request h hs fun _ t ht _ => hP.ownSeal ht p q

/-- From READY on nothing ends a start state. -/
theorem exec_endsStart_ready {c : Instr} {s : State} (hc : endsStart c = true) (hr : s.ready = true) : exec c s = .next s := by
  have hstart : s.ctl.start = .ready := (State.ready_iff s).mp hr
  cases c with
  | heldExit vdd => exact congrArg Host.Outcome.next (if_neg fun h => by rw [hstart] at h; cases h.1)
  | scanEnd => exact congrArg Host.Outcome.next (if_neg fun h => by rw [hstart] at h; cases h)
  | replayEnd => exact congrArg Host.Outcome.next (if_neg fun h => by rw [hstart] at h; cases h)
  | cleanupEnd => exact congrArg Host.Outcome.next (if_neg fun h => by rw [hstart] at h; cases h)
  | _ => cases hc

end Sys2Proof.Machine
end

section
/-! SUPPORT. The durable number and the image owed: two properties that every command keeps by the principle of single changes. -/

namespace Sys2Proof.Machine

set_option Elab.async false

open Sys2Proof

/-! ### Changes of the stack and the catalog's values -/

/-- Two states agree on the store, the start state, the catalog state and on whether a commit is in flight. -/
structure State.BesideStack (s t : State) : Prop where
  store : t.store = s.store
  start : t.ctl.start = s.ctl.start
  state : t.catalog.state = s.catalog.state
  commit : t.commit = none ↔ s.commit = none

theorem State.BesideStack.trans {s t u : State} (h : s.BesideStack t) (k : t.BesideStack u) : s.BesideStack u :=
  ⟨k.store.trans h.store, k.start.trans h.start, k.state.trans h.state, k.commit.trans h.commit⟩

theorem State.suppressReply_besideStack (s : State) (p : Port) : s.BesideStack (s.suppressReply p) := by
  constructor <;> simp [State.suppressReply]

theorem State.pushFrame_besideStack (s : State) (p : Port) (label : Option (List Byte)) : s.BesideStack (s.pushFrame p label) := by
  constructor <;> unfold State.pushFrame <;> dsimp only <;> split <;> simp [State.takeOwnership]

theorem State.stage_besideStack (s : State) (i : Nat) (v : Value) : s.BesideStack (s.stage i v) := ⟨rfl, rfl, rfl, .rfl⟩

theorem State.mergeTop_besideStack (s : State) : s.BesideStack s.mergeTop := by
  constructor <;> unfold State.mergeTop <;> split <;> simp

theorem State.dropOwner_besideStack (s : State) : s.BesideStack s.dropOwner := by
  constructor <;> unfold State.dropOwner <;> split <;> simp

theorem State.releaseAtZero_besideStack (s : State) : s.BesideStack s.releaseAtZero := by
  unfold State.releaseAtZero
  split
  · exact s.dropOwner_besideStack.trans ⟨rfl, rfl, rfl, .rfl⟩
  · exact ⟨rfl, rfl, rfl, .rfl⟩

theorem State.rollbackTop_besideStack (s : State) : s.BesideStack s.rollbackTop := by
  constructor <;> unfold State.rollbackTop <;> split <;> simp

theorem State.rollbackFrame_besideStack (s : State) : s.BesideStack s.rollbackFrame :=
  s.rollbackTop_besideStack.trans s.rollbackTop.releaseAtZero_besideStack

theorem State.rollbackMany_besideStack (n : Nat) (s : State) : s.BesideStack (State.rollbackMany n s) := by
  induction n generalizing s with
  | zero => exact ⟨rfl, rfl, rfl, .rfl⟩
  | succ n ih => exact s.rollbackTop_besideStack.trans (ih _)

theorem State.changesReleased_store (s : State) (c : InFlight) : 
    (s.changesTold c).releaseAtZero.store = { s.store with durable := c.number } := by
  rw [(State.releaseAtZero_besideStack _).store]; simp [State.changesTold, State.madeDurable]

theorem State.changesReleased_commit (s : State) (c : InFlight) : (s.changesTold c).releaseAtZero.commit = none :=
  (State.releaseAtZero_besideStack _).commit.mpr (by simp [State.changesTold, State.madeDurable])

theorem State.changesReleased_start (s : State) (c : InFlight) : (s.changesTold c).releaseAtZero.ctl.start = s.ctl.start := by
  rw [(State.releaseAtZero_besideStack _).start]; simp [State.changesTold, State.madeDurable]

theorem State.changesReleased_state (s : State) (c : InFlight) : (s.changesTold c).releaseAtZero.catalog.state = s.catalog.state := by
  rw [(State.releaseAtZero_besideStack _).state]; simp [State.changesTold, State.madeDurable]

theorem State.acceptCommit_workDiffers (s : State) (p : Port) (q : Byte) (run : Bool) : s.WorkDiffers (s.acceptCommit p q run) := by
  have hhand : s.WorkDiffers (s.handOver p q run) := by constructor <;> simp [State.handOver]
  exact hhand.trans ((State.requestRoom_storeDiffers _).work.trans (State.choose_workDiffers _))

/-! ### The durable number (R62) -/

/-- The catalog area and the ring are written anew: SEALING or WIPING. -/
def CatState.Rewrites (c : CatState) : Prop := c = .sealing ∨ c = .wiping

/-- From READY on the durable number stands at `n`, has become one higher with its commit, or is 0 after the end of a SEAL or WIPE,
which `rewrites` says to be in progress. -/
def NumberFrom (n : Nat) (rewrites : Prop) (t : State) : Prop := t.ctl.start = .ready →
  (t.store.durable = n ∧ (t.catalog.state.Rewrites → rewrites)) ∨
  (t.store.durable = n + 1 ∧ t.commit = none ∧ ¬ t.catalog.state.Rewrites) ∨ (t.store.durable = 0 ∧ t.commit = none ∧ rewrites)

/-- What is left of it after an accepted SEAL or WIPE. -/
def NumberEnds (n : Nat) (rewrites : Prop) (t : State) : Prop := t.ctl.start = .ready →
  t.store.durable = n ∨ t.store.durable = n + 1 ∨ (t.store.durable = 0 ∧ rewrites)

variable {n : Nat} {rewrites : Prop} {s t : State}

theorem NumberFrom.ends (h : NumberFrom n rewrites s) : NumberEnds n rewrites s := fun hr => by
  obtain ⟨hn, -⟩ | ⟨hn, -, -⟩ | ⟨hn, -, hw⟩ := h hr
  exacts [.inl hn, .inr (.inl hn), .inr (.inr ⟨hn, hw⟩)]

theorem NumberEnds.same (h : NumberEnds n rewrites s) (hd : t.store.durable = s.store.durable) (hr : t.ctl.start = s.ctl.start) :
    NumberEnds n rewrites t := fun htr => by
  rw [hd]
  exact h (hr ▸ htr)

theorem NumberFrom.same (h : NumberFrom n rewrites s) (hd : t.store.durable = s.store.durable) (hr : t.ctl.start = s.ctl.start)
    (hst : t.catalog.state = s.catalog.state) (hc : s.commit = none → t.commit = none) : NumberFrom n rewrites t := fun htr => by
  rw [hd, hst]
  obtain h | ⟨hn, hnone, hw⟩ | ⟨hn, hnone, hw⟩ := h (hr ▸ htr)
  exacts [.inl h, .inr (.inl ⟨hn, hc hnone, hw⟩), .inr (.inr ⟨hn, hc hnone, hw⟩)]

theorem NumberFrom.besideStack (h : NumberFrom n rewrites s) (hb : s.BesideStack t) : NumberFrom n rewrites t :=
  h.same (congrArg Store.durable hb.store) hb.start hb.state hb.commit.mpr

/-- Before READY the durable number is not looked at. -/
theorem NumberFrom.early (hr : t.ctl.start ≠ .ready) : NumberFrom n rewrites t := fun htr => absurd htr hr

/-- A commit in flight is one of the SEALED catalog (R51). -/
theorem State.Sound.commit_sealed {c : InFlight} (hs : s.Sound) (hc : s.commit = some c) : s.catalog.state = .sealed := by
  by_contra hne
  exact absurd (hc.symm.trans (hs.rights.unused hne).commit) nofun

theorem CatState.Rewrites.not_sealed {c : CatState} (h : c.Rewrites) : c ≠ .sealed := by
  rintro rfl
  rcases h with h | h <;> cases h

theorem NumberFrom.commitDurable {c : InFlight} (h : NumberFrom n rewrites s) (hs : s.Sound) (hc : s.commit = some c) :
    NumberFrom n rewrites (s.changesTold c).releaseAtZero := fun htr => by
  rw [State.changesReleased_store, State.changesReleased_state]
  obtain ⟨-, -, -, hnumber⟩ := hs.rights.commit c hc
  obtain ⟨hn, -⟩ | ⟨-, hnone, -⟩ | ⟨-, hnone, -⟩ := h (State.changesReleased_start s c ▸ htr)
  · exact .inr (.inl ⟨hnumber.trans (congrArg (· + 1) hn), State.changesReleased_commit s c,
      fun hw => hw.not_sealed (hs.commit_sealed hc)⟩)
  · exact absurd (hc.symm.trans hnone) nofun
  · exact absurd (hc.symm.trans hnone) nofun

theorem NumberFrom.catalogEnds (h : NumberFrom n rewrites s) (hs : s.Sound) (hw : s.catalog.state.Rewrites)
    (hd : t.store.durable = 0) (hc : t.commit = s.commit) (hr : t.ctl.start = s.ctl.start) : NumberFrom n rewrites t := fun htr => by
  have hnone : t.commit = none := hc.trans (hs.rights.unused hw.not_sealed).commit
  obtain ⟨-, himp⟩ | ⟨-, -, hno⟩ | ⟨-, -, hrw⟩ := h (hr ▸ htr)
  exacts [.inr (.inr ⟨hd, hnone, himp hw⟩), absurd hw hno, .inr (.inr ⟨hd, hnone, hrw⟩)]

theorem keptByCommands_number (n : Nat) (rewrites : Prop) :
    KeptByCommands True (NumberFrom n rewrites) (NumberEnds n rewrites) where
  beside h hst _ _ hstate hstart hc := h.same (congrArg Store.durable hst) hstart hstate fun hn => hc.trans hn
  commitEnds h := h.same rfl rfl rfl fun _ => rfl
  store h hd _ := h.same hd rfl rfl id
  durable h hs hc := h.commitDurable (hs trivial) hc
  catalogEnds h hs hw hd _ _ hc hr _ := h.catalogEnds (hs trivial) (hw trivial) hd hc hr
  done h := h.ends
  suppress p h := h.besideStack (State.suppressReply_besideStack _ p)
  push p label h _ := h.besideStack (State.pushFrame_besideStack _ p label)
  stage i v h _ _ := h.besideStack (State.stage_besideStack _ i v)
  merge h _ := h.besideStack (State.mergeTop_besideStack _)
  pop h _ := h.besideStack (State.rollbackFrame_besideStack _)
  popAll h _ := h.besideStack ((State.rollbackMany_besideStack _ _).trans (State.dropOwner_besideStack _))
  commits p q run h _ :=
    have hd := State.acceptCommit_workDiffers _ p q run
    h.ends.same hd.durable (congrArg Controller.start hd.ctl)
  define d h _ _ htakes := fun hr => by
    obtain ⟨hn, -⟩ | ⟨hn, hc, -⟩ | hz := h hr
    exacts [.inl ⟨hn, fun hw => by rcases hw with hw | hw <;> cases hw⟩,
      .inr (.inl ⟨hn, hc, fun hw => by rcases hw with hw | hw <;> cases hw⟩), .inr (.inr hz)]
  seals h hd _ _ _ hr _ := h.ends.same hd hr
  wipes h _ _ hd _ _ _ hr _ := h.ends.same hd hr
  reset nv cause _ := .early (by rw [State.resetTo, State.held]; exact nofun)

/-- Settles O35: the durable number moves with a commit in flight and at the end of SEAL and WIPE alone. -/
theorem durableNumberStepsByOne : Obligations.DurableNumberStepsByOne := by
  intro s t hbound hcoherent hstep hready htready
  obtain ⟨-, rfl⟩ | ⟨c, rest, -, hexec⟩ := step_cases hstep
  · exact .inl rfl
  · have hs : State.Sound { s with pending := rest } := ((State.sound_iff hbound).mp hcoherent).of_eq rfl rfl rfl
    cases hstart : endsStart c with
    | true =>
      cases (exec_endsStart_ready (s := { s with pending := rest }) hstart ((State.ready_iff s).mpr hready)).symm.trans hexec
      exact .inl rfl
    | false =>
      exact (keptByCommands_number s.store.durable s.catalog.state.Rewrites).exec c (s := { s with pending := rest })
        (fun _ => .inl ⟨rfl, id⟩) (fun _ => hs) hexec hstart htready

/-! ### The image owed (R118) -/

/-- No append runs while an image is owed. -/
def AppendsWithoutDebt (t : State) : Prop := t.store.operation ≠ .appending ∨ t.store.imageOwed = false

theorem AppendsWithoutDebt.besideStack (h : AppendsWithoutDebt s) (hb : s.BesideStack t) : AppendsWithoutDebt t := by
  rw [AppendsWithoutDebt, hb.store]
  exact h

theorem AppendsWithoutDebt.store (h : AppendsWithoutDebt s) (ho : s.store.OwesNoAppend t.store) : AppendsWithoutDebt t := by
  rcases ho with ho | ho | ⟨ho, hi⟩
  · exact .inl ho
  · exact .inr ho
  · rw [AppendsWithoutDebt, ho, hi]
    exact h
theorem keptByWork_debt : KeptByWork False AppendsWithoutDebt where
  beside h hst _ _ _ _ _ := h.store (.inr (.inr (by rw [hst]; exact ⟨rfl, rfl⟩)))
  commitEnds h := h
  store h _ ho := h.store (by simpa using ho)
  durable h _ _ := h.store (by rw [State.changesReleased_store]; exact .inr (.inr ⟨rfl, rfl⟩))
  catalogEnds _ _ _ _ ho _ _ _ _ := .inl (by rw [ho]; exact nofun)

theorem keptByCommands_debt : KeptByCommands False AppendsWithoutDebt AppendsWithoutDebt where
  toKeptByWork := keptByWork_debt
  done h := h
  suppress p h := h.besideStack (State.suppressReply_besideStack _ p)
  push p label h _ := h.besideStack (State.pushFrame_besideStack _ p label)
  stage i v h _ _ := h.besideStack (State.stage_besideStack _ i v)
  merge h _ := h.besideStack (State.mergeTop_besideStack _)
  pop h _ := h.besideStack (State.rollbackFrame_besideStack _)
  popAll h _ := h.besideStack ((State.rollbackMany_besideStack _ _).trans (State.dropOwner_besideStack _))
  commits p q run h _ :=
    keptByWork_debt.choose (keptByWork_debt.requestRoom (h.store (by simp [State.handOver, Store.OwesNoAppend])))
  define d h _ _ _ := h
  seals h _ ho _ _ _ _ := h.store ho
  wipes h _ _ _ ho _ _ _ _ := h.store ho
  reset nv cause _ := .inl (by rw [State.resetTo, State.held]; exact nofun)

/-- The end of cleanup keeps the operation until the store chooses. -/
theorem State.cleanedStore_operation (s : State) (r : ReplayResult) : (s.cleanedStore r).operation = s.store.operation := by
  unfold State.cleanedStore
  split <;> rfl

/-- A command that ends a start state starts no append while an image is owed. -/
theorem exec_endsStart_debt {c : Instr} (hstart : endsStart c = true) (ho : s.store.operation ≠ .appending)
    (hexec : exec c s = .next t) : AppendsWithoutDebt t := by
  cases c with
  | heldExit vdd => cases hexec; exact .inl (by split <;> exact ho)
  | scanEnd => cases hexec; refine .inl ?_; split; exacts [by unfold State.scanned; split <;> exact ho, ho]
  | replayEnd => cases hexec; refine .inl ?_; split; exacts [by unfold State.replayed; split <;> exact ho, ho]
  | cleanupEnd =>
    cases hexec
    split
    · exact keptByWork_debt.choose (.inl (by rw [State.enterReady, State.cleanedStore_operation]; exact ho))
    · exact .inl ho
  | _ => cases hstart

/-- R118: while an image is owed, no step starts an append. -/
theorem step_appendsWithoutDebt (ho : s.store.operation ≠ .appending) (hstep : step s = .next t) : AppendsWithoutDebt t := by
  obtain ⟨-, rfl⟩ | ⟨c, rest, -, hexec⟩ := step_cases hstep
  · exact .inl ho
  · cases hstart : endsStart c with
    | true => exact exec_endsStart_debt (s := { s with pending := rest }) hstart ho hexec
    | false => exact keptByCommands_debt.exec c (s := { s with pending := rest }) (.inl ho) nofun hexec hstart

end Sys2Proof.Machine
end

section
/-! SUPPORT. Rolled back to the bottom, every working value is its committed value (R34): what the frames say of each entry, and that every
command keeps it. -/

namespace Sys2Proof.Machine

set_option Elab.async false

open Sys2Proof

/-! ### What the frames say of an entry -/

/-- The value that the frame's oldest record of the id holds. -/
def Frame.prior? (f : Frame) (id : Nat) : Option Value := (f.undo.find? (fun u => u.id == id)).map (fun u => u.prior)

/-- The value to which the frames, rolled back from the top down, return the entry of an id, if one of them holds a record for it: that of
the lowest such frame. -/
def framesPrior : List Frame → Nat → Option Value
  | [], _ => none
  | f :: fs, id => (framesPrior fs id).or (f.prior? id)

/-- The frames return the entry to its committed value. -/
def Entry.Restorable (fs : List Frame) (e : Entry) : Prop :=
  ∀ l, e.live = some l → (framesPrior fs e.defn.id).getD l.working = l.committed

theorem Entry.restored_restorable (f : Frame) (fs : List Frame) (e : Entry) :
    (e.restored f.undo).Restorable fs ↔ e.Restorable (f :: fs) := by
  unfold Entry.Restorable
  rw [Entry.restored_defn, framesPrior, Frame.prior?, Entry.restored]
  cases hl : e.live with
  | none => cases f.undo.find? (fun u => u.id == e.defn.id) <;> simp [hl]
  | some l => cases f.undo.find? (fun u => u.id == e.defn.id) <;> cases framesPrior fs e.defn.id <;> simp [hl]

theorem restoreFrames_agree_iff (fs : List Frame) (es : List Entry) :
    (∀ e ∈ restoreFrames fs es, e.working = e.committed) ↔ ∀ e ∈ es, e.Restorable fs := by
  induction fs generalizing es with
  | nil =>
    refine forall₂_congr fun e _ => ?_
    unfold Entry.Restorable Entry.working Entry.committed
    cases e.live <;> simp [framesPrior]
  | cons f fs ih =>
    rw [restoreFrames, ih, restoreAll_eq_map, List.forall_mem_map]
    exact forall₂_congr fun e _ => e.restored_restorable f fs

/-- Frames that say the same of each entry leave it as restorable as it was. -/
theorem Entry.Restorable.congr {fs gs : List Frame} {e : Entry} (h : framesPrior gs e.defn.id = framesPrior fs e.defn.id) :
    e.Restorable gs ↔ e.Restorable fs := by
  rw [Entry.Restorable, Entry.Restorable, h]

/-- In id order an id names one entry (R1). -/
theorem IdsOrdered.findEntry_mem {es : List Entry} (h : IdsOrdered es) {e : Entry} (he : e ∈ es) : findEntry es e.defn.id = some e := by
  induction es with
  | nil => cases he
  | cons x xs ih =>
    obtain ⟨hx, hxs⟩ := List.pairwise_cons.mp h
    rcases List.mem_cons.mp he with rfl | he
    · exact List.find?_cons_of_pos (by simp)
    · have hlt := hx _ (List.mem_map_of_mem he)
      exact (List.find?_cons_of_neg (by simpa using hlt.ne)).trans (ih hxs he)

/-! ### Staging -/

theorem Frame.prior?_isSome (f : Frame) (id : Nat) : (f.prior? id).isSome = f.undo.any (fun u => u.id == id) := by
  rw [Frame.prior?, Option.isSome_map, List.isSome_find?]

/-- The frame after it has taken a record. -/
theorem Frame.prior?_append (label : Option (List Byte)) (us vs : List Undo) (id : Nat) :
    ({ label := label, undo := us ++ vs } : Frame).prior? id =
      (({ label := label, undo := us } : Frame).prior? id).or (({ label := label, undo := vs } : Frame).prior? id) := by
  rw [Frame.prior?, List.find?_append, Frame.prior?, Frame.prior?]
  cases us.find? (fun u => u.id == id) <;> rfl

/-- A write where the top frame holds a record for the id leaves each entry as restorable as it was (R39). -/
theorem Entry.Restorable.write_recorded {f : Frame} {fs : List Frame} {e : Entry} (h : e.Restorable (f :: fs))
    (hf : (f.prior? e.defn.id).isSome = true) (v : Value) :
    ({ e with live := e.live.map (fun l => { l with working := v }) } : Entry).Restorable (f :: fs) := by
  intro l' hl'
  obtain ⟨l, hl, rfl⟩ := Option.map_eq_some_iff.mp hl'
  have hcommitted := h l hl
  rw [framesPrior] at hcommitted ⊢
  obtain ⟨w, hw⟩ := Option.isSome_iff_exists.mp hf
  rw [hw] at hcommitted ⊢
  cases hfs : framesPrior fs e.defn.id <;> rw [hfs] at hcommitted <;> exact hcommitted

/-- The first write in the top frame takes the value it overwrites as its record (R39). -/
theorem Entry.Restorable.write_first {f : Frame} {fs : List Frame} {e : Entry} (h : e.Restorable (f :: fs))
    (hf : f.prior? e.defn.id = none) (v : Value) :
    ({ e with live := e.live.map (fun l => { l with working := v }) } : Entry).Restorable
      ({ f with undo := f.undo ++ [{ id := e.defn.id, prior := e.working }] } :: fs) := by
  intro l' hl'
  obtain ⟨l, hl, rfl⟩ := Option.map_eq_some_iff.mp hl'
  have hcommitted := h l hl
  rw [framesPrior, hf] at hcommitted
  have hnew : Frame.prior? { label := f.label, undo := f.undo ++ [{ id := e.defn.id, prior := e.working }] } e.defn.id =
      some e.working := by
    rw [Frame.prior?_append, hf, Frame.prior?]; simp
  rw [framesPrior, hnew, Entry.working, hl]
  cases hfs : framesPrior fs e.defn.id <;> rw [hfs] at hcommitted <;> exact hcommitted

/-- A record of another id changes nothing for the entry. -/
theorem framesPrior_record_other {f : Frame} {fs : List Frame} {u : Undo} {id : Nat} (h : u.id ≠ id) :
    framesPrior ({ f with undo := f.undo ++ [u] } :: fs) id = framesPrior (f :: fs) id := by
  rw [framesPrior, framesPrior, Frame.prior?_append]
  simp [Frame.prior?, h]

/-- A record is taken for an id that the frame does not hold yet (R26). -/
theorem record_distinct {f : Frame} {u : Undo} (hf : (f.undo.map (fun u => u.id)).Nodup) (hnew : f.prior? u.id = none) :
    ((f.undo ++ [u]).map (fun u => u.id)).Nodup := by
  rw [List.map_append, List.nodup_append]
  refine ⟨hf, List.nodup_singleton _, fun i hi j hj hij => ?_⟩
  obtain rfl := List.mem_singleton.mp hj
  obtain ⟨w, hw, hwi⟩ := List.mem_map.mp hi
  have hno := f.prior?_isSome u.id
  rw [hnew] at hno
  exact absurd (List.any_eq_false.mp hno.symm w hw) (by simpa using hwi.trans hij)

theorem mem_setWorking {es : List Entry} {id : Nat} {v : Value} {e' : Entry} (h : e' ∈ setWorking es id v) :
    ∃ e ∈ es, (e.defn.id ≠ id ∧ e' = e) ∨
      (e.defn.id = id ∧ e' = { e with live := e.live.map (fun l => { l with working := v }) }) := by
  rw [setWorking] at h
  obtain ⟨e, he, rfl⟩ := List.mem_map.mp h
  refine ⟨e, he, ?_⟩
  split
  · exact .inr ⟨‹_›, rfl⟩
  · exact .inl ⟨‹_›, rfl⟩

/-! ### Merging -/

theorem mergeMoved_prior (f g : Frame) (id : Nat) :
    Frame.prior? { g with undo := g.undo ++ mergeMoved f.undo g.undo } id = (g.prior? id).or (f.prior? id) := by
  rw [Frame.prior?_append]
  cases hg : g.prior? id with
  | some w => rfl
  | none =>
    have hnone : g.undo.any (fun u => u.id == id) = false := by rw [← Frame.prior?_isSome, hg]; rfl
    suffices h : (mergeMoved f.undo g.undo).find? (fun u => u.id == id) = f.undo.find? (fun u => u.id == id) by
      rw [Option.none_or, Frame.prior?, Frame.prior?, h]; rfl
    rw [mergeMoved, List.find?_filter]
    congr 1
    funext u
    by_cases hid : u.id = id
    · subst hid; simp [hnone]
    · simp [hid]

theorem framesPrior_merge (f g : Frame) (fs : List Frame) (id : Nat) :
    framesPrior ({ g with undo := g.undo ++ mergeMoved f.undo g.undo } :: fs) id = framesPrior (f :: g :: fs) id := by
  rw [framesPrior, framesPrior, framesPrior, mergeMoved_prior, Option.or_assoc]

theorem merge_distinct {f g : Frame} (hf : (f.undo.map (fun u => u.id)).Nodup) (hg : (g.undo.map (fun u => u.id)).Nodup) :
    ((g.undo ++ mergeMoved f.undo g.undo).map (fun u => u.id)).Nodup := by
  rw [List.map_append, List.nodup_append]
  refine ⟨hg, hf.sublist (List.Sublist.map _ List.filter_sublist), fun i hi j hj hij => ?_⟩
  subst hij
  obtain ⟨u, hu, rfl⟩ := List.mem_map.mp hj
  obtain ⟨w, hw, hwu⟩ := List.mem_map.mp hi
  have hfree := (List.mem_filter.mp hu).2
  rw [Bool.not_eq_true', List.any_eq_false] at hfree
  exact hfree w hw (by simpa using hwu)

/-! ### The durability point -/

/-- In a catalog in id order the change list of a commit names an entry exactly where it is recorded and staged. -/
theorem find_change {es : List Entry} (hids : IdsOrdered es) (sel : Entry → Bool) {e : Entry} (he : e ∈ es) :
    ((es.filter sel).map Entry.change).find? (fun c => c.id == e.defn.id) = if sel e then some e.change else none := by
  have hfind : ((es.filter sel).map Entry.change).find? (fun c => c.id == e.defn.id) =
      (es.find? (fun x => sel x && (x.defn.id == e.defn.id))).map Entry.change := by
    rw [List.find?_map, List.find?_filter]
    exact congrArg (Option.map Entry.change) (congrArg (fun p => es.find? p) (funext fun x =>
      Bool.eq_iff_iff.mpr (by simp [Entry.change])))
  have hunique {x : Entry} (hx : x ∈ es) (hid : x.defn.id = e.defn.id) : x = e := by
    have hfound := hids.findEntry_mem hx
    rw [hid, hids.findEntry_mem he] at hfound
    exact (Option.some.inj hfound).symm
  rw [hfind]
  cases hx : es.find? (fun x => sel x && (x.defn.id == e.defn.id)) with
  | some x =>
    have hsel := List.find?_some hx
    simp only [Bool.and_eq_true, beq_iff_eq] at hsel
    obtain ⟨hsel, hid⟩ := hsel
    cases hunique (List.mem_of_find?_eq_some hx) hid
    rw [if_pos hsel]
    rfl
  | none =>
    have hno := List.find?_eq_none.mp hx e he
    rw [if_neg (by simpa using hno)]
    rfl

/-- Where the frame returns each entry to its committed value, the change list of what it records makes working and committed agree
(R34, R61). -/
theorem applyCommit_agrees {es : List Entry} (hids : IdsOrdered es) {f : Frame} (hviews : ∀ e ∈ es, e.Restorable [f]) :
    ∀ e ∈ applyCommit es ((es.filter (fun e => f.undo.any (fun u => u.id == e.defn.id) && e.staged)).map Entry.change),
      e.working = e.committed := by
  intro e' he'
  obtain ⟨e, he, rfl⟩ := List.mem_map.mp he'
  rw [find_change hids _ he]
  split
  · rename_i c hc
    obtain ⟨-, hc⟩ := Option.ite_none_right_eq_some.mp hc
    cases Option.some.inj hc
    cases hl : e.live <;> simp [Entry.working, Entry.committed, hl, Entry.change]
  · rename_i hc
    have hno := Option.ite_none_right_eq_some.not.mp (by rw [hc]; exact nofun : _ ≠ some e.change)
    by_cases hw : e.working = e.committed
    · exact hw
    · have hnone : f.prior? e.defn.id = none := by
        rw [← Option.isNone_iff_eq_none, ← Option.not_isSome, Frame.prior?_isSome]
        simpa [Entry.staged, hw] using hno
      cases hl : e.live with
      | none => simp [Entry.working, Entry.committed, hl]
      | some l =>
        have h := hviews e he l hl
        rw [framesPrior, hnone] at h
        simpa [Entry.working, Entry.committed, hl, framesPrior] using h

/-! ### The property of the state -/

/-- What the obligation says of a state, with the ids in order. -/
structure State.Restorable (s : State) : Prop where
  ids : IdsOrdered s.catalog.entries
  distinct : s.UndoDistinct
  changes : s.ChangesFixed
  views : s.ViewsRestorable

namespace State.Restorable

variable {s t : State}

theorem entry (h : s.Restorable) : ∀ e ∈ s.catalog.entries, e.Restorable s.stack.frames :=
  (restoreFrames_agree_iff _ _).mp h.views

/-- The property is one of the frames, the entries and the commit in flight. -/
theorem same (h : s.Restorable) (hf : t.stack.frames = s.stack.frames) (he : t.catalog.entries = s.catalog.entries)
    (hc : ∀ c, t.commit = some c → ∃ d, s.commit = some d ∧ c.changes = d.changes) : t.Restorable where
  ids := he ▸ h.ids
  distinct := by rw [State.UndoDistinct, hf]; exact h.distinct
  changes _ htc := by
    obtain ⟨d, hd, hcd⟩ := hc _ htc
    rw [hcd, h.changes d hd, State.changedEntries, State.changedEntries, he]
    simp only [State.recorded, hf]
  views := by rw [State.ViewsRestorable, hf, he]; exact h.views

/-- With no commit in flight the change list is no matter. -/
theorem idle (hids : IdsOrdered t.catalog.entries) (hd : t.UndoDistinct) (hc : t.commit = none) (hv : t.ViewsRestorable) :
    t.Restorable :=
  ⟨hids, hd, fun _ htc => absurd (htc.symm.trans hc) nofun, hv⟩

/-- At depth 0 with no commit in flight the values alone matter. -/
theorem unstaged (hids : IdsOrdered t.catalog.entries) (hf : t.stack.frames = []) (hc : t.commit = none)
    (hv : ∀ e ∈ t.catalog.entries, e.working = e.committed) : t.Restorable :=
  idle hids (by rw [State.UndoDistinct, hf]; exact nofun) hc (by rw [State.ViewsRestorable, hf]; exact hv)

/-- An empty catalog stages nothing. -/
theorem empty (he : t.catalog.entries = []) (hf : t.stack.frames = []) (hc : t.commit = none) : t.Restorable :=
  unstaged (he ▸ List.Pairwise.nil) hf hc fun e hmem => absurd hmem (by rw [he]; exact List.not_mem_nil)

theorem pushFrame (h : s.Restorable) (p : Port) (label : Option (List Byte)) (hc : s.commit = none) :
    (s.pushFrame p label).Restorable := by
  have hpush : (s.pushFrame p label).stack.frames = { label := label, undo := [] } :: s.stack.frames ∧
      (s.pushFrame p label).catalog = s.catalog := by
    unfold State.pushFrame
    dsimp only
    split <;> simp [State.takeOwnership]
  obtain ⟨hf, hcat⟩ := hpush
  refine idle (hcat ▸ h.ids) ?_ ((State.pushFrame_besideStack s p label).commit.mpr hc) ?_
  · rw [State.UndoDistinct, hf, List.forall_mem_cons]
    exact ⟨List.nodup_nil, h.distinct⟩
  · rw [State.ViewsRestorable, hf, hcat]
    exact h.views

/-- The record that a first write takes (R39). -/
theorem stage_frames_first {i : Nat} {f : Frame} {fs : List Frame} (hneed : s.needsRecord i = true) (hf : s.stack.frames = f :: fs)
    (v : Value) : ∃ prior, (s.stage i v).stack.frames = { f with undo := f.undo ++ [{ id := i, prior := prior }] } :: fs ∧
      ∀ e, findEntry s.catalog.entries i = some e → prior = e.working := by
  unfold State.stage
  simp only [hneed, if_true, Stack.takeRecord, hf]
  exact ⟨_, rfl, fun e he => by simp only [he]⟩

theorem stage (h : s.Restorable) (i : Nat) (v : Value) (hc : s.commit = none) (hne : s.stack.frames ≠ []) :
    (s.stage i v).Restorable := by
  obtain ⟨f, fs, hf⟩ := List.exists_cons_of_ne_nil hne
  have hids : IdsOrdered (s.stage i v).catalog.entries := idsOrdered_of_defns (setWorking_defns _ _ _) h.ids
  have hentry := h.entry
  rw [hf] at hentry
  have hdistinct := h.distinct
  rw [State.UndoDistinct, hf, List.forall_mem_cons] at hdistinct
  obtain ⟨htop, hrest⟩ := hdistinct
  cases hneed : s.needsRecord i with
  | false =>
    have hframes : (s.stage i v).stack.frames = f :: fs := by rw [State.stage_stack, hneed]; exact hf
    rw [State.needsRecord, hf, Bool.not_eq_false', ← Frame.prior?_isSome] at hneed
    refine idle hids (by rw [State.UndoDistinct, hframes, List.forall_mem_cons]; exact ⟨htop, hrest⟩) hc ?_
    rw [State.ViewsRestorable, restoreFrames_agree_iff, hframes]
    intro e' he'
    obtain ⟨e, he, ⟨-, rfl⟩ | ⟨rfl, rfl⟩⟩ := mem_setWorking he'
    · exact hentry _ he
    · exact (hentry e he).write_recorded hneed v
  | true =>
    obtain ⟨prior, hframes, hprior⟩ := stage_frames_first hneed hf v
    rw [State.needsRecord, hf, Bool.not_eq_true', ← Frame.prior?_isSome, Option.isSome_eq_false_iff, Option.isNone_iff_eq_none] at hneed
    refine idle hids ?_ hc ?_
    · rw [State.UndoDistinct, hframes, List.forall_mem_cons]
      exact ⟨record_distinct htop hneed, hrest⟩
    · rw [State.ViewsRestorable, restoreFrames_agree_iff, hframes]
      intro e' he'
      obtain ⟨e, he, ⟨hother, rfl⟩ | ⟨rfl, rfl⟩⟩ := mem_setWorking he'
      · exact (Entry.Restorable.congr (framesPrior_record_other (Ne.symm hother))).mpr (hentry _ he)
      · rw [hprior e (h.ids.findEntry_mem he)]
        exact (hentry e he).write_first hneed v

theorem mergeTop (h : s.Restorable) (hc : s.commit = none) : s.mergeTop.Restorable := by
  obtain ⟨hcat, hcommit, -⟩ := s.mergeTop_elsewhere
  have hids : IdsOrdered s.mergeTop.catalog.entries := hcat ▸ h.ids
  unfold State.mergeTop at hids hcommit ⊢
  split
  · rename_i f g fs hf
    have hdistinct := h.distinct
    rw [State.UndoDistinct, hf, List.forall_mem_cons, List.forall_mem_cons] at hdistinct
    obtain ⟨htop, hparent, hrest⟩ := hdistinct
    have hentry := h.entry
    rw [hf] at hentry
    refine idle h.ids ?_ hc ?_
    · rw [State.UndoDistinct, List.forall_mem_cons]
      exact ⟨merge_distinct htop hparent, hrest⟩
    · rw [State.ViewsRestorable, restoreFrames_agree_iff]
      exact fun e he => (Entry.Restorable.congr (framesPrior_merge f g fs _)).mpr (hentry e he)
  · exact h

theorem rollbackTop (h : s.Restorable) (hc : s.commit = none) : s.rollbackTop.Restorable := by
  unfold State.rollbackTop
  split
  · exact h
  · rename_i f fs hf
    have hdistinct := h.distinct
    rw [State.UndoDistinct, hf, List.forall_mem_cons] at hdistinct
    have hviews := h.views
    rw [State.ViewsRestorable, hf, restoreFrames] at hviews
    exact idle (idsOrdered_of_defns (restoreAll_defns _ _) h.ids) hdistinct.2 hc hviews

theorem rollbackMany (n : Nat) (h : s.Restorable) (hc : s.commit = none) : (State.rollbackMany n s).Restorable := by
  induction n generalizing s with
  | zero => exact h
  | succ n ih => exact ih (h.rollbackTop hc) (s.rollbackTop_besideStack.commit.mpr hc)

/-- Letting the owner go touches neither frames nor values. -/
theorem dropOwner (h : s.Restorable) : s.dropOwner.Restorable := by
  refine h.same (by rw [State.dropOwner_stack]) (by rw [State.dropOwner_catalog]) fun c hc => ⟨c, ?_, rfl⟩
  rwa [(State.dropOwner_same s).2.2] at hc

theorem releaseAtZero (h : s.Restorable) : s.releaseAtZero.Restorable := by
  unfold State.releaseAtZero
  split
  · exact h.dropOwner.same rfl rfl fun c hc => ⟨c, hc, rfl⟩
  · exact h

theorem addDefinition (h : s.Restorable) (d : Definition) (hf : s.stack.frames = []) (hc : s.commit = none) :
    (s.addDefinition d).Restorable := by
  have hviews := h.views
  rw [State.ViewsRestorable, hf] at hviews
  refine unstaged (insertEntry_idsOrdered _ h.ids) hf hc fun e he => ?_
  rcases mem_insertEntry he with rfl | he
  · rfl
  · exact hviews e he

theorem atDefaults_agree {es : List Entry} : ∀ e ∈ atDefaults es, e.working = e.committed := by
  intro e he
  obtain ⟨x, -, rfl⟩ := List.mem_map.mp he
  rfl

theorem commitDurable {c : InFlight} (h : s.Restorable) (hs : s.Sound) (hc : s.commit = some c) :
    (s.changesTold c).releaseAtZero.Restorable := by
  obtain ⟨hdepth, -⟩ := hs.rights.commit c hc
  obtain ⟨f, hf⟩ := List.length_eq_one_iff.mp (show s.stack.frames.length = 1 from hdepth)
  have hstack : (s.changesTold c).stack.frames = [] := by simp [State.changesTold, State.madeDurable, Stack.freeTop, hf]
  have hentries : (s.changesTold c).catalog.entries = applyCommit s.catalog.entries c.changes := by
    simp [State.changesTold, State.madeDurable]
  have hchanges : c.changes = (s.catalog.entries.filter (fun e => f.undo.any (fun u => u.id == e.defn.id) && e.staged)).map
      Entry.change := by
    rw [h.changes c hc, State.changedEntries]
    simp only [State.recorded, hf]
  refine releaseAtZero (unstaged ?_ hstack (by simp [State.changesTold, State.madeDurable]) ?_)
  · rw [hentries]
    exact idsOrdered_of_defns (applyCommit_defns _ _) h.ids
  · rw [hentries, hchanges]
    exact applyCommit_agrees h.ids (hf ▸ h.entry)

theorem catalogEnds (h : s.Restorable) (hs : s.Sound) (hw : s.catalog.state.Rewrites) (hk : t.stack = s.stack)
    (hc : t.commit = s.commit) (he : t.catalog.entries = s.catalog.entries ∨ t.catalog.entries = atDefaults s.catalog.entries) :
    t.Restorable := by
  have hunused := hs.rights.unused hw.not_sealed
  have hframes : s.stack.frames = [] := KeptByCommands.frames_nil hs hunused.owner
  have hviews := h.views
  rw [State.ViewsRestorable, hframes] at hviews
  rcases he with he | he
  · exact unstaged (he ▸ h.ids) (by rw [hk, hframes]) (hc.trans hunused.commit) (he ▸ hviews)
  · refine unstaged ?_ (by rw [hk, hframes]) (hc.trans hunused.commit) (he ▸ atDefaults_agree)
    rw [he]
    exact idsOrdered_of_defns (atDefaults_defns _) h.ids

end State.Restorable

theorem keptByWork_restorable : KeptByWork True State.Restorable where
  beside h _ hk he _ _ hc := h.same (congrArg Stack.frames hk) he fun c htc => ⟨c, hc ▸ htc, rfl⟩
  commitEnds h := h.same rfl rfl nofun
  store h _ _ := h.same rfl rfl fun c hc => ⟨c, hc, rfl⟩
  durable h hs hc := h.commitDurable (hs trivial) hc
  catalogEnds h hs hw _ _ hk hc _ he := h.catalogEnds (hs trivial) (hw trivial) hk hc he

/-- The record of an accepted COMMIT holds the changes as they stand (R56). -/
theorem State.Restorable.handOver {s : State} (h : s.Restorable) (p : Port) (q : Byte) (run : Bool) :
    (s.handOver p q run).Restorable := by
  have hframes : (s.handOver p q run).stack = s.stack := by simp [State.handOver]
  have hcat : (s.handOver p q run).catalog = s.catalog := by simp [State.handOver]
  have hcommit : (s.handOver p q run).commit = some (s.inFlightRecord p q run) := by simp [State.handOver]
  refine ⟨hcat ▸ h.ids, by rw [State.UndoDistinct, hframes]; exact h.distinct, fun c hc => ?_,
    by rw [State.ViewsRestorable, hframes, hcat]; exact h.views⟩
  cases hcommit.symm.trans hc
  simp only [State.changedEntries, State.recorded, hframes, hcat, State.inFlightRecord]

theorem keptByCommands_restorable : KeptByCommands True State.Restorable State.Restorable where
  toKeptByWork := keptByWork_restorable
  done h := h
  suppress {s} p h := h.same rfl rfl fun c hc => by
    obtain ⟨d, hd, hdc⟩ := Option.map_eq_some_iff.mp hc
    refine ⟨d, hd, ?_⟩
    rw [← hdc]
    split <;> rfl
  push p label h hc := h.pushFrame p label (hc trivial)
  stage i v h hc hf := h.stage i v (hc trivial) (hf trivial)
  merge h hc := h.mergeTop (hc trivial)
  pop h hc := (h.rollbackTop (hc trivial)).releaseAtZero
  popAll h hc := (h.rollbackMany _ (hc trivial)).dropOwner
  commits p q run h _ := keptByWork_restorable.choose (keptByWork_restorable.requestRoom (h.handOver p q run))
  define d h hf hc _ := h.addDefinition d (hf trivial) (hc trivial)
  seals h _ _ hk hc _ he := h.same (congrArg Stack.frames hk) he fun c htc => ⟨c, hc ▸ htc, rfl⟩
  wipes h hf hc _ _ hk htc _ he := .empty he (by rw [hk, hf trivial]) (htc.trans (hc trivial))
  reset nv cause _ := .empty rfl rfl rfl

end Sys2Proof.Machine
end

section
/-! SUPPORT. What replay makes of the entries (R113, R114, R116), and with it that the commands that end a start state stage nothing. -/

namespace Sys2Proof.Machine

set_option Elab.async false

open Sys2Proof

/-! ### The entries along the walk -/

/-- What holds of the entries where the walk begins and is kept by each group that it applies holds where it ends. -/
theorem walkStep_entries {R : List Entry → Prop} (happly : ∀ es cs, R es → commitAgrees es cs = true → R (applyChanges es cs))
    (c : Cursor) {w : Walk} (h : R w.entries) : R (walkStep c w).1.entries := by
  unfold walkStep
  split
  · exact h
  · exact h
  · split
    · split
      · rename_i hgood
        rw [Bool.and_eq_true, Bool.and_eq_true] at hgood
        obtain ⟨⟨-, hagrees⟩, -⟩ := hgood
        exact happly _ _ h hagrees
      · rwa [faultAt_entries]
    · split
      · exact h
      · rwa [faultAt_entries]
    · rwa [faultAt_entries]
    · rwa [faultAt_entries]

theorem walk_entries {R : List Entry → Prop} (happly : ∀ es cs, R es → commitAgrees es cs = true → R (applyChanges es cs))
    (n : Nat) (c : Cursor) {w : Walk} (h : R w.entries) : R (walk n c w).entries := by
  induction n generalizing c w with
  | zero => exact h
  | succ n ih =>
    have hstep := walkStep_entries happly c h
    unfold walk
    split
    · rename_i heq
      rwa [heq] at hstep
    · rename_i heq
      rw [heq] at hstep
      exact ih _ hstep

theorem imagesInSector_agree {es : List Entry} {x : StreamSector} {rest : List StreamSector} {slots : List Slot} {im : ImageFound}
    (h : im ∈ imagesInSector es x rest slots) : imageAgrees es im.entries = true := by
  induction slots with
  | nil => cases h
  | cons m ms ih =>
    rw [imagesInSector, List.mem_append] at h
    rcases h with h | h
    · rw [Option.mem_toList] at h
      unfold imageAt at h
      split at h
      · obtain ⟨hgood, h⟩ := Option.ite_none_right_eq_some.mp h
        cases h
        rw [Bool.and_eq_true] at hgood
        exact hgood.2
      all_goals cases h
    · exact ih h

/-- An image that replay begins from agrees with the catalog (R113). -/
theorem newestImage_agrees {es : List Entry} {stream : List StreamSector} {im : ImageFound} (h : newestImage es stream = some im) :
    imageAgrees es im.entries = true := by
  have hmem : im ∈ images es stream := List.mem_of_getLast? h
  clear h
  induction stream with
  | nil => cases hmem
  | cons x rest ih =>
    rw [images, List.mem_append] at hmem
    exact hmem.elim imagesInSector_agree ih

/-! ### The entries of a replay -/

/-- The entry as replay leaves it: working equals committed, and without persistence it is at its default with version 0 (R116). -/
def Entry.Settled (e : Entry) : Prop :=
  ∃ l, e.live = some l ∧ l.working = l.committed ∧ (e.defn.persistent = false → l.committed = e.defn.default ∧ l.version = 0)

theorem Entry.Settled.agrees {e : Entry} (h : e.Settled) : e.working = e.committed := by
  obtain ⟨l, hl, hagree, -⟩ := h
  simpa [Entry.working, Entry.committed, hl] using hagree

theorem atDefaults_settled {es : List Entry} : ∀ e ∈ atDefaults es, e.Settled := by
  intro e he
  obtain ⟨x, -, rfl⟩ := List.mem_map.mp he
  exact ⟨_, rfl, rfl, fun _ => ⟨rfl, rfl⟩⟩

/-- Changes that agree with the catalog name persistent entries alone (R114). -/
theorem changeAgrees_persistent {es : List Entry} (hids : IdsOrdered es) {c : Change} (h : changeAgrees es c = true) {e : Entry}
    (he : e ∈ es) (hid : c.id = e.defn.id) : e.defn.persistent = true := by
  rw [changeAgrees, hid, hids.findEntry_mem he] at h
  exact ((Bool.and_eq_true _ _).mp h).1

theorem applyChanges_settled {es : List Entry} (hids : IdsOrdered es) (h : ∀ e ∈ es, e.Settled) {cs : List Change}
    (hagree : ∀ c ∈ cs, changeAgrees es c = true) : ∀ e ∈ applyChanges es cs, e.Settled := by
  intro e' he'
  obtain ⟨e, he, rfl⟩ := List.mem_map.mp he'
  split
  · rename_i c hc
    have hpersistent := changeAgrees_persistent hids (hagree c (List.mem_of_find?_eq_some hc)) he
      (by simpa using List.find?_some hc)
    exact ⟨_, rfl, rfl, fun hno => absurd (hpersistent.symm.trans hno) nofun⟩
  · exact h e he

theorem replay_settled (nv : NonVol) {es : List Entry} (hids : IdsOrdered es) : ∀ e ∈ (replay nv es).entries, e.Settled := by
  have hdefaults : IdsOrdered (atDefaults es) := idsOrdered_of_defns (atDefaults_defns _) hids
  unfold replay
  dsimp only
  split
  · exact atDefaults_settled
  · rename_i im him
    have himage := newestImage_agrees him
    rw [imageAgrees, Bool.and_eq_true, List.all_eq_true] at himage
    refine (walk_entries (R := fun es => IdsOrdered es ∧ ∀ e ∈ es, e.Settled) (fun es cs ⟨hids, h⟩ hcommit => ?_) _ _
      ⟨idsOrdered_of_defns (applyChanges_defns _ _) hdefaults, applyChanges_settled hdefaults atDefaults_settled himage.2⟩).2
    rw [commitAgrees, Bool.and_eq_true, List.all_eq_true] at hcommit
    exact ⟨idsOrdered_of_defns (applyChanges_defns _ _) hids, applyChanges_settled hids h hcommit.2⟩

/-! ### The ends of the start states -/

theorem mem_loaded {es : List Entry} {ds : List Definition} (hes : ∀ e ∈ es, e.live = none) :
    ∀ e ∈ ds.foldl (fun es d => insertEntry { defn := d, live := none } es) es, e.live = none := by
  induction ds generalizing es with
  | nil => exact hes
  | cons d ds ih => exact ih fun e he => (mem_insertEntry he).elim (fun h => by rw [h]) (hes e)

theorem Entry.agrees_of_dead {e : Entry} (h : e.live = none) : e.working = e.committed := by
  rw [Entry.working, Entry.committed, h]

variable {s t : State}

/-- Nobody owns anything before READY (R51). -/
theorem State.Sound.unowned_early (hs : s.Sound) (hr : s.ready = false) : s.stack.frames = [] ∧ s.commit = none := by
  have howner : s.rights.owner = none := by
    by_contra ho
    exact absurd ((hs.rights.owner ho).2.symm.trans hr) nofun
  exact ⟨KeptByCommands.frames_nil hs howner, hs.rights.commit_none_of_owner howner⟩

theorem State.Restorable.scanned (hs : s.Sound) (hr : s.ready = false) : s.scanned.Restorable := by
  obtain ⟨hframes, hcommit⟩ := hs.unowned_early hr
  unfold State.scanned
  split
  · exact .unstaged (Catalog.loaded_idsOrdered _) hframes hcommit fun e he =>
      Entry.agrees_of_dead (mem_loaded (fun _ h => absurd h List.not_mem_nil) e he)
  · exact .empty rfl hframes hcommit

theorem State.Restorable.replayed (h : s.Restorable) (hs : s.Sound) (hr : s.ready = false) : s.replayed.Restorable := by
  obtain ⟨hframes, hcommit⟩ := hs.unowned_early hr
  unfold State.replayed
  split
  · exact .unstaged (idsOrdered_of_defns (replay_defns _ _) h.ids) hframes hcommit
      fun e he => (replay_settled _ h.ids e he).agrees
  · exact h.same rfl rfl fun c hc => ⟨c, hc, rfl⟩

theorem exec_endsStart_restorable {c : Instr} (hstart : endsStart c = true) (h : s.Restorable) (hs : s.Sound)
    (hexec : exec c s = .next t) : t.Restorable := by
  have hearly {x : StartState} (hx : s.ctl.start = x) (hne : x ≠ .ready) : s.ready = false := by
    rw [← Bool.not_eq_true, State.ready_iff, hx]; exact hne
  cases c with
  | heldExit vdd => cases hexec; split; exacts [h.same rfl rfl fun c hc => ⟨c, hc, rfl⟩, h]
  | scanEnd => cases hexec; split; exacts [.scanned hs (hearly (x := .scanning) ‹_› nofun), h]
  | replayEnd => cases hexec; split; exacts [h.replayed hs (hearly (x := .replaying) ‹_› nofun), h]
  | cleanupEnd =>
    cases hexec
    split
    · exact keptByWork_restorable.choose (h.same rfl rfl fun c hc => ⟨c, hc, rfl⟩)
    · exact h
  | _ => cases hstart

/-- Settles O29: every single change keeps the values restorable, and so does every command. -/
theorem viewsAgreeAtDepthZero : Obligations.ViewsAgreeAtDepthZero := by
  refine ⟨fun s t hbound hcoherent hids hdistinct hchanges hviews hstep => ?_, fun s hviews hf => ?_⟩
  · have h : s.Restorable := ⟨hids, hdistinct, hchanges, hviews⟩
    suffices ht : t.Restorable from ⟨ht.distinct, ht.changes, ht.views⟩
    obtain ⟨-, rfl⟩ | ⟨c, rest, -, hexec⟩ := step_cases hstep
    · exact h
    · have hs : State.Sound { s with pending := rest } := ((State.sound_iff hbound).mp hcoherent).of_eq rfl rfl rfl
      have hrest : State.Restorable { s with pending := rest } := h.same rfl rfl fun c hc => ⟨c, hc, rfl⟩
      cases hstart : endsStart c with
      | true => exact exec_endsStart_restorable hstart hrest hs hexec
      | false => exact keptByCommands_restorable.exec c hrest (fun _ => hs) hexec hstart
  · rw [State.ViewsRestorable, hf] at hviews
    exact hviews

end Sys2Proof.Machine
end

section
/-! SUPPORT. The requests about the part as a whole, and what becomes of a request before its own checks (R105 to R109, R166 to R170, R182,
R185, R186). -/

namespace Sys2Proof.Machine

set_option Elab.async false

open Sys2Proof

/-! ### Nothing is taken without receiving (R109, R166) -/

theorem State.receives_eq_false_iff (s : State) (p : Port) :
    s.receives p = false ↔ s.ctl.start = .held ∨ (p = .B ∧ s.breakLow = true) := by
  rw [State.receives, Bool.and_eq_false_iff, bne_eq_false_iff_eq, Bool.not_eq_false', Bool.and_eq_true, beq_iff_eq]

theorem State.takeRequest_deaf {s : State} {p : Port} {q k : Byte} (next : State → State) (h : s.receives p = false) :
    s.takeRequest p q k next = s := by
  rw [State.takeRequest, h, if_neg Bool.false_ne_true]

theorem State.streamMessage_deaf {s : State} {p : Port} (next : State → State) (h : s.receives p = false) :
    s.streamMessage p next = s := by
  rw [State.streamMessage, h, if_neg Bool.false_ne_true]

/-- Settles O9: a request and a stream message enter only at a port that receives. -/
theorem nothingIsTakenWithoutReceiving : Obligations.NothingIsTakenWithoutReceiving := by
  refine ⟨fun p s => s.receives_eq_false_iff p, fun c p q k s hc hdeaf => ?_, fun p b s hdeaf => ?_⟩
  · obtain ⟨next, hexec⟩ := exec_request c p q k hc s
    rw [hexec, State.takeRequest_deaf next hdeaf]
  · have hstream (next : State → State) : Host.Outcome.next (s.streamMessage p next) =
        (.next s : Host.Outcome State Fault Refusal) := by rw [State.streamMessage_deaf next hdeaf]
    exact ⟨hstream _, hstream _, hstream _⟩

/-! ### The window, the cache and the room (R169, R170) -/

section

variable {x : PortState} {q k : Byte}

theorem PortState.hasRoom_iff : x.hasRoom = true ↔ x.outbound.length + x.outstanding.length ≤ 3 := decide_eq_true_iff

theorem PortState.not_outstanding (h : ∀ o ∈ x.outstanding, o.seq ≠ q) : x.outstanding.any (fun o => o.seq == q) = false := by
  simpa using h

theorem PortState.admission_cached {e : CacheEntry} (h : ∀ o ∈ x.outstanding, o.seq ≠ q) (hroom : x.hasRoom = true)
    (he : x.cache.find? (fun e => e.seq == q && e.kind == k) = some e) : x.admission q k = .fromCache e := by
  rw [PortState.admission, PortState.not_outstanding h, if_neg Bool.false_ne_true, he]
  exact if_pos hroom

theorem PortState.admission_windowFull (h : ∀ o ∈ x.outstanding, o.seq ≠ q) (hroom : x.hasRoom = true)
    (he : x.cache.find? (fun e => e.seq == q && e.kind == k) = none) (hfull : 2 ≤ x.outstanding.length) :
    x.admission q k = .windowFull := by
  rw [PortState.admission, PortState.not_outstanding h, if_neg Bool.false_ne_true, he]
  exact (if_pos hfull).trans (if_pos hroom)

theorem PortState.admission_noRoom (h : ∀ o ∈ x.outstanding, o.seq ≠ q) (hroom : x.hasRoom = false) : x.admission q k = .noRoom := by
  rw [PortState.admission, PortState.not_outstanding h, if_neg Bool.false_ne_true, hroom]
  split
  · rfl
  · split <;> rfl

end

section

variable {s : State} {p : Port} {q k : Byte} (next : State → State) (hr : s.receives p = true)
include hr

theorem State.takeRequest_cached {e : CacheEntry} (ha : (s.port p).admission q k = .fromCache e) : s.takeRequest p q k next =
    ((s.restartLease p).modPort p (fun x => x.place q e.body)).counting p (fun c => { c with cacheAnswers := bump c.cacheAnswers }) := by
  simp only [State.takeRequest, hr, if_true, PortState.admission_restart, ha]

theorem State.takeRequest_windowFull (ha : (s.port p).admission q k = .windowFull) : s.takeRequest p q k next =
    ((s.restartLease p).modPort p (fun x => x.place q (.refuse k .windowFull 0))).counting p
      (fun c => { c with windowFull := bump c.windowFull }) := by
  simp only [State.takeRequest, hr, if_true, PortState.admission_restart, ha]

theorem State.takeRequest_noRoom (ha : (s.port p).admission q k = .noRoom) : s.takeRequest p q k next =
    (s.restartLease p).counting p (fun c => { c with noRoom := bump c.noRoom }) := by
  simp only [State.takeRequest, hr, if_true, PortState.admission_restart, ha]

end

/-- Settles O6: the admission in its cases, each with what the Link Unit then does. -/
theorem requestsBeyondTheWindowAreTurnedAway : Obligations.RequestsBeyondTheWindowAreTurnedAway := by
  intro c p q k s hc hr hnew
  obtain ⟨next, hexec⟩ := exec_request c p q k hc s
  refine ⟨fun hroom => ⟨fun e he => ?_, fun he hfull => ?_⟩, fun hroom => ?_⟩
  · rw [hexec, State.takeRequest_cached next hr (PortState.admission_cached hnew (PortState.hasRoom_iff.mpr hroom) he),
      State.counting, State.restartLease, State.modPort_modPort, State.modPort_modPort]
    rfl
  · rw [hexec, State.takeRequest_windowFull next hr (PortState.admission_windowFull hnew (PortState.hasRoom_iff.mpr hroom) he hfull),
      State.counting, State.restartLease, State.modPort_modPort, State.modPort_modPort]
    rfl
  · have hnone : (s.port p).hasRoom = false := by rw [← Bool.not_eq_true, PortState.hasRoom_iff]; omega
    rw [hexec, State.takeRequest_noRoom next hr (PortState.admission_noRoom hnew hnone), State.counting, State.restartLease,
      State.modPort_modPort]

/-! ### Kind, form, start (R182 steps 4 to 6) -/

section

variable {α : Type} {s : State} {p : Port} {q k : Byte} {fields : Option α} (own : α → State → State) (hr : s.receives p = true)
  (ha : (s.port p).admission q k = .admitted)
include hr ha

theorem State.request_malformed (hf : fields.isSome = false) :
    s.request p q k fields own = s.answered p q k (.refuse k .malformed 0) false := by
  rw [Option.isSome_eq_false_iff, Option.isNone_iff_eq_none] at hf
  rw [State.request, State.takeRequest_admitted _ hr ha, hf]
  exact State.refuseUncached_admitted _ (PortState.admission_admitted_fresh ha)

theorem State.request_starting (hf : fields.isSome = true) (hstart : s.ctl.start ≠ .ready) :
    s.request p q k fields own = s.answered p q k (.refuse k .starting 0) false := by
  obtain ⟨a, rfl⟩ := Option.isSome_iff_exists.mp hf
  have hready : s.ready = false := by rw [← Bool.not_eq_true, State.ready_iff]; exact hstart
  simp only [State.request, State.takeRequest_admitted _ hr ha, State.checkRequest, State.ready_admitted, hready, Bool.false_eq_true,
    if_false]
  exact State.refuseUncached_admitted _ (PortState.admission_admitted_fresh ha)

end

/-- Settles O7: steps 4 to 6 of the common check order, one after another. -/
theorem kindAndFormComeBeforeStarting : Obligations.KindAndFormComeBeforeStarting := by
  refine ⟨fun p q k payload s hr ha => ?_, fun c p q k s hc hkind hr ha => ?_⟩
  · exact congrArg Host.Outcome.next ((State.takeRequest_admitted _ hr ha).trans
      (State.refuseUncached_admitted _ (PortState.admission_admitted_fresh ha)))
  · obtain ⟨α, fields, own, hexec, hfields⟩ := exec_namedRequest c p q k hc hkind s
    refine ⟨fun hno => ?_, fun hyes hstart => ?_⟩
    · rw [hexec, State.request_malformed own hr ha (hfields.trans hno)]
    · rw [hexec, State.request_starting own hr ha (hfields.trans hyes) hstart]

/-! ### DESCRIBE and STATUS (R185, R186) -/

/-- What the erase counts of the table that read are bounded by, and reach. -/
theorem Store.highestErase_bounds (st : Store) : (∀ x ∈ st.table, ∀ n, x.eraseCount = some n → n ≤ st.highestErase) ∧
    (st.highestErase = 0 ∨ ∃ x ∈ st.table, x.eraseCount = some st.highestErase) := by
  rw [Store.highestErase]
  suffices h : ∀ (l : List SectorRec) (m : Nat), m ≤ l.foldl (fun m x => max m (x.eraseCount.getD 0)) m ∧
      (∀ x ∈ l, ∀ n, x.eraseCount = some n → n ≤ l.foldl (fun m x => max m (x.eraseCount.getD 0)) m) ∧
      (l.foldl (fun m x => max m (x.eraseCount.getD 0)) m = m ∨
        ∃ x ∈ l, x.eraseCount = some (l.foldl (fun m x => max m (x.eraseCount.getD 0)) m)) from (h st.table 0).2
  intro l
  induction l with
  | nil => exact fun m => ⟨le_refl m, nofun, .inl rfl⟩
  | cons y ys ih =>
    intro m
    obtain ⟨hbase, hbound, hreach⟩ := ih (max m (y.eraseCount.getD 0))
    rw [List.foldl_cons]
    refine ⟨by omega, fun x hx n hn => ?_, ?_⟩
    · rcases List.mem_cons.mp hx with rfl | hx
      · rw [hn, Option.getD_some] at hbase ⊢
        omega
      · exact hbound x hx n hn
    · rcases hreach with hreach | ⟨x, hx, hcount⟩
      · rw [hreach]
        cases hy : y.eraseCount with
        | none => exact .inl (Nat.max_zero m)
        | some n =>
          rcases le_total n m with hn | hn
          · exact .inl (max_eq_left hn)
          · exact .inr ⟨y, List.mem_cons_self, by rw [hy, Option.getD_some, max_eq_right hn]⟩
      · exact .inr ⟨x, List.mem_cons_of_mem y hx, hcount⟩

theorem Store.count_eq (st : Store) (r : Role) : st.count r = (st.table.filter (fun x => decide (x.role = r))).length := rfl

/-- The admission of a request moves only the lease and the list of outstanding requests, of which STATUS reports nothing. -/
theorem State.statusRec_admitted (s : State) (p : Port) (q k : Byte) (run : Bool) :
    (s.admitted p q k).statusRec p run = s.statusRec p run := by
  cases p <;> rfl

theorem State.describeRec_admitted (s : State) (p : Port) (q k : Byte) : (s.admitted p q k).describeRec = s.describeRec := by
  cases p <;> rfl

/-- Settles O10: both requests pass every check and report the state as it stands. -/
theorem describeAndStatusOnlyReport : Obligations.DescribeAndStatusOnlyReport := by
  refine ⟨fun p q s h => ?_, fun p q run s h => ?_, fun p s => ?_⟩
  · have hown : exec (.describe p q []) s = .next ((s.admitted p q kDescribe).reply p q kDescribe
        (.describe (s.admitted p q kDescribe).describeRec)) := congrArg Host.Outcome.next (State.request_reaches _ h readEmpty_nil)
    rw [hown, State.describeRec_admitted, State.reply_admitted _ (PortState.admission_admitted_fresh h.2.1), State.describeRec]
  · have hown : exec (.status p q [] run) s = .next ((s.admitted p q kStatus).reply p q kStatus
        (.status ((s.admitted p q kStatus).statusRec p run))) := congrArg Host.Outcome.next (State.request_reaches _ h readEmpty_nil)
    obtain ⟨hbound, hreach⟩ := s.store.highestErase_bounds
    refine ⟨s.topLength, s.store.highestErase, fun hf => ?_, fun f fs hf => ?_, hbound, hreach, ?_⟩
    · rw [State.topLength, hf]
    · rw [State.topLength, hf]
    · rw [hown, State.statusRec_admitted, State.reply_admitted _ (PortState.admission_admitted_fresh h.2.1), State.statusRec]
      rfl
  · cases p
    · exact ⟨rfl, rfl⟩
    · exact ⟨s.permits_B_open (by decide), s.permits_B_open (by decide)⟩

/-! ### Resets (R105 to R107) -/

theorem State.resetTo_ramLost (s : State) (nv : NonVol) (cause : Option ResetCause) : (s.resetTo nv cause).RamLost :=
  ⟨rfl, rfl, rfl, rfl, rfl, rfl, rfl, rfl, rfl, rfl, rfl, PortState.reset_ramLost, PortState.reset_ramLost, rfl⟩

theorem State.arraySettled_admitted (s : State) (p : Port) (q k : Byte) (ok : Bool) :
    (s.admitted p q k).arraySettled ok = s.arraySettled ok := by
  cases p <;> rfl

theorem State.arraySettled_none {s : State} (h : s.store.arrayOp = .none) (ok : Bool) : s.arraySettled ok = s.nv := by
  rw [State.arraySettled, h]

theorem State.arraySettled_slot {s : State} {k : Nat} {c : Slot} (h : s.store.arrayOp = .slot k c) (ok : Bool) :
    s.arraySettled ok = s.nv.appendSlot k (if ok then c else .damaged) := by
  rw [State.arraySettled, h]

/-- Settles O13: RESTART reaches the reset with the array settled. -/
theorem restartIsACommandReset : Obligations.RestartIsACommandReset := by
  intro q ok s h
  refine ⟨_, congrArg Host.Outcome.next (State.request_reaches _ h readEmpty_nil), State.resetTo_ramLost _ _ _, rfl,
    s.arraySettled_admitted _ _ _ ok, fun hop => ?_, fun k c hop => ?_⟩
  · exact (s.arraySettled_admitted _ _ _ ok).trans (State.arraySettled_none hop ok)
  · exact (s.arraySettled_admitted _ _ _ ok).trans (State.arraySettled_slot hop ok)

theorem State.arrayCut_none {s : State} (h : s.store.arrayOp = .none) : s.arrayCut = s.nv := by rw [State.arrayCut, h]

theorem State.arrayCut_slot {s : State} {k : Nat} {c : Slot} (h : s.store.arrayOp = .slot k c) :
    s.arrayCut = s.nv.appendSlot k .damaged := by
  rw [State.arrayCut, h]
  exact State.arraySettled_slot h false

theorem State.arrayCut_header {s : State} {k g : Nat} {flag : Bool} (h : s.store.arrayOp = .header k g flag) :
    s.arrayCut = s.nv.programHeader k .torn flag := by
  rw [State.arrayCut, h]
  dsimp only
  rw [State.arraySettled, h]
  rfl

/-- A reset that cuts the array's operation (R105). -/
theorem State.resetTo_arrayCut (s : State) (cause : Option ResetCause) : ∃ t, s.resetTo s.arrayCut cause = t ∧ t.RamLost ∧
    t.ctl.cause = cause ∧ (s.store.arrayOp = .none → t.nv = s.nv) ∧
    (∀ k d, s.store.arrayOp = .slot k d → t.nv = s.nv.appendSlot k .damaged) ∧
    (∀ k g flag, s.store.arrayOp = .header k g flag → t.nv = s.nv.programHeader k .torn flag) :=
  ⟨_, rfl, s.resetTo_ramLost _ _, rfl, State.arrayCut_none, fun _ _ => State.arrayCut_slot, fun _ _ _ => State.arrayCut_header⟩

theorem State.recordedCause_lost {s : State} (h : s.ctl.start = .held ∧ s.ctl.cause = none) (c : ResetCause) :
    s.recordedCause c = none := if_pos h

theorem State.recordedCause_some {s : State} (h : ¬ (s.ctl.start = .held ∧ s.ctl.cause = none)) (c : ResetCause) :
    s.recordedCause c = some c := if_neg h

/-- Settles O14: the three resets are one reset with the cause each of them records. -/
theorem resetsLoseTheRam : Obligations.ResetsLoseTheRam := by
  intro s c cause hcause
  suffices h : exec c s = .next (s.resetTo s.arrayCut cause) by
    obtain ⟨t, ht, hlost⟩ := s.resetTo_arrayCut cause
    exact ⟨t, h.trans (congrArg Host.Outcome.next ht), hlost⟩
  rcases hcause with ⟨rfl, rfl, hkept⟩ | ⟨rfl, rfl, hkept⟩ | ⟨rfl | rfl, rfl, hlost⟩ | ⟨rfl, rfl⟩
  · rw [← State.recordedCause_some hkept .brownOut]; rfl
  · rw [← State.recordedCause_some hkept .pin]; rfl
  · rw [← State.recordedCause_lost hlost .brownOut]; rfl
  · rw [← State.recordedCause_lost hlost .pin]; rfl
  · rfl

end Sys2Proof.Machine
end

section
/-! SUPPORT. LINK_RESET and the break (R147, R166, R176, R177). -/

namespace Sys2Proof.Machine

set_option Elab.async false

open Sys2Proof

/-! ### An active transfer that ends from outside (R147) -/

section

variable {s : State} {p : Port} (e : BulkEnd)

theorem State.endBulk_inactive (h : (s.port p).bulk.active = false) : s.endBulk p e = s := by
  unfold State.endBulk
  split
  all_goals first | rfl | (rename_i hbulk; rw [hbulk] at h; cases h)

theorem State.endBulk_read {c : ReadCtx} (h : (s.port p).bulk = .reading c ∨ (s.port p).bulk = .paused c) :
    s.endBulk p e = s.closeBulk p (c.done e s.store.durable) := by
  rcases h with h | h <;> rw [State.endBulk, h]

theorem State.endBulk_write {w : WriteCtx} (h : (s.port p).bulk = .writing w) :
    s.endBulk p e = s.rollbackFrame.closeBulk p (w.done e false s.store.durable) := by
  rw [State.endBulk, h]

end

/-- The fields of the BULK_DONE of a read that was stopped (R133). -/
theorem ReadCtx.done_fields (c : ReadCtx) (e : BulkEnd) (n : Nat) : (c.done e n).kind = .read ∧ (c.done e n).ending = e ∧
    (c.done e n).blocks = c.next ∧ (c.done e n).items = c.sent ∧ (c.done e n).firstNumber = c.firstNumber.getD n ∧
    (c.done e n).lastNumber = c.lastNumber.getD n ∧
    (c.done e n).torn = decide ((c.done e n).firstNumber ≠ (c.done e n).lastNumber) ∧ (c.done e n).firstError = none := by
  refine ⟨rfl, rfl, rfl, rfl, rfl, rfl, ?_, rfl⟩
  rw [ReadCtx.done, tornFlag, Bool.eq_iff_iff, bne_iff_ne]
  exact decide_eq_true_iff.symm

/-! ### What a LINK_RESET does once the transfer has ended (R176) -/

/-- The port as a LINK_RESET leaves it, but for its queue (R176). -/
def PortState.unlinked (x : PortState) : PortState :=
  { x with rx := .hunt, outstanding := [], cache := [], outbound := [], outCount := 0, nextGrant := .bulk, outPos := 0 }

section

variable (s : State) (p : Port) (q : Byte)

theorem State.linkReset_port : (s.linkReset p q).port p =
    ((s.endBulk p .linkReset).port p).purged q (s.endBulk p .linkReset).resyncRec := by
  cases p <;> rfl

theorem State.linkReset_port_other : (s.linkReset p q).port (otherPort p) = (s.endBulk p .linkReset).port (otherPort p) := by
  cases p <;> rfl

/-- A LINK_RESET leaves all but the ports, the commit's reply and the request owed an answer as the end of the transfer did. -/
theorem State.linkReset_elsewhere : (s.linkReset p q).commit =
      (s.endBulk p .linkReset).commit.map (fun c => if c.port = p then { c with suppressed := true } else c) ∧
    (s.linkReset p q).catalog = (if p = .A then { (s.endBulk p .linkReset).catalog with request := none }
      else (s.endBulk p .linkReset).catalog) ∧
    (s.linkReset p q).stack = (s.endBulk p .linkReset).stack ∧ (s.linkReset p q).store = (s.endBulk p .linkReset).store ∧
    (s.linkReset p q).nv = (s.endBulk p .linkReset).nv ∧ (s.linkReset p q).ctl = (s.endBulk p .linkReset).ctl ∧
    (s.linkReset p q).breakLow = (s.endBulk p .linkReset).breakLow ∧
    (s.linkReset p q).rateInUse = (s.endBulk p .linkReset).rateInUse := by
  cases p <;> exact ⟨rfl, rfl, rfl, rfl, rfl, rfl, rfl, rfl⟩

end

theorem exec_linkReset_reaches {p : Port} {q : Byte} {s : State} (h : s.Reaches p q kLinkReset) :
    exec (.linkReset p q []) s = .next ((s.admitted p q kLinkReset).linkReset p q) :=
  congrArg Host.Outcome.next (State.request_reaches _ h readEmpty_nil)

/-- The admitted request is among what the LINK_RESET purges; only the restarted lease is left of its arrival. -/
theorem PortState.purged_admitted (x : PortState) (period : Nat) (q kind : Byte) (r : ResyncRec) :
    (x.admitted period q kind).purged q r = ({ x with lease := x.lease.restarted period } : PortState).purged q r := rfl

/-! ### A rollback and the pins -/

theorem State.dropOwner_pins (s : State) : s.dropOwner.breakLow = s.breakLow ∧ s.dropOwner.rateInUse = s.rateInUse := by
  unfold State.dropOwner
  split
  · exact ⟨rfl, rfl⟩
  · simp

theorem State.rollbackTop_pins (s : State) : s.rollbackTop.breakLow = s.breakLow ∧ s.rollbackTop.rateInUse = s.rateInUse := by
  unfold State.rollbackTop
  split <;> exact ⟨rfl, rfl⟩

theorem State.rollbackFrame_pins (s : State) : s.rollbackFrame.breakLow = s.breakLow ∧ s.rollbackFrame.rateInUse = s.rateInUse := by
  obtain ⟨hbreak, hrate⟩ := s.rollbackTop_pins
  unfold State.rollbackFrame State.releaseAtZero
  split
  · obtain ⟨hb, hr⟩ := s.rollbackTop.dropOwner_pins
    exact ⟨hb.trans hbreak, hr.trans hrate⟩
  · exact ⟨hbreak, hrate⟩

/-! ### LINK_RESET -/

/-- The port after a LINK_RESET has stopped its read, if it has one (R147). -/
def PortState.readEnded (x : PortState) (durable : Nat) : PortState :=
  match x.bulk with
  | .reading c => { x with bulk := .closing (c.done .linkReset durable), lastDone := some (c.done .linkReset durable) }
  | .paused c => { x with bulk := .closing (c.done .linkReset durable), lastDone := some (c.done .linkReset durable) }
  | .idle => x
  | .writing _ => x
  | .closing _ => x

theorem PortState.readEnded_inactive {x : PortState} (durable : Nat) (h : x.bulk.active = false) : x.readEnded durable = x := by
  unfold PortState.readEnded
  split
  all_goals first | rfl | (rename_i hbulk; rw [hbulk] at h; cases h)

theorem PortState.readEnded_read {x : PortState} {c : ReadCtx} (durable : Nat) (h : x.bulk = .reading c ∨ x.bulk = .paused c) :
    x.readEnded durable =
      { x with bulk := .closing (c.done .linkReset durable), lastDone := some (c.done .linkReset durable) } := by
  rcases h with h | h <;> rw [PortState.readEnded, h]

/-- The admitted request is among what is purged; only the restarted lease is left of its arrival. -/
theorem PortState.readEnded_admitted_purged (x : PortState) (period : Nat) (q kind : Byte) (durable : Nat) (r : ResyncRec) :
    ((x.admitted period q kind).readEnded durable).purged q r =
      (({ x with lease := x.lease.restarted period } : PortState).readEnded durable).purged q r := by
  obtain ⟨_, _, _, _, _, _, _, _, bulk, _, _, _, _, _, _⟩ := x
  cases bulk <;> rfl

theorem State.endBulk_noWrite {s : State} {p : Port} (h : ∀ w, (s.port p).bulk ≠ .writing w) :
    s.endBulk p .linkReset = s.modPort p (fun x => x.readEnded s.store.durable) := by
  have hself (hno : (s.port p).bulk.active = false) : s.endBulk p .linkReset = s.modPort p (fun x => x.readEnded s.store.durable) := by
    rw [State.endBulk_inactive _ hno, State.modPort, PortState.readEnded_inactive _ hno]
    cases p <;> rfl
  have hread {c : ReadCtx} (hc : (s.port p).bulk = .reading c ∨ (s.port p).bulk = .paused c) :
      s.endBulk p .linkReset = s.modPort p (fun x => x.readEnded s.store.durable) := by
    rw [State.endBulk_read _ hc, State.closeBulk, State.modPort, State.modPort, PortState.readEnded_read _ hc]
  cases hctx : (s.port p).bulk with
  | writing w => exact absurd hctx (h w)
  | idle => exact hself (by rw [hctx]; rfl)
  | closing d => exact hself (by rw [hctx]; rfl)
  | reading c => exact hread (.inl hctx)
  | paused c => exact hread (.inr hctx)

/-- Settles O11: the transfer ends first, and what is left of the port is purged. -/
theorem linkResetClearsItsPort : Obligations.LinkResetClearsItsPort := by
  intro p q s h
  have hexec := exec_linkReset_reaches h
  have hport := State.linkReset_port (s.admitted p q kLinkReset) p q
  have hother := State.linkReset_port_other (s.admitted p q kLinkReset) p q
  obtain ⟨hcommit, hcatalog, hstack, hstore, hnv, hctl, hbreak, hrate⟩ := State.linkReset_elsewhere (s.admitted p q kLinkReset) p q
  refine ⟨fun hnowrite => ?_, fun w f fs hw hf howner => ?_⟩
  · have hbulk : ((s.admitted p q kLinkReset).port p).bulk = (s.port p).bulk := State.bulk_admitted s p q kLinkReset
    have hend := State.endBulk_noWrite (fun w hw => hnowrite w (hbulk.symm.trans hw))
    rw [hend] at hport hother hcommit hcatalog hstack hstore hnv hctl hbreak hrate
    refine ⟨_, s.resyncRec, ({ s.port p with lease := (s.port p).lease.restarted (s.leasePeriod p) } : PortState).readEnded
      s.store.durable, hexec, ?_, rfl, fun hno => PortState.readEnded_inactive _ hno, fun c hc => ?_, ?_, ?_, ?_, ?_, ?_, ?_, ?_, ?_, ?_⟩
    · have hresync (g : PortState → PortState) : ((s.admitted p q kLinkReset).modPort p g).resyncRec = s.resyncRec := by
        cases p <;> rfl
      rw [hport, State.port_modPort_self, hresync, State.admitted_store, State.admitted, State.port_modPort_self,
        PortState.readEnded_admitted_purged]
      rfl
    · obtain ⟨hkind, hending, hblocks, hitems, hfirst, hlast, htorn, herr⟩ := c.done_fields .linkReset s.store.durable
      exact ⟨_, hkind, hending, hblocks, hitems, hfirst, hlast, htorn, herr, PortState.readEnded_read _ hc⟩
    · rw [hother]
      cases p <;> rfl
    · rw [hcommit]; simp
    · rw [hcatalog]; simp
    · rw [hstack]; simp
    · rw [hstore]; simp
    · rw [hnv]; simp
    · rw [hctl]; simp
    · rw [hbreak]; cases p <;> rfl
    · rw [hrate]; cases p <;> rfl
  · have hbulk : ((s.admitted p q kLinkReset).port p).bulk = .writing w := (State.bulk_admitted s p q kLinkReset).trans hw
    have hf' : (s.admitted p q kLinkReset).stack.frames = f :: fs := by simpa using hf
    have ho' : (s.admitted p q kLinkReset).stack.owner = some p := by simpa using howner
    rw [State.endBulk_write _ hbulk] at hport hother hcommit hcatalog hstack hstore hnv hctl hbreak hrate
    have hrstack := State.rollbackFrame_stack hf' ho'
    have hrcat := State.rollbackFrame_catalog hf' ho'
    obtain ⟨hrcommit, hrstore, hrnv, hrctl⟩ := State.rollbackFrame_elsewhere hf' ho'
    obtain ⟨hrbreak, hrrate⟩ := State.rollbackFrame_pins (s.admitted p q kLinkReset)
    have hresync : ((s.admitted p q kLinkReset).rollbackFrame.closeBulk p (w.done .linkReset false
        (s.admitted p q kLinkReset).store.durable)).resyncRec =
        { durable := s.store.durable, depth := fs.length, owner := if fs = [] then none else some p,
          catState := s.catalog.state, mode := s.store.mode, supply := s.ctl.supply } := by
      simp [State.resyncRec, State.closeBulk, State.depth, hrstack, hrstore, hrcat, hrctl]
    rw [State.closeBulk_port, hresync, State.admitted_store] at hport
    rw [State.closeBulk_port_other] at hother
    have hcat : ((s.admitted p q kLinkReset).linkReset p q).catalog = { s.catalog with
        entries := restoreAll f.undo s.catalog.entries, request := if p = .A then none else s.catalog.request } := by
      rw [hcatalog, State.closeBulk, State.modPort_catalog, hrcat, State.admitted_catalog]
      split <;> rfl
    have hlast (hfs : fs = []) := State.rollbackFrame_port_last hf' ho' hfs
    have habove (hfs : fs ≠ []) (r : Port) := State.rollbackFrame_port_above hf' hfs r
    refine ⟨_, _, _, if fs = [] then ({ s.port p with lease := .stopped } : PortState).takeNotice (.ownerChanged none)
      else { s.port p with lease := (s.port p).lease.restarted (s.leasePeriod p) }, hexec, ?_, rfl, rfl, fun hfs => ?_, fun hfs => ?_,
      ?_, ?_, ?_, ?_, ?_, ?_, ?_, ?_, ?_, ?_, ?_, ?_⟩
    · rw [hport]
      split
      · rename_i hfs
        rw [(hlast hfs).1, PortState.takeNotice_eq, PortState.takeNotice_eq]
        cases p <;> rfl
      · rename_i hfs
        rw [habove hfs]
        cases p <;> rfl
    · rw [if_pos hfs, hother, (hlast hfs).2]
      exact ⟨rfl, by cases p <;> rfl⟩
    · rw [if_neg hfs, hother, habove hfs]
      exact ⟨rfl, by cases p <;> rfl⟩
    · rw [hstack, State.closeBulk, State.modPort_stack, hrstack]; simp
    · rw [hcat]
    · rw [hcat]
    · rw [hcat]
    · rw [hcat]
    · rw [hcat]
    · rw [hcommit, State.closeBulk, State.modPort_commit, hrcommit, State.admitted_commit]
    · rw [hstore, State.closeBulk, State.modPort_store, hrstore, State.admitted_store]
    · rw [hnv, State.closeBulk, State.modPort_nv, hrnv, State.admitted_nv]
    · rw [hctl, State.closeBulk, State.modPort_ctl, hrctl, State.admitted_ctl]
    · rw [hbreak, State.closeBulk, State.modPort_breakLow, hrbreak, State.admitted, State.modPort_breakLow]
    · rw [hrate, State.closeBulk, State.modPort_rateInUse, hrrate, State.admitted, State.modPort_rateInUse]

/-! ### The break (R166) -/

/-- Port B and the break where a break is taken: the line is low and the break counted. -/
def State.breakTaken (s : State) : State :=
  { s with breakLow := true, portB := { s.portB with counters := { s.portB.counters with breaks := bump s.portB.counters.breaks } } }

theorem exec_breakStart_taken {s : State} (hstart : s.ctl.start = .ready) (hlow : s.breakLow = false) :
    exec .breakStart s = .next (s.breakTaken.linkReset .B 0) := by
  have hready : s.ready = true := s.ready_iff.mpr hstart
  exact congrArg Host.Outcome.next (if_pos (by rw [hready, hlow]; rfl))

theorem State.noticeBoth_eq (s : State) (n : Notice) :
    s.noticeBoth n = { s with portA := s.portA.takeNotice n, portB := s.portB.takeNotice n } := rfl

/-- Settles O12: a break is a LINK_RESET of port B without a request, over the same ends of a transfer. -/
theorem breakResetsPortB : Obligations.BreakResetsPortB := by
  refine ⟨fun s hstart hlow => ⟨fun hno => ?_, fun c hc => ?_, fun w f fs hw hf howner => ?_⟩, fun s hno => ?_, fun s => rfl⟩
  · have hended : s.breakTaken.endBulk .B .linkReset = s.breakTaken := State.endBulk_inactive _ hno
    rw [exec_breakStart_taken hstart hlow, State.linkReset, hended]
    rfl
  · have hended : s.breakTaken.endBulk .B .linkReset = _ := State.endBulk_read .linkReset hc
    obtain ⟨hkind, hending, hblocks, hitems, hfirst, hlast, htorn, herr⟩ := c.done_fields .linkReset s.store.durable
    refine ⟨_, hkind, hending, hblocks, hitems, hfirst, hlast, htorn, herr, ?_⟩
    rw [exec_breakStart_taken hstart hlow, State.linkReset, hended]
    rfl
  · have hended : s.breakTaken.endBulk .B .linkReset = _ := State.endBulk_write .linkReset hw
    refine ⟨_, _, rfl, rfl, ?_⟩
    rw [exec_breakStart_taken hstart hlow, State.linkReset, hended]
    by_cases hfs : fs = []
    · subst hfs
      rw [State.rollbackFrame_last (s := s.breakTaken) hf howner, State.noticeBoth_eq]
      simp only [if_true, PortState.takeNotice_eq]
      rfl
    · rw [State.rollbackFrame_above (s := s.breakTaken) hf hfs, State.rollbackTop_cons (s := s.breakTaken) hf]
      simp only [if_neg hfs, ← howner]
      rfl
  · refine congrArg Host.Outcome.next (if_neg fun htaken => ?_)
    rw [Bool.and_eq_true, State.ready_iff, Bool.not_eq_true'] at htaken
    obtain ⟨hready, hlow⟩ := htaken
    exact hno.elim (fun h => h hready) fun h => absurd (h.symm.trans hlow) nofun

end Sys2Proof.Machine
end

section
/-! SUPPORT. What the part places by itself, the stream messages, sending, ABANDON and the expiry of a lease (R48, R49, R73, R74, R127 to
R140, R154, R155, R163 to R165). -/

namespace Sys2Proof.Machine

set_option Elab.async false

open Sys2Proof

/-! ### BLOCK (R137, R149) -/

section

variable {s : State} {p : Port} {payload : List Byte}

theorem exec_block_receives (h : s.receives p = true) : exec (.block p payload) s = .next ((s.restartLease p).takeBlock p payload) :=
  congrArg Host.Outcome.next (State.streamMessage_receives h _)

theorem State.takeBlock_writing {b : Block} {w : WriteCtx} (hb : readBlock payload = some b) (hw : (s.port p).bulk = .writing w) :
    s.takeBlock p payload = s.setBulk p (.writing (w.arrive b)) := by
  rw [State.takeBlock, hb, hw]

theorem State.takeBlock_stray (h : readBlock payload = none ∨ ∀ w, (s.port p).bulk ≠ .writing w) :
    s.takeBlock p payload = s.stray p := by
  unfold State.takeBlock
  split
  · rename_i b w hb hw
    exact h.elim (fun hno => absurd (hb.symm.trans hno) nofun) fun hno => absurd hw (hno w)
  · rfl

/-- The arrival restarts the lease, and the context changes in the same event (R71). -/
theorem State.setBulk_restartLease (s : State) (p : Port) (c : BulkCtx) : (s.restartLease p).setBulk p c =
    s.modPort p (fun x => { x with lease := x.lease.restarted (s.leasePeriod p), bulk := c }) := by
  cases p <;> rfl

end

theorem WriteCtx.arrive_credit {w : WriteCtx} (b : Block) (h : 1 ≤ w.creditsOpen) : w.arrive b =
    { w with received := w.received + 1, creditsOpen := w.creditsOpen - 1, buffer := w.buffer ++ [b] } := if_pos h

theorem WriteCtx.arrive_overrun {w : WriteCtx} (b : Block) (h : w.creditsOpen = 0) : w.arrive b =
    { w with
      received := w.received + 1
      firstError := some (w.firstError.getD { error := .overrun, block := b.index, item := 0 }) } := by
  rw [WriteCtx.arrive, if_neg (by omega)]
  cases w.firstError <;> rfl

/-- Settles O43: the header, the context and the credits decide. -/
theorem blockUsesACreditOrIsStray : Obligations.BlockUsesACreditOrIsStray := by
  intro p payload s h
  have hbulk := s.bulk_restartLease p
  refine ⟨fun b w hb hw hcredit => ?_, fun b w hb hw hnone => ?_, fun hstray => ?_⟩
  · rw [exec_block_receives h, State.takeBlock_writing hb (hbulk.trans hw), State.setBulk_restartLease, WriteCtx.arrive_credit b hcredit]
  · rw [exec_block_receives h, State.takeBlock_writing hb (hbulk.trans hw), State.setBulk_restartLease, WriteCtx.arrive_overrun b hnone]
  · rw [exec_block_receives h, State.takeBlock_stray (hstray.imp_right fun hno w hw => hno w (hbulk.symm.trans hw)), State.stray,
      State.counting, State.restartLease, State.modPort_modPort]

/-! ### The grant of a place (R128, R173) -/

section

variable {x : PortState}

theorem PortState.noticeWaits_iff : x.noticeWaits = true ↔ x.notices ≠ [] := by
  rw [PortState.noticeWaits, Bool.not_eq_true', ← Bool.not_eq_true, List.isEmpty_iff]

theorem PortState.grantsBulk_of (hroom : x.outbound.length ≤ 1) (hwaits : x.bulk.waits = true)
    (hturn : x.notices = [] ∨ x.nextGrant = .bulk) : x.grantsBulk = true := by
  rw [PortState.grantsBulk, hwaits, PortState.canPlace, decide_eq_true hroom, Bool.and_self, Bool.true_and, Bool.or_eq_true,
    Bool.not_eq_true', ← Bool.not_eq_true, PortState.noticeWaits_iff, not_not, beq_iff_eq]
  exact hturn

theorem PortState.grantsNotice_of (hroom : x.outbound.length ≤ 1) (hwaits : x.notices ≠ [])
    (hturn : x.bulk.waits = false ∨ x.nextGrant = .notice) : x.grantsNotice = true := by
  rw [PortState.grantsNotice, PortState.noticeWaits_iff.mpr hwaits, PortState.canPlace, decide_eq_true hroom, Bool.and_self,
    Bool.true_and, Bool.or_eq_true, Bool.not_eq_true', beq_iff_eq]
  exact hturn

/-- A place of the Bulk Engine's was contested exactly where notices wait. -/
theorem PortState.afterGrant_bulk (hwaits : x.bulk.waits = true) (next : Source) :
    x.afterGrant next = if x.notices = [] then x.nextGrant else next := by
  rw [PortState.afterGrant, PortState.contested, hwaits, Bool.true_and]
  by_cases h : x.notices = []
  · rw [if_pos h, if_neg (by rw [PortState.noticeWaits_iff, not_not]; exact h)]
  · rw [if_neg h, if_pos (PortState.noticeWaits_iff.mpr h)]

theorem PortState.afterGrant_notice (hwaits : x.notices ≠ []) (next : Source) :
    x.afterGrant next = if x.bulk.waits = true then next else x.nextGrant := by
  rw [PortState.afterGrant, PortState.contested, PortState.noticeWaits_iff.mpr hwaits, Bool.and_true]

theorem PortState.placeBulk_eq (hwaits : x.bulk.waits = true) (b : Body) : x.placeBulk b =
    { x with
      outbound := x.outbound ++ [{ seq := BitVec.ofNat 8 x.outCount, body := b }]
      outCount := (x.outCount + 1) % 256
      nextGrant := if x.notices = [] then x.nextGrant else .notice } := by
  rw [← PortState.afterGrant_bulk hwaits]
  rfl

end

/-- A change of a port matters at that port alone. -/
theorem State.modPort_congr {s : State} {p : Port} {f g : PortState → PortState} (h : f (s.port p) = g (s.port p)) :
    s.modPort p f = s.modPort p g := by
  rw [State.modPort, State.modPort, h]

/-! ### DATA, CREDIT and BULK_DONE (R127, R131, R133, R140) -/

/-- A read has a block left to place exactly where its items reach into it. -/
theorem ReadCtx.next_lt_blocks_iff (r : ReadCtx) (n : Nat) : n < r.blocks ↔ 16 * n < r.items.length := by
  rw [ReadCtx.blocks]
  omega

theorem exec_data_granted {s : State} {p : Port} {r : ReadCtx} (hstart : s.ctl.start = .ready) (hr : (s.port p).bulk = .reading r)
    (hgrant : (s.port p).grantsBulk = true) : exec (.data p) s = .next (s.placeData p r) := by
  have hready : s.ready = true := s.ready_iff.mpr hstart
  refine congrArg Host.Outcome.next ?_
  rw [hr]
  exact if_pos (by rw [hready, hgrant]; rfl)

theorem dataItem_eq (es : List Entry) (view : View) (id : Nat) : dataItem es view id = (findEntry es id).map (fun e =>
    { id := id, version := e.version, value := if view = .working then e.working else e.committed }) := by
  cases view <;> rfl

/-- The port after a DATA block that is not the last (R131). -/
def PortState.dataPlaced (x : PortState) (b : Body) (c : ReadCtx) : PortState :=
  { x with
    outbound := x.outbound ++ [{ seq := BitVec.ofNat 8 x.outCount, body := b }]
    outCount := (x.outCount + 1) % 256
    nextGrant := if x.notices = [] then x.nextGrant else .notice
    bulk := .reading c }

theorem State.placeData_more {s : State} {p : Port} {r : ReadCtx} (hw : (s.port p).bulk.waits = true)
    (hmore : 16 * (r.next + 1) < r.items.length) : s.placeData p r = s.modPort p (fun x =>
      x.dataPlaced (.data r.next s.store.durable (s.blockItems r)) (r.advance s.store.durable)) := by
  rw [State.placeData]
  refine (if_pos ((ReadCtx.next_lt_blocks_iff _ _).mpr hmore)).trans (State.modPort_congr ?_)
  rw [PortState.placeBulk_eq hw]
  rfl

theorem State.placeData_last {s : State} {p : Port} {r : ReadCtx} (hw : (s.port p).bulk.waits = true)
    (hlast : r.items.length ≤ 16 * (r.next + 1)) : s.placeData p r = (s.modPort p (fun x =>
      x.dataPlaced (.data r.next s.store.durable (s.blockItems r)) (r.advance s.store.durable))).closeBulk p
        ((r.advance s.store.durable).done .complete s.store.durable) := by
  rw [State.placeData]
  refine (if_neg ?_).trans (congrArg (fun t => State.closeBulk t p _) (State.modPort_congr ?_))
  · exact fun h => absurd ((ReadCtx.next_lt_blocks_iff _ _).mp h) (by simpa [ReadCtx.advance] using hlast)
  · rw [PortState.placeBulk_eq hw]
    rfl

/-- Settles O45: the granted block is placed, and the last one closes the read. -/
theorem dataBlockIsPlaced : Obligations.DataBlockIsPlaced := by
  intro p r s hstart hr hroom hleft hturn
  have hwaits : (s.port p).bulk.waits = true := by
    rw [hr]
    exact decide_eq_true ((ReadCtx.next_lt_blocks_iff _ _).mpr hleft)
  have hitems : s.blockItems r = ((r.items.drop (16 * r.next)).take 16).filterMap (fun id =>
      (findEntry s.catalog.entries id).map (fun e =>
        ({ id := id, version := e.version, value := if r.view = .working then e.working else e.committed } : DataItem))) := by
    rw [State.blockItems, funext (dataItem_eq s.catalog.entries r.view)]
    rfl
  refine ⟨_, exec_data_granted hstart hr (PortState.grantsBulk_of hroom hwaits hturn), ?_⟩
  dsimp only
  rw [← hitems]
  rcases lt_or_ge (16 * (r.next + 1)) r.items.length with hmore | hlast
  · rw [State.placeData_more hwaits hmore, State.port_modPort_self, State.port_modPort_other]
    exact ⟨rfl, rfl, rfl, fun _ => ⟨rfl, rfl⟩, fun h => absurd hmore (by omega), rfl, by simp, by simp, by simp, by simp, by simp,
      by simp⟩
  · rw [State.placeData_last hwaits hlast, State.closeBulk_port, State.port_modPort_self, State.closeBulk_port_other,
      State.port_modPort_other]
    obtain ⟨hkind, hending, hblocks, hsent, hfirst, hlastNumber, htorn, herr⟩ :=
      (r.advance s.store.durable).done_fields .complete s.store.durable
    exact ⟨rfl, rfl, rfl, fun h => absurd hlast (by omega),
      fun _ => ⟨_, rfl, rfl, hkind, hending, hblocks, hsent, hfirst, hlastNumber, htorn, herr⟩, rfl, by simp [State.closeBulk],
      by simp [State.closeBulk], by simp [State.closeBulk], by simp [State.closeBulk], by simp [State.closeBulk],
      by simp [State.closeBulk]⟩

/-- Settles O46: each is placed where it is granted. -/
theorem creditAndBulkDoneArePlaced : Obligations.CreditAndBulkDoneArePlaced := by
  intro p s hstart hroom hturn
  have hready : s.ready = true := s.ready_iff.mpr hstart
  refine ⟨fun w hw hpending => ?_, fun d hd => ?_⟩
  · have hwaits : (s.port p).bulk.waits = true := by
      rw [hw]
      exact decide_eq_true hpending
    have hgrant := PortState.grantsBulk_of hroom hwaits hturn
    have hexec : exec (.credit p) s = .next (s.placeCredit p w) := by
      refine congrArg Host.Outcome.next ?_
      rw [hw]
      exact if_pos (by rw [hready, hgrant]; rfl)
    rw [hexec]
    refine congrArg Host.Outcome.next (State.modPort_congr ?_)
    rw [PortState.placeBulk_eq hwaits]
  · have hwaits : (s.port p).bulk.waits = true := by rw [hd]; rfl
    have hgrant := PortState.grantsBulk_of hroom hwaits hturn
    have hexec : exec (.bulkDone p) s = .next (s.placeDone p d) := by
      refine congrArg Host.Outcome.next ?_
      rw [hd]
      exact if_pos (by rw [hready, hgrant]; rfl)
    rw [hexec]
    refine congrArg Host.Outcome.next (State.modPort_congr ?_)
    rw [PortState.placeBulk_eq hwaits]

/-! ### NOTICE (R154, R155) -/

theorem PortState.drained_eq (x : PortState) : x.drained =
    { x with notices := x.notices.drop 8 ++ (if x.lost = 0 then [] else [.lost x.lost]), lost := 0 } := by
  rw [PortState.drained]
  split
  · rw [if_neg (by omega)]
    rfl
  · rename_i hlost
    have hzero : x.lost = 0 := by omega
    rw [if_pos hzero, List.append_nil, ← hzero]
    rfl

/-- Settles O50: the granted NOTICE drains the queue. -/
theorem noticeTakesUpToEight : Obligations.NoticeTakesUpToEight := by
  intro p s hstart hroom hwaits hturn
  have hready : s.ready = true := s.ready_iff.mpr hstart
  have hgrant := PortState.grantsNotice_of hroom hwaits hturn
  have hexec : exec (.notice p) s = .next (s.modPort p PortState.sendNotices) :=
    congrArg Host.Outcome.next (if_pos (by rw [hready, hgrant]; rfl))
  rw [hexec]
  refine congrArg Host.Outcome.next (State.modPort_congr ?_)
  rw [PortState.sendNotices, PortState.drained_eq, ← PortState.afterGrant_notice hwaits]
  rfl

end Sys2Proof.Machine
end

section
/-! SUPPORT. ABANDON, the expiry of a lease, and the messages that go out (R48, R49, R73, R74, R163 to R165). -/

namespace Sys2Proof.Machine

set_option Elab.async false

open Sys2Proof

/-! ### ABANDON (R48, R49) -/

theorem State.abandonChecks_admitted (s : State) (p : Port) (q k : Byte) : (s.admitted p q k).abandonChecks p = s.abandonChecks p := by
  simp [State.abandonChecks]

theorem exec_abandon_reaches {p : Port} {q : Byte} {s : State} (h : s.Reaches p q kAbandon) : exec (.abandon p q []) s = .next
    ((firstFail (s.abandonChecks p)).elim ((s.admitted p q kAbandon).acceptAbandon p q) (fun c => s.refused p q kAbandon c 0)) :=
  congrArg Host.Outcome.next (State.request_ownChecks (fun _ s => s.abandonChecks p) (fun _ s => s.acceptAbandon p q) h readEmpty_nil
    (s.abandonChecks_admitted p q kAbandon))

theorem State.depth_pos_iff (s : State) : decide (1 ≤ s.depth) = true ↔ ¬ s.stack.frames = [] := by
  rw [decide_eq_true_iff, State.depth, ← List.length_eq_zero_iff]
  omega

/-- The stack rolled back to its bottom and let go (R31, R48). -/
theorem State.release_rollbackMany {s : State} {p : Port} (ho : s.stack.owner = some p) :
    (State.rollbackMany s.depth s).release =
      (({ s with
          catalog := { s.catalog with entries := restoreFrames s.stack.frames s.catalog.entries }
          stack := { frames := [], owner := none, free := s.stack.free + s.inUse } } : State).stopLease p).noticeBoth
        (.ownerChanged none) := by
  rw [State.rollbackMany_all, State.release, State.dropOwner]
  simp only [ho]

theorem State.acceptAbandon_eq {s : State} {p : Port} {q : Byte} (hfresh : ∀ o ∈ (s.port p).outstanding, o.seq ≠ q)
    (ho : s.stack.owner = some p) : (s.admitted p q kAbandon).acceptAbandon p q =
      (({ s.answered p q kAbandon (.reply kAbandon (.abandon s.stack.frames.length s.inUse (s.stack.free + s.inUse))) true with
          catalog := { s.catalog with entries := restoreFrames s.stack.frames s.catalog.entries }
          stack := { frames := [], owner := none, free := s.stack.free + s.inUse } } : State).stopLease p).noticeBoth
        (.ownerChanged none) := by
  have huse : (s.admitted p q kAbandon).inUse = s.inUse := by simp [State.inUse]
  rw [State.acceptAbandon, State.release_rollbackMany (by simpa using ho), State.reply_noticeBoth, State.stopLease,
    State.reply_setLease, State.reply_admitted_staged _ _ _ hfresh, huse]
  simp [State.depth, State.stopLease]

/-- Settles O25: the checks of R49 in order, and every frame rolled back under an owner that lets go. -/
theorem abandonEmptiesTheStack : Obligations.AbandonEmptiesTheStack := by
  intro p q s h
  refine State.refused_or_nextCheck s.sealed_iff (exec_abandon_reaches h) fun hexec _ => ?_
  refine State.refused_or_nextCheck s.depth_pos_iff hexec fun hexec _ => ?_
  refine State.refused_or_nextCheck (s.owns_iff p) hexec fun hexec howner => ?_
  refine State.refused_or_nextCheck s.noCommit_iff hexec fun hexec _ => ?_
  refine State.refused_or_nextCheck (s.unlocked_iff p) hexec fun hexec _ => ?_
  exact hexec.trans (congrArg Host.Outcome.next (State.acceptAbandon_eq h.fresh (not_not.mp howner)))

/-! ### The expiry of a lease (R73, R74) -/

/-- What an expiry does to the port whose timer ran out: a transfer that locks the stack ends, any other goes on (R74). -/
def PortState.ExpiresTo (x y : PortState) : Prop :=
  y = { x with bulk := y.bulk, lastDone := y.lastDone } ∧
  (x.bulk.locks = false → y.bulk = x.bulk ∧ y.lastDone = x.lastDone) ∧
  (x.bulk.locks = true → ∃ d, y.bulk = .closing d ∧ y.lastDone = some d ∧ d.ending = .leaseExpired ∧
    (∀ w, x.bulk = .writing w → d.kind = .write ∧ d.items = 0 ∧ d.firstError = w.firstError))

theorem PortState.expiresTo_self {x : PortState} (h : x.bulk.locks = false) : x.ExpiresTo x :=
  ⟨rfl, fun _ => ⟨rfl, rfl⟩, fun hl => absurd (hl.symm.trans h) nofun⟩

theorem PortState.expiresTo_closing {x : PortState} {d : DoneRec} (h : x.bulk.locks = true) (hd : d.ending = .leaseExpired)
    (hw : ∀ w, x.bulk = .writing w → d.kind = .write ∧ d.items = 0 ∧ d.firstError = w.firstError) :
    x.ExpiresTo { x with bulk := .closing d, lastDone := some d } :=
  ⟨rfl, fun hl => absurd (h.symm.trans hl) nofun, fun _ => ⟨d, rfl, rfl, hd, hw⟩⟩

theorem State.closeBulk_eq_setPort (s : State) (p : Port) (d : DoneRec) :
    s.closeBulk p d = s.setPort p { s.port p with bulk := .closing d, lastDone := some d } := rfl

theorem State.setPort_self (s : State) (p : Port) : s.setPort p (s.port p) = s := by cases p <;> rfl

theorem State.endBulkAtExpiry_port (s : State) (p : Port) : ∃ y, s.endBulkAtExpiry p = s.setPort p y ∧ (s.port p).ExpiresTo y := by
  have hstays (hl : (s.port p).bulk.locks = false) : ∃ y, s = s.setPort p y ∧ (s.port p).ExpiresTo y :=
    ⟨_, (s.setPort_self p).symm, PortState.expiresTo_self hl⟩
  have hread {r : ReadCtx} (hr : (s.port p).bulk = .reading r ∨ (s.port p).bulk = .paused r) :
      ∃ y, (if r.view = .working then s.closeBulk p (r.done .leaseExpired s.store.durable) else s) = s.setPort p y ∧
        (s.port p).ExpiresTo y := by
    have hlocks : (s.port p).bulk.locks = (r.view == .working) := by rcases hr with hr | hr <;> rw [hr] <;> rfl
    split
    · rename_i hview
      refine ⟨_, s.closeBulk_eq_setPort p _, PortState.expiresTo_closing (by rw [hlocks, hview]; rfl) rfl fun w hw => ?_⟩
      rcases hr with hr | hr <;> exact absurd (hr.symm.trans hw) nofun
    · rename_i hview
      exact hstays (hlocks.trans (beq_eq_false_iff_ne.mpr hview))
  unfold State.endBulkAtExpiry
  split
  · exact hread (.inl ‹_›)
  · exact hread (.inr ‹_›)
  · rename_i w hw
    refine ⟨_, s.closeBulk_eq_setPort p _, PortState.expiresTo_closing (by rw [hw]; rfl) rfl fun w' hw' => ?_⟩
    cases hw.symm.trans hw'
    exact ⟨rfl, rfl, rfl⟩
  · exact hstays (by rename_i hb; rw [hb]; rfl)
  · exact hstays (by rename_i hb; rw [hb]; rfl)

theorem State.stopLease_port (s : State) (p : Port) : (s.stopLease p).port p = { s.port p with lease := .stopped } :=
  State.port_modPort_self _ _ _

/-- The expiry over the state in which the context of the port has ended (R73). -/
theorem State.expire_eq {s : State} {p : Port} {y : PortState} (ho : s.stack.owner = some p)
    (hy : (s.stopLease p).endBulkAtExpiry p = (s.stopLease p).setPort p y) (hlease : y.lease = .stopped) :
    s.expire p = ((({ s with
        catalog := { s.catalog with entries := restoreFrames s.stack.frames s.catalog.entries }
        stack := { frames := [], owner := none, free := s.stack.free + s.inUse } } : State).setPort p y).noticeTo p
          (.leaseExpired s.stack.frames.length)).noticeBoth (.ownerChanged none) := by
  have hidle : ({ y with lease := .stopped } : PortState) = y := by rw [← hlease]
  rw [State.expire]
  dsimp only
  rw [hy, State.rollbackMany_all, State.dropOwner]
  cases p <;>
    simp only [State.stopLease, State.modPort, State.setPort_A, State.setPort_B, State.port_A, State.port_B, State.inUse, ho, hidle] <;>
    rfl

/-- Settles O52: the timer of the owner alone expires, and the stack goes with it. -/
theorem leaseExpiryAbandonsTheStack : Obligations.LeaseExpiryAbandonsTheStack := by
  refine ⟨fun p s hno => ?_, fun p n s ho hrun => ?_⟩
  · refine congrArg Host.Outcome.next (if_neg fun h => ?_)
    rw [Bool.and_eq_true, s.owns_iff, not_not] at h
    obtain ⟨ho, hruns⟩ := h
    rcases hno with hno | hno
    · exact hno ho
    · rw [hno] at hruns
      cases hruns
  · obtain ⟨y, hy, hsame, hunlocked, hlocked⟩ := (s.stopLease p).endBulkAtExpiry_port p
    rw [State.stopLease_port] at hsame hunlocked hlocked
    have hlease : y.lease = .stopped := by rw [hsame]
    have hexec : exec (.leaseExpiry p) s = .next (s.expire p) :=
      congrArg Host.Outcome.next (if_pos (by rw [Bool.and_eq_true, s.owns_iff, not_not, hrun]; exact ⟨ho, rfl⟩))
    rw [hexec, State.expire_eq ho hy hlease]
    refine ⟨_, y, rfl, by simp, by simp, ?_, ?_, hsame, hunlocked, hlocked, by simp, by simp, by simp, by simp⟩
    · cases p <;> rfl
    · cases p <;> rfl

/-! ### Sending (R109, R163 to R165) -/

theorem State.messageSent_ready {s : State} {p : Port} {m : OutMsg} {rest : List OutMsg} (hstart : s.ctl.start = .ready)
    (hq : (s.port p).outbound = m :: rest) :
    s.messageSent p = s.modPort p (fun x => { x with outbound := rest, outPos := 0, sent := m.wire }) := by
  rw [State.messageSent, s.ready_iff.mpr hstart, if_pos rfl, hq]

theorem State.not_ready_iff (s : State) : s.ready = false ↔ s.ctl.start ≠ .ready := by rw [← Bool.not_eq_true, s.ready_iff]

theorem State.messageSent_early {s : State} (p : Port) (hstart : s.ctl.start ≠ .ready) : s.messageSent p = s := by
  rw [State.messageSent, s.not_ready_iff.mpr hstart, if_neg Bool.false_ne_true]

theorem State.nextByte_ready {s : State} {p : Port} {m : OutMsg} {rest : List OutMsg} (hstart : s.ctl.start = .ready)
    (hq : (s.port p).outbound = m :: rest) : s.nextByte p = m.wire[(s.port p).outPos]? := by
  rw [State.nextByte, s.ready_iff.mpr hstart, if_pos rfl, hq]
  rfl

theorem State.nextByte_none {s : State} {p : Port} (h : s.ctl.start ≠ .ready ∨ (s.port p).outbound = []) : s.nextByte p = none := by
  rw [State.nextByte]
  rcases h with h | h
  · rw [s.not_ready_iff.mpr h, if_neg Bool.false_ne_true]
  · rw [h]
    split <;> rfl

theorem State.sendByte_none {s : State} {p : Port} (h : s.nextByte p = none) : s.sendByte p = s := by
  rw [State.sendByte, h]

/-- The next byte after one has gone out is the one behind it. -/
theorem State.nextByte_advanced {s : State} {p : Port} {m : OutMsg} {rest : List OutMsg} (hstart : s.ctl.start = .ready)
    (hq : (s.port p).outbound = m :: rest) :
    (s.modPort p (fun x => { x with outPos := x.outPos + 1 })).nextByte p = m.wire[(s.port p).outPos + 1]? := by
  rw [State.nextByte_ready (by simpa using hstart) (rest := rest) (by rw [State.port_modPort_self]; exact hq), State.port_modPort_self]

theorem State.sendByte_some {s : State} {p : Port} {b : Byte} (h : s.nextByte p = some b) : s.sendByte p =
    if ((s.modPort p (fun x => { x with outPos := x.outPos + 1 })).nextByte p).isNone then
      (s.modPort p (fun x => { x with outPos := x.outPos + 1 })).enqueue (sentCommand p)
    else s.modPort p (fun x => { x with outPos := x.outPos + 1 }) := by
  rw [State.sendByte, h]

/-- Settles O58: the head message, its bytes, and the line that says that one waits. -/
theorem sentMessageLeavesTheQueue : Obligations.SentMessageLeavesTheQueue := by
  refine ⟨fun s m rest hstart hq => congrArg Host.Outcome.next (State.messageSent_ready (p := .A) hstart hq),
    fun s m rest hstart hq => congrArg Host.Outcome.next (State.messageSent_ready (p := .B) hstart hq),
    fun s hstart => ⟨?_, ?_, ?_⟩, fun s hstart => ?_, fun s p m rest b hstart hq hb => ?_, fun s p hnone => ?_, fun s v b hnone => ?_⟩
  · exact congrArg Host.Outcome.next (State.messageSent_early .A hstart)
  · exact congrArg Host.Outcome.next (State.messageSent_early .B hstart)
  · rw [State.attnA, s.not_ready_iff.mpr hstart, Bool.false_and]
  · rw [State.attnA, s.ready_iff.mpr hstart, Bool.true_and]
    simp
  · have hnext : s.nextByte p = some b := (State.nextByte_ready hstart hq).trans hb
    refine ⟨hnext, ?_, fun hmore => ?_, fun hlast => ?_⟩
    · rintro rfl
      rw [State.clockedOut, hnext]
      rfl
    · rw [State.sendByte_some hnext, State.nextByte_advanced hstart hq, List.getElem?_eq_getElem hmore]
      rfl
    · rw [State.sendByte_some hnext, State.nextByte_advanced hstart hq, List.getElem?_eq_none (le_of_eq hlast.symm)]
      cases p <;> rfl
  · exact ⟨State.nextByte_none hnone, State.sendByte_none (State.nextByte_none hnone)⟩
  · rw [State.clockedOut, hnone, State.exchangeByte, State.sendByte_none hnone]
    exact ⟨rfl, rfl⟩

end Sys2Proof.Machine
end

section
/-! SUPPORT. The receiver: what it makes of the bytes of a message, whole, damaged or cut (R161 to R163, R165, R167, R178). -/

namespace Sys2Proof.Machine

set_option Elab.async false

open Sys2Proof

/-! ### A run of bytes (R162) -/

theorem rxRun_cons (r : RxState) (b : Byte) (bs : List Byte) :
    rxRun r (b :: bs) = ((rxRun (rxByte r b).1 bs).1, (rxByte r b).2.toList ++ (rxRun (rxByte r b).1 bs).2) := rfl

theorem rxRun_cons_silent {r r' : RxState} {b : Byte} (bs : List Byte) (h : rxByte r b = (r', none)) :
    rxRun r (b :: bs) = rxRun r' bs := by
  rw [rxRun_cons, h]
  rfl

theorem rxRun_append (r : RxState) (as bs : List Byte) :
    rxRun r (as ++ bs) = ((rxRun (rxRun r as).1 bs).1, (rxRun r as).2 ++ (rxRun (rxRun r as).1 bs).2) := by
  induction as generalizing r with
  | nil => rfl
  | cons a as ih => rw [List.cons_append, rxRun_cons, ih, rxRun_cons, List.append_assoc]

/-- The start mark and the head of a message bring the receiver to its payload, if the length is one (Table 9.1). -/
theorem rxRun_head (hi lo q k : Byte) (rest : List Byte) : rxRun .hunt ([0xC3, 0x3C] ++ [hi, lo, q, k] ++ rest) =
    ((rxRun (rxHead { length := be16 hi lo, seq := q, kind := k }).1 rest).1,
      (rxHead { length := be16 hi lo, seq := q, kind := k }).2.toList ++
        (rxRun (rxHead { length := be16 hi lo, seq := q, kind := k }).1 rest).2) := by
  have hmark : rxRun .hunt ([0xC3, 0x3C] ++ [hi, lo, q, k] ++ rest) = rxRun (.header [hi, lo, q]) (k :: rest) := by
    rw [List.append_assoc]
    exact (rxRun_cons_silent _ rfl).trans ((rxRun_cons_silent _ rfl).trans ((rxRun_cons_silent _ rfl).trans
      ((rxRun_cons_silent _ rfl).trans (rxRun_cons_silent _ rfl))))
  rw [hmark, rxRun_cons]
  rfl

/-- The payload is held until it is as long as the head says (R161). -/
theorem rxRun_payload (h : MessageHead) (held : List Byte) {bs : List Byte} (hne : bs ≠ []) (hlen : held.length + bs.length = h.length) :
    rxRun (.payload h held) bs = (.check h (held ++ bs) [], []) := by
  induction bs generalizing held with
  | nil => exact absurd rfl hne
  | cons b bs ih =>
    rw [List.length_cons] at hlen
    by_cases hbs : bs = []
    · subst hbs
      have hbyte : rxByte (.payload h held) b = (.check h (held ++ [b]) [], none) :=
        if_neg (by rw [List.length_nil] at hlen; omega)
      rw [rxRun_cons_silent _ hbyte]
      rfl
    · have hpos := List.length_pos_iff.mpr hbs
      have hbyte : rxByte (.payload h held) b = (.payload h (held ++ [b]), none) := if_pos (by omega)
      rw [rxRun_cons_silent _ hbyte, ih (held ++ [b]) hbs (by rw [List.length_append, List.length_singleton]; omega),
        List.append_assoc]
      rfl

theorem rxRun_check (h : MessageHead) (body : List Byte) (a b : Byte) :
    rxRun (.check h body []) [a, b] = (.hunt, [rxCheck h body [a, b]]) := rfl

theorem be16_put16 {n : Nat} (h : n < 65536) : be16 (BitVec.ofNat 8 (n / 256)) (BitVec.ofNat 8 n) = n := by
  rw [be16, BitVec.toNat_ofNat, BitVec.toNat_ofNat]
  omega

/-- A message of up to 640 bytes is taken whole, and its check decides (R161, R162). -/
theorem rxRun_message (q k : Byte) {payload : List Byte} (a b : Byte) (hlen : payload.length ≤ Config.maxPayload) :
    rxRun .hunt ([0xC3, 0x3C] ++ checkedFields q k payload ++ [a, b]) =
      (.hunt, [rxCheck { length := payload.length, seq := q, kind := k } payload [a, b]]) := by
  have hmax : payload.length ≤ 640 := hlen
  have hwire : [0xC3, 0x3C] ++ checkedFields q k payload ++ [a, b] = [0xC3, 0x3C] ++
      [BitVec.ofNat 8 (payload.length / 256), BitVec.ofNat 8 payload.length, q, k] ++ (payload ++ [a, b]) := by
    simp [checkedFields, put16]
  rw [hwire, rxRun_head, be16_put16 (by omega), rxHead, if_neg (not_lt.mpr hlen)]
  by_cases hnil : payload = []
  · subst hnil
    rfl
  · have hpos := List.length_pos_iff.mpr hnil
    rw [if_neg (show payload.length ≠ 0 by omega), rxRun_append, rxRun_payload _ [] hnil (Nat.zero_add _)]
    rfl

theorem rxRun_frame (q k : Byte) {payload : List Byte} (hlen : payload.length ≤ Config.maxPayload) :
    rxRun .hunt (frame q k payload) = (.hunt, [.good { seq := q, kind := k, payload := payload }]) := by
  obtain ⟨a, b, hab⟩ : ∃ a b, checkBytes q k payload = [a, b] := ⟨_, _, rfl⟩
  rw [frame, hab, rxRun_message q k a b hlen, rxCheck, if_pos hab.symm]

/-! ### Dropped messages (R162, R163, R178) -/

theorem bump_eq {n : Nat} (h : n ≤ 65535) : bump n = min (n + 1) 65535 := by
  rw [bump, show Config.counterMax = 65535 from rfl]
  split <;> omega

/-- Settles O4: each dropped message and its counter, and where the receiver finds that it is one. -/
theorem droppedMessagesAreCounted : Obligations.DroppedMessagesAreCounted := by
  refine ⟨fun p s h => congrArg Host.Outcome.next (if_pos h), fun f s h => ?_, fun taken s h hnothing => ?_, fun n h => bump_eq h,
    fun q k payload a b hlen hbad => ?_, fun hi lo q k hlong => ?_⟩
  · have hexec : exec (.framingError f) s = .next (s.framingFault (faultPort f)) := congrArg Host.Outcome.next (if_pos h)
    rw [hexec, State.framingFault, State.counting, State.modPort_modPort]
  · have hexec : exec (.cutMessage taken) s = .next (s.cut taken) := congrArg Host.Outcome.next (if_pos h)
    rw [hexec, State.cut]
    dsimp only
    rw [if_neg (not_not.mpr hnothing)]
    split <;> rfl
  · rw [rxRun_message q k a b hlen, rxCheck, if_neg hbad]
  · have hhead := rxRun_head hi lo q k []
    rw [rxHead, if_pos hlong] at hhead
    exact hhead

/-! ### Messages that become commands (R162, R167) -/

/-- The state after a port's receiver has moved to `r` and commands have joined the queue (R162). -/
def State.received (s : State) (p : Port) (r : RxState) (cs : List Instr) : State :=
  { s.modPort p (fun x => { x with rx := r }) with pending := s.pending ++ cs }

theorem State.received_nil (s : State) (p : Port) : s.received p (s.port p).rx [] = s := by
  rw [State.received, List.append_nil]
  cases p <;> rfl

theorem State.received_received (s : State) (p : Port) (r r' : RxState) (cs ds : List Instr) :
    (s.received p r cs).received p r' ds = s.received p r' (cs ++ ds) := by
  rw [State.received, State.received, State.received, ← List.append_assoc]
  cases p <;> rfl

theorem State.receiveByte_eq {s : State} {p : Port} (v : Levels) (b : Byte) (h : s.receives p = true) : s.receiveByte p v b =
    s.received p (rxByte (s.port p).rx b).1 ((rxByte (s.port p).rx b).2.toList.map (instrOfEvent p v)) := by
  rw [State.receiveByte, if_pos h]
  dsimp only
  split
  · rename_i e he
    rw [he]
    cases p <;> rfl
  · rename_i he
    rw [he, State.received, Option.toList_none, List.map_nil, List.append_nil]
    cases p <;> rfl

/-- A run of bytes at a port that receives moves its receiver, and queues what the bytes complete (R162). -/
theorem State.feed_eq {p : Port} (v : Levels) (bs : List Byte) {s : State} (h : s.receives p = true) : s.feed p v bs =
    s.received p (rxRun (s.port p).rx bs).1 ((rxRun (s.port p).rx bs).2.map (instrOfEvent p v)) := by
  induction bs generalizing s with
  | nil => exact (s.received_nil p).symm
  | cons b bs ih =>
    have hnext (r : RxState) (cs : List Instr) : (s.received p r cs).receives p = true := by cases p <;> exact h
    have hrx (r : RxState) (cs : List Instr) : ((s.received p r cs).port p).rx = r := by cases p <;> rfl
    rw [State.feed, State.receiveByte_eq v b h, ih (hnext _ _), hrx, State.received_received, rxRun_cons, List.map_append]

theorem State.feed_message {p : Port} (v : Levels) {m : Message} {s : State} (hlen : m.payload.length ≤ Config.maxPayload)
    (h : s.receives p = true) (hrx : (s.port p).rx = .hunt) : s.feed p v m.wire = s.enqueue (instrOfMessage p v m) := by
  rw [State.feed_eq v _ h, hrx, Message.wire, rxRun_frame _ _ hlen, ← hrx, State.received]
  cases p <;> rfl

/-! ### Every message command (R167, Table 10.2) -/

/-- The port and the levels that the bytes of a message command need beside themselves. -/
def levelsOf : Instr → Levels
  | .status _ _ _ run => { run := run, arrayOk := true }
  | .commit _ _ _ run => { run := run, arrayOk := true }
  | .restart _ _ _ ok => { run := true, arrayOk := ok }
  | _ => { run := true, arrayOk := true }

/-- A kind that is neither a request's nor a stream message's is read as such (R167). -/
theorem instrOfMessage_unknown (p : Port) (v : Levels) {m : Message} (h : kindUnknown m.kind = true) :
    instrOfMessage p v m = .unknownKind p m.seq m.kind m.payload := by
  rw [kindUnknown, Bool.and_eq_true, Bool.not_eq_true', Bool.not_eq_true', ← Bool.not_eq_true, ← Bool.not_eq_true,
    List.contains_iff_mem, List.contains_iff_mem] at h
  obtain ⟨hrequest, hstream⟩ := h
  have hother (k : Byte) (hk : k ∈ requestKinds ++ streamKinds) : m.kind ≠ k := by
    rintro rfl
    exact (List.mem_append.mp hk).elim hrequest hstream
  unfold instrOfMessage
  iterate 23 refine (if_neg (hother _ (by decide))).trans ?_
  rfl

theorem messageOfInstr_reads {i : Instr} {m : Message} (hwf : i.wf = true) (hm : messageOfInstr i = some m) :
    ∃ p, instrOfMessage p (levelsOf i) m = i ∧ m.payload.length ≤ Config.maxPayload := by
  cases i
  case unknownKind p q k b =>
    cases hm
    obtain ⟨hk, hb⟩ := (Bool.and_eq_true _ _).mp hwf
    exact ⟨p, instrOfMessage_unknown p _ hk, of_decide_eq_true hb⟩
  case hold p => cases hm; exact ⟨p, rfl, by decide⟩
  case go p => cases hm; exact ⟨p, rfl, by decide⟩
  case describe | status | linkReset | restart | define | setup | wipe | beginFrame | set | get | rollback | merge | abandon |
      commit | bulkRead | bulkWrite | bulkAbort | watch | unwatch | block | _ =>
    -- the last one is SEAL, whose constructor's name is a keyword of Lean
    cases hm
    exact ⟨_, rfl, of_decide_eq_true hwf⟩
  all_goals cases hm

/-- Settles O3: the receiver reads the message back, and its kind byte the command. -/
theorem fedMessageQueuesItsCommand : Obligations.FedMessageQueuesItsCommand := by
  refine ⟨fun i m hwf hm => ?_, fun p v m s hlen h hrx => State.feed_message v hlen h hrx, fun p v q b => ⟨rfl, rfl, rfl⟩⟩
  obtain ⟨p, hreads, hlen⟩ := messageOfInstr_reads hwf hm
  exact ⟨p, levelsOf i, fun s h hrx => (State.feed_message _ hlen h hrx).trans (congrArg s.enqueue hreads)⟩

end Sys2Proof.Machine
end

section
/-! SUPPORT. SEAL: its validation check by check, and the catalog write that an accepted one begins (R16 to R18, R102). -/

namespace Sys2Proof.Machine

set_option Elab.async false

open Sys2Proof

/-! ### A check over the whole catalog (R16) -/

/-- The entry of this id fails, and none of a lower id does. -/
def FirstFails (es : List Entry) (bad : Entry → Prop) (id : Nat) : Prop :=
  ∃ e ∈ es, e.defn.id = id ∧ bad e ∧ ∀ x ∈ es, x.defn.id < id → ¬ bad x

section

variable {es : List Entry} {test : Entry → Bool} {bad : Entry → Prop} (hbad : ∀ e ∈ es, test e = false ↔ bad e)
include hbad

theorem firstFailing_some {id : Nat} (hids : IdsOrdered es) (h : firstFailing es test = some id) : FirstFails es bad id := by
  obtain ⟨e, he, hid, hfails⟩ := findId_eq_some h
  refine ⟨e, he, hid, (hbad e he).mp (by simpa using hfails), fun x hx hlt hbadx => ?_⟩
  exact findId_lowest hids h x hx hlt (by simpa using (hbad x hx).mpr hbadx)

theorem firstFailing_none (h : firstFailing es test = none) : ∀ x ∈ es, ¬ bad x := fun x hx hbadx =>
  findId_eq_none_iff.mp h x hx (by simpa using (hbad x hx).mpr hbadx)

end

/-! ### What each check asks of an entry -/

/-- The entry that another one's link names. -/
def NamesEntry (es : List Entry) (e t : Entry) : Prop := e.defn.link ≠ 0 ∧ t ∈ es ∧ t.defn.id = e.defn.link

theorem IdsOrdered.names_iff {es : List Entry} (hids : IdsOrdered es) (e t : Entry) :
    NamesEntry es e t ↔ e.defn.link ≠ 0 ∧ findEntry es e.defn.link = some t := by
  refine and_congr_right fun _ => ⟨fun ⟨ht, hid⟩ => hid ▸ hids.findEntry_mem ht, fun hfind => ?_⟩
  exact ⟨List.mem_of_find?_eq_some hfind, by simpa using List.find?_some hfind⟩

theorem Shape.numeric_eq_false_iff (sh : Shape) : sh.numeric = false ↔ (∃ cs, sh = .choice cs) ∨ ∃ m, sh = .text m := by
  cases sh <;> simp [Shape.numeric]

/-- Check 2 (R16). -/
theorem linkNamesNumeric_false_iff {es : List Entry} (hids : IdsOrdered es) (e : Entry) : linkNamesNumeric es e = false ↔
    e.defn.link ≠ 0 ∧ ∀ t, NamesEntry es e t → (∃ cs, t.defn.shape = .choice cs) ∨ ∃ m, t.defn.shape = .text m := by
  simp only [hids.names_iff, ← Shape.numeric_eq_false_iff]
  rw [linkNamesNumeric, Bool.or_eq_false_iff, beq_eq_false_iff_ne]
  refine and_congr_right fun hlink => ?_
  cases findEntry es e.defn.link with
  | none => exact ⟨fun _ t ht => absurd ht.2 nofun, fun _ => rfl⟩
  | some t => exact ⟨fun hno u hu => by rw [← Option.some.inj hu.2]; exact hno, fun h => h t ⟨hlink, rfl⟩⟩

/-- Check 3 (R16). -/
theorem linkSamePersistence_false_iff {es : List Entry} (hids : IdsOrdered es) (e : Entry) : linkSamePersistence es e = false ↔
    ∃ t, NamesEntry es e t ∧ t.defn.persistent ≠ e.defn.persistent := by
  simp only [hids.names_iff]
  rw [linkSamePersistence, Bool.or_eq_false_iff, beq_eq_false_iff_ne]
  cases findEntry es e.defn.link with
  | none => exact ⟨fun h => absurd h.2 nofun, fun ⟨t, ht, _⟩ => absurd ht.2 nofun⟩
  | some t =>
    refine ⟨fun ⟨hlink, hno⟩ => ⟨t, ⟨hlink, rfl⟩, beq_eq_false_iff_ne.mp hno⟩, fun ⟨u, ⟨hlink, hu⟩, hno⟩ => ⟨hlink, ?_⟩⟩
    rw [Option.some.inj hu]
    exact beq_eq_false_iff_ne.mpr hno

/-- Check 5 (R16). -/
theorem defaultsSatisfy_false_iff {es : List Entry} (hids : IdsOrdered es) (e : Entry) : defaultsSatisfy es e = false ↔
    ∃ t m n, NamesEntry es e t ∧ t.defn.default = .num m ∧ e.defn.default = .num n ∧ m < n := by
  simp only [hids.names_iff]
  rw [defaultsSatisfy, linkSatisfied_eq_false_iff]
  constructor
  · rintro ⟨hlink, t, n, m, ht, hn, hm, hlt⟩
    exact ⟨t, m, n, ⟨hlink, ht⟩, hm, hn, hlt⟩
  · rintro ⟨t, m, n, ⟨hlink, ht⟩, hm, hn, hlt⟩
    exact ⟨hlink, t, n, m, ht, hn, hm, hlt⟩

/-! ### Cycles of links (check 4) -/

/-- One entry's link names the next. -/
def Links (es : List Entry) (a b : Nat) : Prop := ∃ x ∈ es, x.defn.id = a ∧ x.defn.link = b ∧ b ≠ 0

/-- The id that an entry's link names, 0 without one. -/
def linkOf (es : List Entry) (a : Nat) : Nat := match findEntry es a with | some x => x.defn.link | none => 0

theorem Links.linkOf {es : List Entry} (hids : IdsOrdered es) {a b : Nat} (h : Links es a b) : linkOf es a = b := by
  obtain ⟨x, hx, rfl, rfl, -⟩ := h
  rw [Machine.linkOf, hids.findEntry_mem hx]

/-- `k` links one after another lead from `a` to `b`. -/
def LinkSteps (es : List Entry) (k : Nat) (a b : Nat) : Prop :=
  (∀ i < k, Links es ((linkOf es)^[i] a) ((linkOf es)^[i + 1] a)) ∧ (linkOf es)^[k] a = b

theorem LinkSteps.zero_iff {es : List Entry} {a b : Nat} : LinkSteps es 0 a b ↔ a = b := by
  simp [LinkSteps]

theorem LinkSteps.succ_iff {es : List Entry} (hids : IdsOrdered es) {k a b : Nat} :
    LinkSteps es (k + 1) a b ↔ ∃ c, Links es a c ∧ LinkSteps es k c b := by
  constructor
  · rintro ⟨hlinks, hend⟩
    refine ⟨linkOf es a, hlinks 0 (Nat.succ_pos k), fun i hi => ?_, hend⟩
    exact hlinks (i + 1) (Nat.succ_lt_succ hi)
  · rintro ⟨c, hac, hlinks, hend⟩
    obtain rfl := hac.linkOf hids
    refine ⟨fun i hi => ?_, hend⟩
    cases i with
    | zero => exact hac
    | succ i => exact hlinks i (Nat.lt_of_succ_lt_succ hi)

theorem transGen_links_iff {es : List Entry} (hids : IdsOrdered es) {a b : Nat} :
    Relation.TransGen (Links es) a b ↔ ∃ k, LinkSteps es (k + 1) a b := by
  constructor
  · intro h
    induction h using Relation.TransGen.head_induction_on with
    | single hab => exact ⟨0, (LinkSteps.succ_iff hids).mpr ⟨b, hab, LinkSteps.zero_iff.mpr rfl⟩⟩
    | head hac _ ih =>
      obtain ⟨k, hk⟩ := ih
      exact ⟨k + 1, (LinkSteps.succ_iff hids).mpr ⟨_, hac, hk⟩⟩
  · rintro ⟨k, hk⟩
    induction k generalizing a with
    | zero =>
      obtain ⟨c, hac, hc⟩ := (LinkSteps.succ_iff hids).mp hk
      obtain rfl := LinkSteps.zero_iff.mp hc
      exact .single hac
    | succ k ih =>
      obtain ⟨c, hac, hc⟩ := (LinkSteps.succ_iff hids).mp hk
      exact .head hac (ih hc)

theorem links_iff {es : List Entry} (hids : IdsOrdered es) {a b : Nat} :
    Links es a b ↔ ∃ x, findEntry es a = some x ∧ x.defn.link = b ∧ b ≠ 0 := by
  constructor
  · rintro ⟨x, hx, rfl, hb, hne⟩
    exact ⟨x, hids.findEntry_mem hx, hb, hne⟩
  · rintro ⟨x, hx, hb, hne⟩
    exact ⟨x, List.mem_of_find?_eq_some hx, by simpa using List.find?_some hx, hb, hne⟩

theorem chainReaches_iff {es : List Entry} (hids : IdsOrdered es) (target n a : Nat) :
    chainReaches es target n a = true ↔ ∃ k < n, LinkSteps es (k + 1) a target := by
  induction n generalizing a with
  | zero => simp [chainReaches]
  | succ n ih =>
    rw [chainReaches]
    cases hfind : findEntry es a with
    | none =>
      refine ⟨nofun, fun ⟨k, _, hk⟩ => ?_⟩
      obtain ⟨c, hac, -⟩ := (LinkSteps.succ_iff hids).mp hk
      obtain ⟨x, hx, -⟩ := (links_iff hids).mp hac
      exact absurd (hx.symm.trans hfind) nofun
    | some x =>
      have hlinks {c : Nat} : Links es a c ↔ x.defn.link = c ∧ c ≠ 0 := by
        rw [links_iff hids]
        exact ⟨fun ⟨y, hy, h⟩ => by cases hfind.symm.trans hy; exact h, fun h => ⟨x, hfind, h⟩⟩
      dsimp only
      split
      · rename_i hzero
        refine ⟨nofun, fun ⟨k, _, hk⟩ => ?_⟩
        obtain ⟨c, hac, -⟩ := (LinkSteps.succ_iff hids).mp hk
        obtain ⟨rfl, hne⟩ := hlinks.mp hac
        exact absurd hzero hne
      · rename_i hne
        split
        · rename_i htarget
          refine ⟨fun _ => ⟨0, Nat.succ_pos n, (LinkSteps.succ_iff hids).mpr ⟨target, hlinks.mpr ⟨htarget, ?_⟩, ?_⟩⟩, fun _ => rfl⟩
          · rw [← htarget]; exact hne
          · exact LinkSteps.zero_iff.mpr rfl
        · rename_i hother
          rw [ih]
          constructor
          · rintro ⟨k, hk, hsteps⟩
            exact ⟨k + 1, Nat.succ_lt_succ hk, (LinkSteps.succ_iff hids).mpr ⟨_, hlinks.mpr ⟨rfl, hne⟩, hsteps⟩⟩
          · rintro ⟨k, hk, hsteps⟩
            obtain ⟨c, hac, hsteps⟩ := (LinkSteps.succ_iff hids).mp hsteps
            obtain ⟨rfl, -⟩ := hlinks.mp hac
            cases k with
            | zero => exact absurd (LinkSteps.zero_iff.mp hsteps) hother
            | succ k => exact ⟨k, Nat.lt_of_succ_lt_succ hk, hsteps⟩

/-- A cycle of links runs through each of its entries once, and is no longer than the catalog. -/
theorem LinkSteps.cycle_short {es : List Entry} {k a : Nat} (h : LinkSteps es (k + 1) a a) :
    ∃ j < es.length, LinkSteps es (j + 1) a a := by
  obtain ⟨hlinks, hend⟩ := h
  have hperiodic : Function.IsPeriodicPt (linkOf es) (k + 1) a := hend
  obtain ⟨j, hj⟩ : ∃ j, Function.minimalPeriod (linkOf es) a = j + 1 :=
    Nat.exists_eq_succ_of_ne_zero (hperiodic.minimalPeriod_pos (Nat.succ_pos k)).ne'
  have hle : j + 1 ≤ k + 1 := hj ▸ hperiodic.minimalPeriod_le (Nat.succ_pos k)
  have hcycle : LinkSteps es (j + 1) a a := by
    refine ⟨fun i hi => hlinks i (lt_of_lt_of_le hi hle), ?_⟩
    rw [← hj]
    exact Function.iterate_minimalPeriod
  have hnodup : ((List.range (j + 1)).map (fun i => (linkOf es)^[i] a)).Nodup := by
    have h := Function.nodup_periodicOrbit (f := linkOf es) (x := a)
    rw [Function.periodicOrbit, hj, Cycle.nodup_coe_iff] at h
    exact h
  have hsubset : (List.range (j + 1)).map (fun i => (linkOf es)^[i] a) ⊆ es.map (fun e => e.defn.id) := by
    intro b hb
    obtain ⟨i, hi, rfl⟩ := List.mem_map.mp hb
    obtain ⟨x, hx, hid, -⟩ := hcycle.1 i (List.mem_range.mp hi)
    exact List.mem_map.mpr ⟨x, hx, hid⟩
  have hlength := (hnodup.subperm hsubset).length_le
  rw [List.length_map, List.length_range, List.length_map] at hlength
  exact ⟨j, hlength, hcycle⟩

/-- Check 4 (R16): links followed for as many steps as there are entries find every cycle. -/
theorem onCycle_iff {es : List Entry} (hids : IdsOrdered es) (e : Entry) :
    onCycle es e = true ↔ Relation.TransGen (Links es) e.defn.id e.defn.id := by
  rw [onCycle, chainReaches_iff hids, transGen_links_iff hids]
  exact ⟨fun ⟨k, _, hk⟩ => ⟨k, hk⟩, fun ⟨_, hk⟩ => hk.cycle_short⟩

/-! ### The slots of the area (check 6, R17) -/

/-- The area slots of the entries up to an id. -/
def slotsUpTo (es : List Entry) (id : Nat) : Nat :=
  ((es.filter (fun x => decide (x.defn.id ≤ id))).map (fun x => x.defn.shape.areaSlots)).sum

theorem slotsUpTo_cons {e : Entry} {rest : List Entry} {id : Nat} (h : e.defn.id ≤ id) :
    slotsUpTo (e :: rest) id = e.defn.shape.areaSlots + slotsUpTo rest id := by
  rw [slotsUpTo, List.filter_cons_of_pos (by simpa using h), List.map_cons, List.sum_cons, slotsUpTo]

theorem slotsUpTo_below {es : List Entry} {id : Nat} (h : ∀ x ∈ es, id < x.defn.id) : slotsUpTo es id = 0 := by
  rw [slotsUpTo, List.filter_eq_nil_iff.mpr fun x hx => by simpa using h x hx]
  rfl

/-- The running sum from `sum` on: where it first passes 1018, and that it passes nowhere (R17). -/
theorem firstTooLarge_spec {es : List Entry} (hids : IdsOrdered es) (sum : Nat) :
    (∀ id, firstTooLarge sum es = some id → FirstFails es (fun e => 1018 < sum + slotsUpTo es e.defn.id) id) ∧
    (firstTooLarge sum es = none → ∀ e ∈ es, ¬ 1018 < sum + slotsUpTo es e.defn.id) := by
  induction es generalizing sum with
  | nil => exact ⟨nofun, fun _ => nofun⟩
  | cons e rest ih =>
    obtain ⟨hlow, hrest⟩ := List.pairwise_cons.mp hids
    have hbelow : ∀ x ∈ rest, e.defn.id < x.defn.id := fun x hx => hlow _ (List.mem_map_of_mem hx)
    have hself : slotsUpTo (e :: rest) e.defn.id = e.defn.shape.areaSlots := by
      rw [slotsUpTo_cons le_rfl, slotsUpTo_below hbelow, Nat.add_zero]
    have hlater {x : Entry} (hx : x ∈ rest) : sum + slotsUpTo (e :: rest) x.defn.id =
        sum + e.defn.shape.areaSlots + slotsUpTo rest x.defn.id := by
      rw [slotsUpTo_cons (hbelow x hx).le, Nat.add_assoc]
    rw [firstTooLarge, show Config.areaSlots = 1018 from rfl]
    split
    · rename_i hover
      refine ⟨fun id hid => ?_, nofun⟩
      cases hid
      refine ⟨e, List.mem_cons_self, rfl, by dsimp only; rw [hself]; exact hover, fun x hx hlt => ?_⟩
      rcases List.mem_cons.mp hx with rfl | hx
      · exact absurd hlt (lt_irrefl _)
      · exact absurd hlt (hbelow x hx).asymm
    · rename_i hfits
      obtain ⟨hsome, hnone⟩ := ih hrest (sum + e.defn.shape.areaSlots)
      refine ⟨fun id hid => ?_, fun hno x hx => ?_⟩
      · obtain ⟨x, hx, hxid, hover, hfirst⟩ := hsome id hid
        refine ⟨x, List.mem_cons_of_mem e hx, hxid, by dsimp only; rw [hlater hx]; exact hover, fun y hy hlt => ?_⟩
        rcases List.mem_cons.mp hy with rfl | hy
        · dsimp only; rw [hself]; exact hfits
        · dsimp only; rw [hlater hy]; exact hfirst y hy hlt
      · rcases List.mem_cons.mp hx with rfl | hx
        · rw [hself]; exact hfits
        · rw [hlater hx]; exact hnone hno x hx

/-- A catalog that passes check 6 fits the area, whatever the order of its entries. -/
theorem firstTooLarge_none_sum {es : List Entry} (sum : Nat) (hsum : sum ≤ 1018) (h : firstTooLarge sum es = none) :
    sum + (es.map (fun e => e.defn.shape.areaSlots)).sum ≤ 1018 := by
  induction es generalizing sum with
  | nil => exact hsum
  | cons e rest ih =>
    rw [firstTooLarge, show Config.areaSlots = 1018 from rfl] at h
    split at h
    · cases h
    · rename_i hfits
      have hrest := ih (sum + e.defn.shape.areaSlots) (by omega) h
      rw [List.map_cons, List.sum_cons]
      omega

/-! ### The validation (R16, R17) -/

/-- The five checks in their order, none failing. -/
theorem sealValidation_none_iff (es : List Entry) : sealValidation es = none ↔
    firstFailing es (linkNamesNumeric es) = none ∧ firstFailing es (linkSamePersistence es) = none ∧
    firstFailing es (fun e => !onCycle es e) = none ∧ firstFailing es (defaultsSatisfy es) = none ∧ firstTooLarge 0 es = none := by
  unfold sealValidation
  cases firstFailing es (linkNamesNumeric es) with
  | some id => simp
  | none =>
    cases firstFailing es (linkSamePersistence es) with
    | some id => simp
    | none =>
      cases firstFailing es (fun e => !onCycle es e) with
      | some id => simp
      | none =>
        cases firstFailing es (defaultsSatisfy es) with
        | some id => simp
        | none => cases firstTooLarge 0 es <;> simp

/-- Checks 2, 3 and 5 together, in a catalog in any order: each link names a numeric entry of the same persistence and a default that
is not lower. -/
theorem sealValidation_link {es : List Entry} (h : sealValidation es = none) {e : Entry} (he : e ∈ es) (hlink : e.defn.link ≠ 0) :
    ∃ t ∈ es, t.defn.id = e.defn.link ∧ t.defn.shape.numeric = true ∧ t.defn.persistent = e.defn.persistent ∧
      e.defn.default.atMost t.defn.default = true := by
  obtain ⟨hnumeric, hsame, -, hdefaults, -⟩ := (sealValidation_none_iff es).mp h
  have hnumeric : linkNamesNumeric es e = true := by simpa using findId_eq_none_iff.mp hnumeric e he
  have hsame : linkSamePersistence es e = true := by simpa using findId_eq_none_iff.mp hsame e he
  have hdefaults : defaultsSatisfy es e = true := by simpa using findId_eq_none_iff.mp hdefaults e he
  rw [linkNamesNumeric, beq_eq_false_iff_ne.mpr hlink, Bool.false_or] at hnumeric
  rw [linkSamePersistence, beq_eq_false_iff_ne.mpr hlink, Bool.false_or] at hsame
  rw [defaultsSatisfy, linkSatisfied, if_neg hlink] at hdefaults
  cases hfind : findEntry es e.defn.link with
  | none => rw [hfind] at hnumeric; cases hnumeric
  | some t =>
    rw [hfind] at hnumeric hsame hdefaults
    exact ⟨t, List.mem_of_find?_eq_some hfind, by simpa using List.find?_some hfind, hnumeric, by simpa using hsame, hdefaults⟩

section

variable {es : List Entry} {badLink mixed cyclic above tooFar : Entry → Prop} (hids : IdsOrdered es)
  (hlink : ∀ e ∈ es, linkNamesNumeric es e = false ↔ badLink e) (hsame : ∀ e ∈ es, linkSamePersistence es e = false ↔ mixed e)
  (hcycle : ∀ e ∈ es, (!onCycle es e) = false ↔ cyclic e) (hdefault : ∀ e ∈ es, defaultsSatisfy es e = false ↔ above e)
  (hslots : ∀ e, tooFar e ↔ 1018 < 0 + slotsUpTo es e.defn.id)
include hids hlink hsame hcycle hdefault hslots

/-- The validation answers the first check that fails, at the lowest id at which it does (R16). -/
theorem sealValidation_spec : match sealValidation es with
    | some (c, id) =>
      (c = .linkInvalid ∧ FirstFails es badLink id) ∨
      (c = .linkInvalid ∧ (∀ x ∈ es, ¬ badLink x) ∧ FirstFails es mixed id) ∨
      (c = .linkCycle ∧ (∀ x ∈ es, ¬ badLink x) ∧ (∀ x ∈ es, ¬ mixed x) ∧ FirstFails es cyclic id) ∨
      (c = .linkViolation ∧ (∀ x ∈ es, ¬ badLink x) ∧ (∀ x ∈ es, ¬ mixed x) ∧ (∀ x ∈ es, ¬ cyclic x) ∧ FirstFails es above id) ∨
      (c = .catalogTooLarge ∧ (∀ x ∈ es, ¬ badLink x) ∧ (∀ x ∈ es, ¬ mixed x) ∧ (∀ x ∈ es, ¬ cyclic x) ∧ (∀ x ∈ es, ¬ above x) ∧
        FirstFails es tooFar id)
    | none => (∀ x ∈ es, ¬ badLink x) ∧ (∀ x ∈ es, ¬ mixed x) ∧ (∀ x ∈ es, ¬ cyclic x) ∧ (∀ x ∈ es, ¬ above x) ∧
        (∀ x ∈ es, ¬ tooFar x) := by
  obtain ⟨hover, hfits⟩ := firstTooLarge_spec hids 0
  rw [sealValidation]
  cases h2 : firstFailing es (linkNamesNumeric es) with
  | some id => exact .inl ⟨rfl, firstFailing_some hlink hids h2⟩
  | none =>
    have h2 := firstFailing_none hlink h2
    cases h3 : firstFailing es (linkSamePersistence es) with
    | some id => exact .inr (.inl ⟨rfl, h2, firstFailing_some hsame hids h3⟩)
    | none =>
      have h3 := firstFailing_none hsame h3
      cases h4 : firstFailing es (fun e => !onCycle es e) with
      | some id => exact .inr (.inr (.inl ⟨rfl, h2, h3, firstFailing_some hcycle hids h4⟩))
      | none =>
        have h4 := firstFailing_none hcycle h4
        cases h5 : firstFailing es (defaultsSatisfy es) with
        | some id => exact .inr (.inr (.inr (.inl ⟨rfl, h2, h3, h4, firstFailing_some hdefault hids h5⟩)))
        | none =>
          have h5 := firstFailing_none hdefault h5
          rw [← funext fun e => propext (hslots e)] at hover
          cases h6 : firstTooLarge 0 es with
          | some id => exact .inr (.inr (.inr (.inr ⟨rfl, h2, h3, h4, h5, hover id h6⟩)))
          | none => exact ⟨h2, h3, h4, h5, fun e he => (hslots e).not.mpr (hfits h6 e he)⟩

end

/-! ### The catalog write begins (R18, R102) -/

theorem exec_seal_reaches {p : Port} {q : Byte} {s : State} (h : s.Reaches p q kSeal) : exec (.seal p q []) s = .next
    (match (s.admitted p q kSeal).sealCheck with
      | some (c, id) => (s.admitted p q kSeal).refuse p q kSeal c id
      | none => (s.admitted p q kSeal).acceptSeal q) :=
  congrArg Host.Outcome.next (State.request_reaches (fun _ s => match s.sealCheck with
    | some (c, id) => s.refuse p q kSeal c id
    | none => s.acceptSeal q) h readEmpty_nil)

/-- The state that an accepted SEAL leaves before the catalog write begins (R18). -/
def State.sealBegun (s : State) (q : Byte) : State :=
  { s with
    catalog := { s.catalog with state := .sealing, request := some q }
    store := { s.store with
      reserve := imageReserve s.catalog.entries, operation := .catalogWrite, tasks := s.store.eraseTasks ++ [.programArea] } }

theorem State.acceptSeal_eq (s : State) (q : Byte) : s.acceptSeal q = (s.sealBegun q).runTasks := rfl

theorem State.sealCheck_admitted (s : State) (p : Port) (q k : Byte) : (s.admitted p q k).sealCheck = s.sealCheck := by
  cases p <;> rfl

theorem State.sealBegun_tasks (s : State) (q : Byte) :
    (s.sealBegun q).store.tasks = .erase 0 :: (s.store.laterErases ++ [.programArea]) := rfl

/-- Settles O17: the catalog write begins with its first erase; the validation is checked test by test. -/
theorem sealStartsTheCatalogWrite : Obligations.SealStartsTheCatalogWrite := by
  refine ⟨fun p q s h => ?_, fun es h => ⟨fun e he hlink => sealValidation_link h he hlink, ?_⟩, fun es hids => ?_⟩
  · rw [exec_seal_reaches h, State.sealCheck_admitted, State.sealCheck]
    by_cases hstate : s.catalog.state = .building
    · rw [if_neg (not_not.mpr hstate), if_pos hstate]
      cases sealValidation s.catalog.entries with
      | some cid => exact congrArg Host.Outcome.next (State.refuse_admitted _ _ h.fresh)
      | none =>
        obtain ⟨hd, ho⟩ := State.runTasks_erase_frame ((s.admitted p q kSeal).sealBegun_tasks q)
        have hport := (hd.port p).trans (s.admitted_port p q kSeal)
        refine ⟨_, rfl, ?catalog, ?reserve, ho, fun hn => ?erase, ?durable, ?nv, ?stack, ?commit, ?ctl, ?outstanding, ?outbound, ?other⟩
        case catalog => exact hd.catalog.trans (by simp [State.sealBegun])
        case reserve => exact hd.reserve.trans (by simp [State.sealBegun, imageReserve, imageSlots])
        case erase =>
          obtain ⟨hop, htasks⟩ := State.runTasks_erase_normal ((s.admitted p q kSeal).sealBegun_tasks q) (by simpa [State.sealBegun] using hn)
          refine ⟨hop, fun k => ?_⟩
          rw [State.acceptSeal_eq, htasks, State.admitted_store, ← Store.erase_mem_laterErases_iff]
          simp
        case durable => exact hd.durable.trans (by simp [State.sealBegun])
        case nv => exact hd.nv.trans (by simp [State.sealBegun])
        case stack => exact hd.stack.trans (by simp [State.sealBegun])
        case commit => exact hd.commit.trans (by simp [State.sealBegun])
        case ctl => exact hd.ctl.trans (by simp [State.sealBegun])
        case outstanding => rw [State.acceptSeal_eq, hport]; rfl
        case outbound => rw [State.acceptSeal_eq, hport]; rfl
        case other => exact (hd.port _).trans (s.admitted_port_other p q kSeal)
    · rw [if_pos hstate, if_neg hstate]
      exact congrArg Host.Outcome.next (State.refuse_admitted _ _ h.fresh)
  · obtain ⟨-, -, -, -, hslots⟩ := (sealValidation_none_iff es).mp h
    simpa using firstTooLarge_none_sum 0 (by omega) hslots
  · refine sealValidation_spec hids (fun e _ => linkNamesNumeric_false_iff hids e) (fun e _ => linkSamePersistence_false_iff hids e)
      (fun e _ => ?_) (fun e _ => defaultsSatisfy_false_iff hids e) fun e => ?_
    · rw [Bool.not_eq_false', onCycle_iff hids]
      rfl
    · rw [Nat.zero_add, slotsUpTo]
      exact Iff.of_eq (congrArg (fun f => 1018 < ((es.filter _).map f).sum) (funext fun x => by cases x.defn.shape <;> rfl))

end Sys2Proof.Machine
end

section
/-! SUPPORT. Processing a block of a bulk write that is not its last: its consistency, its first error and its items (R138, R139). -/

namespace Sys2Proof.Machine

set_option Elab.async false

open Sys2Proof

/-! ### What makes a block consistent (R138 step 2) -/

theorem WriteCtx.countOk_iff (w : WriteCtx) (b : Block) : w.countOk b = true ↔
    (b.index < w.blocks - 1 → b.count = 16) ∧ (b.index = w.blocks - 1 → b.count = w.declared - 16 * (w.blocks - 1)) ∧
    (w.blocks - 1 < b.index → 1 ≤ b.count ∧ b.count ≤ 16) := by
  simp only [WriteCtx.countOk, WriteCtx.lastIndex, show Config.itemsPerBlock = 16 from rfl]
  rcases lt_trichotomy b.index (w.blocks - 1) with h | h | h
  · simp [h, h.ne, h.asymm]
  · simp [h]
  · simp [h, h.ne', h.asymm]

theorem WriteCtx.consistent_iff (w : WriteCtx) (b : Block) (f : FullBlock) : w.consistent b = some f ↔
    b.full = some f ∧ w.countOk b = true ∧ (f.check.isSome = true ↔ b.index = w.blocks - 1) := by
  rw [WriteCtx.consistent]
  cases hfull : b.full with
  | none => simp
  | some g =>
    have hcheck : (g.check.isSome == (b.index == w.lastIndex)) = true ↔ (g.check.isSome = true ↔ b.index = w.blocks - 1) := by
      rw [beq_iff_eq, Bool.eq_iff_iff, beq_iff_eq, WriteCtx.lastIndex]
    simp only [Option.ite_none_right_eq_some, Bool.and_eq_true, Option.some.injEq, hcheck]
    constructor
    · rintro ⟨h, rfl⟩
      exact ⟨rfl, h⟩
    · rintro ⟨rfl, h⟩
      exact ⟨h, rfl⟩

/-! ### A block before the last (R138) -/

section
variable {p : Port} {w : WriteCtx} {b : Block} {rest : List Block} {s : State}
  (hctx : (s.port p).bulk = .writing w) (hbuf : w.buffer = b :: rest) (hmid : b.index ≠ w.blocks - 1)
include hctx hbuf hmid

omit hctx hbuf in
/-- What a block's items gave goes with the context that the block leaves. -/
theorem State.processBlock_middle {s' : State} {n : Nat} {ie : Option FirstError}
    (happ : applyItems p b.index 0 (w.itemsToApply b) s = (s', n, ie)) :
    s.processBlock p w b = s'.modPort p (fun x => { x with bulk := .writing (w.afterBlock b n ie) }) := by
  rw [State.processBlock, happ]
  dsimp only
  rw [if_neg (by exact hmid)]

theorem exec_middleBlock {s' : State} {n : Nat} {ie : Option FirstError}
    (happ : applyItems p b.index 0 (w.itemsToApply b) s = (s', n, ie)) :
    exec (.blockProcessing p) s = .next (s'.modPort p (fun x => { x with bulk := .writing (w.afterBlock b n ie) })) :=
  (exec_blockProcessing_writing hctx hbuf).trans (congrArg _ (State.processBlock_middle hmid happ))

/-- A block found at fault before its items leaves the values, and its error stands. -/
theorem exec_middleBlock_fails {e : FirstError} (herr : w.blockError b = some e) :
    exec (.blockProcessing p) s = .next (s.modPort p (fun x => { x with bulk := .writing (w.afterBlock b 0 (some e)) })) := by
  obtain ⟨happ, -⟩ := WriteCtx.nothingApplied_of_blockError herr p s
  rw [exec_middleBlock hctx hbuf hmid happ, WriteCtx.afterBlock, WriteCtx.afterBlock, herr]

end

section
variable {w : WriteCtx} {b : Block} {rest : List Block} (hbuf : w.buffer = b :: rest)
include hbuf

/-- The context after a block: the running check, the credit and the block's place, and the error found before its items or in them. -/
theorem WriteCtx.afterBlock_eq (n : Nat) (ie : Option FirstError) : w.afterBlock b n ie =
    { w with
      running := crc32Update w.running b.itemBytes
      firstError := match w.blockError b with | some e => some e | none => ie
      applied := w.applied + n, expected := b.index + 1, buffer := rest, creditsPending := w.creditsPending + 1 } := by
  rw [WriteCtx.afterBlock, hbuf, List.tail_cons] <;> rfl

end

/-! ### The items of a block, one equation per outcome (R139) -/

section
variable {p : Port} {blk i : Nat} {r : SetReq} {rs : List SetReq} {s : State}

theorem applyItems_fails {c : RefuseCode} (h : s.stageCheck p r = .error c) :
    applyItems p blk i (r :: rs) s = (s, 0, some { error := .item c, block := blk, item := i }) := by
  rw [applyItems, h]

theorem applyItems_passes {v : Value} {t : State} {n : Nat} {e : Option FirstError} (h : s.stageCheck p r = .ok v)
    (hrest : applyItems p blk (i + 1) rs (s.stage r.id v) = (t, n, e)) :
    applyItems p blk i (r :: rs) s = (t, n + 1, e) := by
  rw [applyItems, h]
  dsimp only
  rw [hrest]

end

/-- Port B is in TUNE exactly in SEALED with that mode in the setup record (R11). -/
theorem State.modeInForce_eq_tune_iff (s : State) :
    s.modeInForce = .tune ↔ s.catalog.state = .sealed ∧ s.catalog.setup.mode = .tune := by
  unfold State.modeInForce
  split
  · rename_i h
    simp [h]
  · rename_i h
    simp [h]

/-- Checks 6 and 7 of R38 as a bulk item meets them: port B in TUNE, then the pool. -/
theorem State.stageCheck_eq {p : Port} {r : SetReq} {s : State} {v : Value} {e : Entry}
    (hv : valueCheck s.catalog.entries Entry.working r.id r.value = .ok v) (he : findEntry s.catalog.entries r.id = some e) :
    s.stageCheck p r =
      if p = .B ∧ s.catalog.state = .sealed ∧ s.catalog.setup.mode = .tune ∧ e.defn.persistent = true then .error .notPermitted
      else if s.needsRecord r.id = true ∧ s.stack.free = 0 then .error .poolFull
      else .ok v := by
  rw [State.stageCheck, hv]
  dsimp only
  simp only [s.modeInForce_eq_tune_iff, he, Option.any_some, and_assoc]

/-- Settles O47: a block before the last at each of its checks (R138), its consistency, and each item in turn (R139). -/
theorem blockProcessingAppliesItems : Obligations.BlockProcessingAppliesItems := by
  refine ⟨fun p w b rest s hctx hbuf hmid => ⟨fun e he => ?_, fun hnone hord => ?_, fun hnone hord hcons => ?_, ?_⟩, fun w b f => ?_,
    fun p blk i s => rfl, fun p blk i r rs s => ⟨fun c hc => applyItems_fails (State.stageCheck_badValue hc), ?_⟩⟩
  · have herr := WriteCtx.blockError_earlier (b := b) he
    rw [exec_middleBlock_fails hctx hbuf hmid herr, WriteCtx.afterBlock_eq hbuf, herr, he]
    rfl
  · have herr := WriteCtx.blockError_order hnone hord
    rw [exec_middleBlock_fails hctx hbuf hmid herr, WriteCtx.afterBlock_eq hbuf, herr]
    rfl
  · have herr := WriteCtx.blockError_inconsistent hnone hord hcons
    rw [exec_middleBlock_fails hctx hbuf hmid herr, WriteCtx.afterBlock_eq hbuf, herr]
    rfl
  · intro hnone hord f hcons s' n e happ
    have herr := WriteCtx.blockError_none hnone hord hcons
    rw [← WriteCtx.itemsToApply_none herr hcons] at happ
    rw [exec_middleBlock hctx hbuf hmid happ, WriteCtx.afterBlock_eq hbuf, herr]
  · rw [w.consistent_iff, w.countOk_iff]
    tauto
  · intro v e f fs hv he hf
    have hcheck := State.stageCheck_eq (p := p) hv he
    split
    · rename_i htune
      exact applyItems_fails (hcheck.trans (if_pos htune))
    rename_i htune
    rw [if_neg htune] at hcheck
    split
    · rename_i hheld
      have hrec : s.needsRecord r.id = false := by
        rw [← Bool.not_eq_true, State.needsRecord_iff hf, not_not]
        exact hheld
      intro t n e happ
      rw [← State.stage_held hrec] at happ
      exact applyItems_passes (hcheck.trans (if_neg (by simp [hrec]))) happ
    rename_i hnew
    have hrec := (State.needsRecord_iff hf r.id).mpr hnew
    split
    · rename_i hempty
      exact applyItems_fails (hcheck.trans (if_pos ⟨hrec, hempty⟩))
    · rename_i hfree
      intro t n e happ
      rw [← State.stage_first hrec he hf] at happ
      exact applyItems_passes (hcheck.trans (if_neg fun h => hfree h.2)) happ

end Sys2Proof.Machine
end

section
/-! SUPPORT. A commit that ends without effect and what later events leave of its answer (R66); the supply warning with an append
pending (R100, R122). -/

namespace Sys2Proof.Machine

set_option Elab.async false

open Sys2Proof

/-! ### Answers and notices at a port -/

theorem PortState.answer_notices (x : PortState) (q : Byte) (b : Body) (keep : Bool) :
    (x.answer q b keep).notices = x.notices ∧ (x.answer q b keep).lost = x.lost := by
  unfold PortState.answer
  split <;> exact ⟨rfl, rfl⟩

/-- What a notice does to the queue and the lost count depends on these two only. -/
theorem PortState.takeNotice_congr {x y : PortState} (h : x.notices = y.notices ∧ x.lost = y.lost) (n : Notice) :
    (x.takeNotice n).notices = (y.takeNotice n).notices ∧ (x.takeNotice n).lost = (y.takeNotice n).lost := by
  obtain ⟨hn, hl⟩ := h
  rw [x.takeNotice_eq, y.takeNotice_eq, hn, hl]
  exact ⟨rfl, rfl⟩

/-! ### A commit that ends without effect (R66) -/

/-- The port of a commit that ends without effect: its lease starts again and the REFUSE is placed unless suppressed. -/
def InFlight.failed (c : InFlight) (period : Nat) (code : RefuseCode) (x : PortState) : PortState :=
  if c.suppressed then { x with lease := leaseOf period }
  else ({ x with lease := leaseOf period } : PortState).answer c.seq (.refuse kCommit code 0) true

section
variable (c : InFlight) (period : Nat) (code : RefuseCode) (x : PortState)

theorem InFlight.failed_notices : (c.failed period code x).notices = x.notices ∧ (c.failed period code x).lost = x.lost := by
  unfold InFlight.failed
  split
  · exact ⟨rfl, rfl⟩
  · exact PortState.answer_notices _ _ _ _

theorem InFlight.failed_lease : (c.failed period code x).lease = leaseOf period := by
  unfold InFlight.failed
  split
  · rfl
  · exact PortState.answer_lease _ _ _ _

theorem InFlight.failed_outbound {c : InFlight} {x : PortState} (hs : c.suppressed = false) (h : ∃ o ∈ x.outstanding, o.seq = c.seq) :
    (c.failed period code x).outbound = x.outbound ++ [{ seq := c.seq, body := .refuse kCommit code 0 }] := by
  rw [InFlight.failed, if_neg (by simp [hs])]
  exact PortState.answer_outbound (x := { x with lease := leaseOf period }) _ _ h

end

theorem State.commitFails_none {s : State} (h : s.commit = none) (code : RefuseCode) : s.commitFails code = s := by
  rw [State.commitFails, h]

theorem State.commitFails_eq {s : State} {c : InFlight} (h : s.commit = some c) (code : RefuseCode) :
    s.commitFails code = ({ s with commit := none } : State).modPort c.port (c.failed (s.leasePeriod c.port) code) := by
  rw [State.commitFails, h]
  obtain ⟨p, q, n, cs, pc, sup, run⟩ := c
  cases sup <;> cases p <;> rfl

/-- Nothing that an answer to a commit touches has changed: the Commit Unit, leases, queues, windows and the lease periods. -/
structure State.LinksKept (s t : State) : Prop where
  commit : t.commit = s.commit
  period : t.leasePeriod = s.leasePeriod
  lease : ∀ p, (t.port p).lease = (s.port p).lease
  outbound : ∀ p, (t.port p).outbound = (s.port p).outbound
  outstanding : ∀ p, (t.port p).outstanding = (s.port p).outstanding

theorem State.LinksKept.trans {s t u : State} (h : s.LinksKept t) (k : t.LinksKept u) : s.LinksKept u :=
  ⟨k.commit.trans h.commit, k.period.trans h.period, fun p => (k.lease p).trans (h.lease p),
    fun p => (k.outbound p).trans (h.outbound p), fun p => (k.outstanding p).trans (h.outstanding p)⟩

theorem State.leasePeriod_of_setup {s t : State} (h : t.catalog.setup = s.catalog.setup) : t.leasePeriod = s.leasePeriod := by
  funext p
  cases p <;> simp only [State.leasePeriod, h]

theorem State.StoreDiffers.linksKept {s t : State} (h : s.StoreDiffers t) : s.LinksKept t := by
  constructor
  · exact h.commit
  · exact State.leasePeriod_of_setup (by rw [h.catalog])
  all_goals exact fun p => by rw [h.port]

theorem State.noticeBoth_linksKept (s : State) (n : Notice) : s.LinksKept (s.noticeBoth n) := by
  constructor
  · rfl
  · exact State.leasePeriod_of_setup rfl
  all_goals exact fun p => by rw [s.noticeBoth_port, PortState.takeNotice_eq]

/-- The commit in flight `c` of the first state has ended in the second with this code, its answer placed unless suppressed (R66). -/
structure State.CommitFailed (s t : State) (c : InFlight) (code : RefuseCode) : Prop where
  commit : t.commit = none
  lease : (t.port c.port).lease = leaseOf (s.leasePeriod c.port)
  answered : c.suppressed = false → (∃ o ∈ (s.port c.port).outstanding, o.seq = c.seq) →
    (t.port c.port).outbound = (s.port c.port).outbound ++ [{ seq := c.seq, body := .refuse kCommit code 0 }]

theorem State.CommitFailed.after {s t u : State} {c : InFlight} {code : RefuseCode} (k : t.CommitFailed u c code)
    (h : s.LinksKept t) : s.CommitFailed u c code where
  commit := k.commit
  lease := by rw [k.lease, h.period]
  answered hs ho := by
    rw [← h.outstanding] at ho
    rw [k.answered hs ho, h.outbound]

theorem State.CommitFailed.andThen {s t u : State} {c : InFlight} {code : RefuseCode} (h : s.CommitFailed t c code)
    (k : t.LinksKept u) : s.CommitFailed u c code where
  commit := k.commit.trans h.commit
  lease := (k.lease _).trans h.lease
  answered hs ho := (k.outbound _).trans (h.answered hs ho)

theorem State.commitFails_failed {s : State} {c : InFlight} (h : s.commit = some c) (code : RefuseCode) :
    s.CommitFailed (s.commitFails code) c code := by
  have hport : (s.commitFails code).port c.port = c.failed (s.leasePeriod c.port) code (s.port c.port) := by
    rw [State.commitFails_eq h, State.port_modPort_self]
    rfl
  constructor
  · rw [State.commitFails_eq h, State.modPort_commit]
  · rw [hport, InFlight.failed_lease]
  · intro hs ho
    rw [hport, InFlight.failed_outbound _ _ hs ho]

/-! ### The notices of an event -/

/-- Each port has taken this notice, and no other. -/
def State.Told (s t : State) (n : Notice) : Prop :=
  ∀ p : Port, (t.port p).notices = ((s.port p).takeNotice n).notices ∧ (t.port p).lost = ((s.port p).takeNotice n).lost

/-- No port has taken or sent a notice. -/
def State.Untold (s t : State) : Prop := ∀ p : Port, (t.port p).notices = (s.port p).notices ∧ (t.port p).lost = (s.port p).lost

theorem State.Untold.trans {s t u : State} (h : s.Untold t) (k : t.Untold u) : s.Untold u := fun p =>
  ⟨(k p).1.trans (h p).1, (k p).2.trans (h p).2⟩

theorem State.Untold.told {s t : State} (h : s.Untold t) (n : Notice) : s.Told (t.noticeBoth n) n := fun p => by
  rw [t.noticeBoth_port]
  exact PortState.takeNotice_congr (h p) n

theorem State.Told.andThen {s t u : State} {n : Notice} (h : s.Told t n) (k : t.Untold u) : s.Told u n := fun p =>
  ⟨(k p).1.trans (h p).1, (k p).2.trans (h p).2⟩

theorem State.Told.after {s t u : State} {n : Notice} (k : t.Told u n) (h : s.Untold t) : s.Told u n := fun p =>
  ⟨(k p).1.trans (PortState.takeNotice_congr (h p) n).1, (k p).2.trans (PortState.takeNotice_congr (h p) n).2⟩

theorem State.StoreDiffers.untold {s t : State} (h : s.StoreDiffers t) : s.Untold t := fun p => by
  rw [h.port]
  exact ⟨rfl, rfl⟩

theorem State.untold_modPort (s : State) (p : Port) {f : PortState → PortState}
    (h : (f (s.port p)).notices = (s.port p).notices ∧ (f (s.port p)).lost = (s.port p).lost) : s.Untold (s.modPort p f) := by
  intro r
  cases p <;> cases r
  all_goals first | exact h | exact ⟨rfl, rfl⟩

theorem State.commitFails_untold (s : State) (code : RefuseCode) : s.Untold (s.commitFails code) := by
  cases h : s.commit with
  | none =>
    rw [State.commitFails_none h]
    exact fun _ => ⟨rfl, rfl⟩
  | some c =>
    rw [State.commitFails_eq h]
    exact State.untold_modPort ({ s with commit := none } : State) c.port (InFlight.failed_notices _ _ _ _)

/-! ### A pending append that is ended unwritten (R66, R89) -/

section
variable (s : State) (code : RefuseCode)

theorem State.cancelAppend_store : (s.cancelAppend code).store = { s.store with pend := none } := by
  unfold State.cancelAppend
  split
  · rename_i h
    rw [← h]
  · rw [State.commitFails_store]
    rfl

theorem State.cancelAppend_none {s : State} (h : s.store.pend = none) : s.cancelAppend code = s := by
  rw [State.cancelAppend, h]

theorem State.cancelAppend_untold : s.Untold (s.cancelAppend code) := by
  unfold State.cancelAppend
  split
  · exact fun _ => ⟨rfl, rfl⟩
  · exact (s.modStore_storeDiffers _ rfl rfl).untold.trans (State.commitFails_untold _ _)

theorem State.cancelAppend_failed {s : State} {a : PendingAppend} {c : InFlight} (ha : s.store.pend = some a) (hc : s.commit = some c) :
    s.CommitFailed (s.cancelAppend code) c code := by
  rw [State.cancelAppend, ha]
  exact (State.commitFails_failed (by exact hc) code).after
    (s.modStore_storeDiffers (fun st => { st with pend := none }) rfl rfl).linksKept

end

/-! ### The choice of an IDLE store with nothing asked of it (R88) -/

theorem State.roomAsked_none {s : State} (h : s.store.pend = none) : s.roomAsked = s := by
  unfold State.roomAsked State.requestRoom
  rw [h]
  dsimp only
  exact ite_id s

theorem State.chooseStart_none {s : State} (h : s.store.pend = none) : s.chooseStart = s.chooseWork := by
  rw [State.chooseStart, h]

theorem State.chooseWork_none {s : State} (h : s.store.compaction = .none) : s.chooseWork = s.chooseErase := by
  rw [State.chooseWork, h]

theorem State.reclaim_none {s : State} (h : s.store.compaction = .none) : s.reclaim = s := by
  rw [State.reclaim, h]

/-- With no append pending and no compaction asked for, the choice is between an erase and rest. -/
theorem State.choose_nothingAsked {s : State} (hp : s.store.pend = none) (hc : s.store.compaction = .none) :
    s.choose = if s.store.operation = .idle ∧ s.catalog.state = .sealed ∧ s.ready = true then s.chooseErase else s := by
  rw [State.choose_eq, State.roomAsked_none hp, State.chooseStart_none hp, State.chooseWork_none hc]

/-- Below the warning level nothing is started then (R100). -/
theorem State.choose_warned {s : State} (hp : s.store.pend = none) (hc : s.store.compaction = .none) (hw : s.ctl.supply = .warn) :
    s.choose = s := by
  rw [State.choose_nothingAsked hp hc, State.chooseErase, hw, State.reclaim_none hc]
  simp

theorem State.operationEnded_sealed {s : State} (h : s.catalog.state = .sealed) : s.operationEnded = s.choose := by
  rw [State.operationEnded, if_neg (by simp [h])]

/-! ### The supply falls to WARN (R100, R122) -/

theorem exec_warnCrossing {s : State} (hr : s.ctl.start = .ready) (hn : s.ctl.supply = .normal) :
    exec .warnCrossing s = .next ((s.setSupply .warn).storeWarned.noticeBoth .supplyWarn) := by
  change execWarnCrossing s = _
  rw [execWarnCrossing, if_pos ⟨by simp [hr], hn⟩, State.warn, if_pos (by simp [State.ready, State.setSupply, hr])]

theorem exec_warnCrossing_early {s : State} (hr : s.ctl.start ≠ .ready) (hh : s.ctl.start ≠ .held) (hn : s.ctl.supply = .normal) :
    exec .warnCrossing s = .next { s with ctl := { s.ctl with supply := .warn } } := by
  change execWarnCrossing s = _
  rw [execWarnCrossing, if_pos ⟨hh, hn⟩, State.warn, if_neg (by simpa [State.ready, State.setSupply] using hr)]
  rfl

theorem State.storeWarned_idle {s : State} (h : s.store.operation = .idle ∨ s.store.operation = .erasing) :
    s.storeWarned = (s.modStore Store.dropRequest).cancelAppend .supplyLow := by
  rcases h with h | h <;> simp [State.storeWarned, h]

theorem State.storeWarned_compacting {s : State} {g : GroupWrite} (h : s.store.operation = .compacting) (hg : s.store.writing = some g) :
    s.storeWarned = (((s.abandonImage g).modStore (fun st => { st with operation := .idle, compaction := .none })).cancelAppend
      .supplyLow).operationEnded := by
  simp [State.storeWarned, h, hg]

theorem Store.dropRequest_notRequested (st : Store) (a : Attempt) : st.dropRequest.compaction ≠ .requested a := by
  unfold Store.dropRequest
  cases h : st.compaction <;> simp [Compaction.isRequested]

/-- A change of the supply state alone touches no port and no commit. -/
theorem State.setSupply_linksKept (s : State) (x : Supply) : s.LinksKept (s.setSupply x) := by
  constructor
  · rfl
  · exact State.leasePeriod_of_setup rfl
  all_goals exact fun p => by cases p <;> rfl

theorem State.setSupply_untold (s : State) (x : Supply) : s.Untold (s.setSupply x) := fun p => by cases p <;> exact ⟨rfl, rfl⟩

/-- An image is abandoned beside the ports and the Commit Unit. -/
theorem State.abandonImage_linksKept (s : State) (g : GroupWrite) : s.LinksKept (s.abandonImage g) := by
  rw [State.abandonImage_eq]
  constructor
  · rfl
  · exact State.leasePeriod_of_setup rfl
  all_goals exact fun p => by cases p <;> rfl

theorem State.abandonImage_untold (s : State) (g : GroupWrite) : s.Untold (s.abandonImage g) := by
  rw [State.abandonImage_eq]
  exact fun p => by cases p <;> exact ⟨rfl, rfl⟩

theorem State.inProgressCounted_pend (s : State) : s.inProgressCounted.pend = s.store.pend := by
  unfold State.inProgressCounted
  split <;> rfl

theorem State.abandonImage_pend (s : State) (g : GroupWrite) : (s.abandonImage g).store.pend = s.store.pend := by
  rw [State.abandonImage_eq]
  exact s.inProgressCounted_pend

/-- The store after a warning beside an image of a compaction: the image abandoned and the pending append ended (R100). -/
def State.imageWarned (s : State) (g : GroupWrite) : State :=
  ((s.abandonImage g).modStore (fun st => { st with operation := .idle, compaction := .none })).cancelAppend .supplyLow

theorem State.imageWarned_work (s : State) (g : GroupWrite) :
    ((s.abandonImage g).modStore (fun st => { st with operation := .idle, compaction := .none })).WorkDiffers (s.imageWarned g) :=
  State.cancelAppend_workDiffers _ _

theorem State.imageWarned_store (s : State) (g : GroupWrite) : (s.imageWarned g).store =
    { (s.abandonImage g).store with operation := .idle, compaction := .none, pend := none } := State.cancelAppend_store _ _

/-- In WARN the store starts nothing after it has abandoned the image. -/
theorem State.storeWarned_image {s : State} {g : GroupWrite} (hop : s.store.operation = .compacting) (hg : s.store.writing = some g)
    (hseal : s.catalog.state = .sealed) (hw : s.ctl.supply = .warn) : s.storeWarned = s.imageWarned g := by
  have hwork := s.imageWarned_work g
  have hcat : (s.imageWarned g).catalog = s.catalog := hwork.catalog
  have hctl : (s.imageWarned g).ctl = s.ctl := hwork.ctl
  rw [State.storeWarned_compacting hop hg]
  change (s.imageWarned g).operationEnded = _
  rw [State.operationEnded_sealed (by rw [hcat, hseal])]
  exact State.choose_warned (by rw [s.imageWarned_store]) (by rw [s.imageWarned_store]) (by rw [hctl, hw])

/-- Settles O53: the warning with the store IDLE or erasing, beside an image, and before READY (R66, R100, R122). -/
theorem warningCancelsThePendingAppend : Obligations.WarningCancelsThePendingAppend := by
  refine ⟨fun s hr hn hop => ?_, fun s g a c hr hn hop hg hseal hp hc => ?_, fun s hr hh hn => exec_warnCrossing_early hr hh hn⟩
  · have hd := (s.setSupply .warn).modStore_storeDiffers Store.dropRequest rfl rfl
    have hwork := hd.work.trans (State.cancelAppend_workDiffers _ .supplyLow)
    have hstore := ((s.setSupply .warn).modStore Store.dropRequest).cancelAppend_store .supplyLow
    refine ⟨_, exec_warnCrossing hr hn, ?_⟩
    rw [State.storeWarned_idle (by exact hop)]
    refine ⟨hwork.ctl, ?_, ?_, ?_, ?_, ?_, hwork.durable, hwork.stack, hwork.catalog, hwork.nv, ?_, fun hp => ?_,
      fun a c hp hc => ?_⟩
    · rw [State.noticeBoth_store, hstore]
    · rw [State.noticeBoth_store, hstore]
      exact Store.dropRequest_notRequested _ _
    · rw [State.noticeBoth_store, hstore]
      exact Store.dropRequest_notRequested _ _
    · rw [State.noticeBoth_store, hstore]
      rfl
    · rw [State.noticeBoth_store, hstore]
      rfl
    · exact (((s.setSupply_untold .warn).trans hd.untold).trans (State.cancelAppend_untold _ _)).told .supplyWarn
    · rw [State.cancelAppend_none _ (by exact hp)]
      exact ⟨rfl, rfl, rfl⟩
    · have hfail := ((State.cancelAppend_failed .supplyLow (s := (s.setSupply .warn).modStore Store.dropRequest) hp hc).after
        ((s.setSupply_linksKept .warn).trans hd.linksKept)).andThen (State.noticeBoth_linksKept _ .supplyWarn)
      exact ⟨hfail.commit, hfail.lease, hfail.answered⟩
  · have hwork := (s.setSupply .warn).imageWarned_work g
    have hstore := (s.setSupply .warn).imageWarned_store g
    have hab := (s.setSupply .warn).abandonImage_eq g
    have hd := ((s.setSupply .warn).abandonImage g).modStore_storeDiffers (fun st => { st with operation := .idle, compaction := .none })
      rfl rfl
    obtain ⟨-, -, hdur, -⟩ := State.Sound.inProgressCounted_same (s.setSupply .warn)
    refine ⟨_, exec_warnCrossing hr hn, ?_⟩
    rw [State.storeWarned_image (s := s.setSupply .warn) hop hg (by exact hseal) rfl]
    have hfail := ((State.cancelAppend_failed .supplyLow
        (s := ((s.setSupply .warn).abandonImage g).modStore (fun st => { st with operation := .idle, compaction := .none }))
        ((State.abandonImage_pend _ g).trans hp) (by rw [State.modStore_commit, (State.abandonImage_linksKept _ g).commit]; exact hc)).after
      (((s.setSupply_linksKept .warn).trans (State.abandonImage_linksKept _ g)).trans hd.linksKept)).andThen
      (State.noticeBoth_linksKept _ .supplyWarn)
    refine ⟨hwork.ctl, ?_, hfail.commit, ?_, ?_, ?_, ?_, ?_, hwork.stack, hwork.catalog, hfail.lease, ?_, hfail.answered⟩
    · rw [State.noticeBoth_store, hstore]
    · rw [State.noticeBoth_store, hstore]
    · rw [State.noticeBoth_store, hstore]
    · rw [State.noticeBoth_store, hstore, hab]
      rfl
    · rw [State.noticeBoth_store, hstore, hab]
      rfl
    · rw [State.noticeBoth_store, hstore, hab]
      exact hdur
    · exact ((((s.setSupply_untold .warn).trans (State.abandonImage_untold _ g)).trans hd.untold).trans
        (State.cancelAppend_untold _ _)).told .supplyWarn

end Sys2Proof.Machine
end

section
/-! SUPPORT. What the store starts when an operation has ended, with no append pending (R88); the durability point (R61 to R65). -/

namespace Sys2Proof.Machine

set_option Elab.async false

open Sys2Proof

/-! ### Starting work leaves the pending append and the mode -/

/-- The store has started work: nothing but the store differs, and of it neither the pending append nor the mode. -/
structure State.WorkStarts (s t : State) : Prop extends s.StoreDiffers t where
  pend : t.store.pend = s.store.pend
  mode : t.store.mode = s.store.mode

theorem State.WorkStarts.refl (s : State) : s.WorkStarts s := ⟨.refl s, rfl, rfl⟩

theorem State.WorkStarts.trans {s t u : State} (h : s.WorkStarts t) (k : t.WorkStarts u) : s.WorkStarts u :=
  ⟨h.toStoreDiffers.trans k.toStoreDiffers, k.pend.trans h.pend, k.mode.trans h.mode⟩

section
variable (s : State)

theorem State.workStarts_modStore (f : Store → Store) (hd : (f s.store).durable = s.store.durable)
    (hr : (f s.store).reserve = s.store.reserve) (hp : (f s.store).pend = s.store.pend) (hm : (f s.store).mode = s.store.mode) :
    s.WorkStarts (s.modStore f) := ⟨s.modStore_storeDiffers f hd hr, hp, hm⟩

/-- The next program of a group changes the table, the sector opened last, the restart note, the array's operation and the group. -/
theorem State.programNext_eq : ∃ table openedLast restartNote arrayOp writing, s.programNext =
    s.modStore (fun st => { st with
      table := table, openedLast := openedLast, restartNote := restartNote, arrayOp := arrayOp, writing := writing }) := by
  unfold State.programNext State.openSector
  repeat' split
  all_goals exact ⟨_, _, _, _, _, rfl⟩

theorem State.programNext_workStarts : s.WorkStarts s.programNext := by
  obtain ⟨_, _, _, _, _, h⟩ := s.programNext_eq
  rw [h]
  exact s.workStarts_modStore _ rfl rfl rfl rfl

theorem State.startErase_workStarts (k : Nat) : s.WorkStarts (s.startErase k) := s.workStarts_modStore _ rfl rfl rfl rfl

theorem State.startCompaction_workStarts (a : Attempt) : s.WorkStarts (s.startCompaction a) := by
  refine (s.workStarts_modStore _ ?_ ?_ ?_ ?_).trans (State.programNext_workStarts _)
  all_goals
    dsimp only
    split <;> rfl

theorem State.compactionTest_workStarts : s.WorkStarts s.compactionTest := by
  unfold State.compactionTest
  split
  · exact s.workStarts_modStore _ rfl rfl rfl rfl
  · exact .refl s

theorem State.compactionTest_table : s.compactionTest.store.table = s.store.table := by
  unfold State.compactionTest
  split <;> rfl

theorem State.startWipeErase_workStarts : s.WorkStarts s.startWipeErase := by
  refine (s.workStarts_modStore (fun st =>
    { st with operation := .wipeErase, wipeFault := false, tasks := st.eraseTasks ++ [.retireMap] }) rfl rfl rfl rfl).trans ?_
  rw [State.startWipeErase, State.runTasks, State.modStore_store, Store.eraseTasks_eq]
  dsimp only [List.cons_append]
  split
  · exact .refl _
  · exact State.workStarts_modStore _ _ rfl rfl rfl rfl

end

/-! ### The store's choice with no append pending (R88, R99) -/

section
variable {s : State} (hp : s.store.pend = none)
include hp

/-- With no append pending READ_ONLY ends nothing but a requested compaction. -/
theorem State.enterReadOnly_none : s.enterReadOnly =
    (s.modStore (fun st => ({ st with mode := .readOnly } : Store).dropRequest)).noticeBoth
      (.storeReadOnly (s.store.count .retired)) := by
  unfold State.enterReadOnly
  dsimp only
  split
  · rfl
  · rw [State.cancelAppend_none _ (by exact hp)]
    rfl

/-- Work has started, or the store has entered READ_ONLY with its notice. -/
def State.Chosen (s t : State) : Prop :=
  s.WorkStarts t ∨ ∃ u, s.StoreDiffers u ∧ u.store.pend = none ∧ u.store.mode = .readOnly ∧
    t = u.noticeBoth (.storeReadOnly (s.store.count .retired))

/-- Either way only the store differs, and each port has taken at most the notice of READ_ONLY. -/
theorem State.Chosen.outcome {t : State} (h : s.Chosen t) : s.WorkDiffers t ∧ t.commit = s.commit ∧ t.store.pend = none ∧
    ∃ ns : List Notice, (ns = [] ∨ ns = [.storeReadOnly (s.store.count .retired)]) ∧
      ∀ p, t.port p = ns.foldl PortState.takeNotice (s.port p) := by
  rcases h with h | ⟨u, hd, hu, -, rfl⟩
  · exact ⟨h.work, h.commit, h.pend.trans hp, [], .inl rfl, h.port⟩
  · refine ⟨hd.work.trans (State.noticeBoth_workDiffers _ _), hd.commit, hu, _, .inr rfl, fun p => ?_⟩
    rw [State.noticeBoth_port, hd.port]
    rfl

theorem State.reclaim_chosen : s.Chosen s.reclaim := by
  unfold State.reclaim
  split
  · split
    · right
      have hu : (s.modStore (fun st => { st with compaction := .none })).StoreDiffers _ :=
        State.modStore_storeDiffers _ (fun st => ({ st with mode := .readOnly } : Store).dropRequest) rfl rfl
      exact ⟨_, (s.modStore_storeDiffers _ rfl rfl).trans hu, hp, rfl, State.enterReadOnly_none hp⟩
    · exact .inl (.refl s)
  · exact .inl (.refl s)
  · exact .inl (.refl s)

theorem State.chooseErase_chosen : s.Chosen s.chooseErase := by
  unfold State.chooseErase
  split
  · split
    · exact .inl (s.startErase_workStarts _)
    · exact State.reclaim_chosen hp
  · exact State.reclaim_chosen hp

theorem State.chooseWork_chosen : s.Chosen s.chooseWork := by
  unfold State.chooseWork
  split
  · split
    · exact .inl (s.startCompaction_workStarts _)
    · exact State.chooseErase_chosen hp
  · exact State.chooseErase_chosen hp
  · exact State.chooseErase_chosen hp

theorem State.choose_chosen : s.Chosen s.choose := by
  rw [State.choose_eq]
  split
  · rw [State.roomAsked_none hp, State.chooseStart_none hp]
    exact State.chooseWork_chosen hp
  · exact .inl (.refl s)

theorem State.operationEnded_chosen : s.Chosen s.operationEnded := by
  unfold State.operationEnded
  split
  · exact .inl s.startWipeErase_workStarts
  · exact State.choose_chosen hp

end

/-! ### Runs of notices -/

/-- A run of notices acts on the queue and the lost count only. -/
theorem PortState.takeNotices_congr (ns : List Notice) {x y : PortState} (h : x.notices = y.notices ∧ x.lost = y.lost) :
    (ns.foldl PortState.takeNotice x).notices = (ns.foldl PortState.takeNotice y).notices ∧
    (ns.foldl PortState.takeNotice x).lost = (ns.foldl PortState.takeNotice y).lost := by
  induction ns generalizing x y with
  | nil => exact h
  | cons n ns ih => exact ih (PortState.takeNotice_congr h n)

/-! ### The durability point (R61 to R65) -/

section
variable {s : State} {c : InFlight}

theorem State.changesTold_port (s : State) (c : InFlight) (p : Port) : (s.changesTold c).port p =
    (changedNotices c.changes c.number (s.port p).watch).foldl PortState.takeNotice (s.port p) := by cases p <;> rfl

/-- Dropping the owner stops its timer and touches nothing else of a port. -/
theorem State.dropOwner_port (s : State) (p : Port) :
    s.dropOwner.port p = if s.stack.owner = some p then { s.port p with lease := .stopped } else s.port p := by
  rw [State.dropOwner_eq]
  cases h : s.stack.owner with
  | none => simp
  | some r => cases r <;> cases p <;> simp [State.modPort]

theorem State.releaseAtZero_ctl (s : State) : s.releaseAtZero.ctl = s.ctl := by
  unfold State.releaseAtZero State.release
  split
  · rw [State.noticeBoth_ctl, State.dropOwner_eq]
    split <;> simp
  · rfl

/-- What the release at depth 0 does to a port: its timer stopped if it was the owner, and OWNER_CHANGED. -/
theorem State.release_port (s : State) (p : Port) : s.release.port p =
    (if s.stack.owner = some p then { s.port p with lease := .stopped } else s.port p).takeNotice (.ownerChanged none) := by
  rw [State.release, State.noticeBoth_port, State.dropOwner_port]

variable {f : Frame} (hf : s.stack.frames = [f])
include hf

theorem State.changesReleased_release (c : InFlight) : (s.changesTold c).releaseAtZero = (s.changesTold c).release := by
  rw [State.releaseAtZero, if_pos]
  simp [State.changesTold, State.madeDurable, Stack.freeTop, hf]

theorem State.changesReleased_stack (c : InFlight) : (s.changesTold c).releaseAtZero.stack =
    { frames := [], owner := none, free := s.stack.free + f.undo.length } := by
  rw [State.changesReleased_release hf, State.release_stack]
  simp [State.changesTold, State.madeDurable, Stack.freeTop, hf]

/-- A port when its commit has become durable and ownership has been released, before the REPLY. -/
theorem State.changesReleased_port (c : InFlight) (p : Port) :
    ((s.changesTold c).releaseAtZero.port p).notices = ((changedNotices c.changes c.number (s.port p).watch ++
      [Notice.ownerChanged none]).foldl PortState.takeNotice (s.port p)).notices ∧
    ((s.changesTold c).releaseAtZero.port p).lost = ((changedNotices c.changes c.number (s.port p).watch ++
      [Notice.ownerChanged none]).foldl PortState.takeNotice (s.port p)).lost ∧
    ((s.changesTold c).releaseAtZero.port p).outbound = (s.port p).outbound ∧
    ((s.changesTold c).releaseAtZero.port p).outstanding = (s.port p).outstanding ∧
    (s.stack.owner = some p → ((s.changesTold c).releaseAtZero.port p).lease = .stopped) := by
  have howner : (s.changesTold c).stack.owner = s.stack.owner := by
    simp [State.changesTold, State.madeDurable, Stack.freeTop, hf]
  obtain ⟨N, L, htold⟩ := PortState.takeNotices_frame (changedNotices c.changes c.number (s.port p).watch) (s.port p)
  rw [State.changesReleased_release hf, State.release_port, howner, State.changesTold_port, List.foldl_append, List.foldl_cons,
    List.foldl_nil]
  refine ⟨?_, ?_, ?_, ?_, fun ho => ?_⟩
  · exact (PortState.takeNotice_congr (by split <;> exact ⟨rfl, rfl⟩) _).1
  · exact (PortState.takeNotice_congr (by split <;> exact ⟨rfl, rfl⟩) _).2
  · rw [PortState.takeNotice_eq, htold]
    split <;> rfl
  · rw [PortState.takeNotice_eq, htold]
    split <;> rfl
  · rw [PortState.takeNotice_eq, if_pos ho]

end

/-! ### The end of a slot program (R80, R85) -/

/-- The store once a slot of a sector has been programmed: the slot in use, the group one slot further. -/
def State.slotStored (s : State) (g : GroupWrite) (k : Nat) (m : Slot) : State :=
  { s with
    nv := s.nv.appendSlot k m
    store := { s.store.useSlot k with arrayOp := .none, writing := some { g with remaining := g.remaining.tail } } }

section
variable {s : State} {k : Nat} {m : Slot} {g : GroupWrite} (ha : s.store.arrayOp = .slot k m) (hg : s.store.writing = some g)
include ha hg

theorem exec_slotProgrammed (mapOk : Bool) : exec (.slotProgramDone true mapOk) s = .next (s.slotProgrammed g k m) := by
  change execSlotProgramDone true mapOk s = _
  rw [execSlotProgramDone, State.programEnds, ha]
  dsimp only
  rw [hg]
  rfl

theorem exec_closeMark (hm : g.remaining = [m]) (mapOk : Bool) :
    exec (.slotProgramDone true mapOk) s = .next ((s.slotStored g k m).groupClosed g) := by
  rw [exec_slotProgrammed ha hg, State.slotProgrammed, hm]
  rfl

end

/-- One more slot in use retires no sector. -/
theorem Store.useSlot_retired (st : Store) (k : Nat) : (st.useSlot k).count .retired = st.count .retired := by
  rw [Store.useSlot, Store.modRec, Store.count, Store.count, List.filter_map, List.length_map]
  congr 1
  apply List.filter_congr
  intro x _
  dsimp only [Function.comp]
  split
  · dsimp only
    split
    · rename_i h
      simp [h.2]
    · rfl
  · rfl

/-- The group of a COMMIT has closed: the store IDLE with nothing pending, before the durability point (R90). -/
def State.appendClosed (s : State) : State :=
  s.modStore (fun st => { st with writing := none, arrayOp := .none, restartNote := false, operation := .idle, pend := none })

theorem State.groupClosed_appending {s : State} (h : s.store.operation = .appending) (g : GroupWrite) :
    s.groupClosed g = s.appendClosed.durabilityPoint.compactionTest.operationEnded := by
  rw [State.groupClosed, h]
  rfl

/-- The REPLY of a commit, unless suppressed, is the last part of the durability point. -/
theorem State.durabilityPoint_port {s : State} {c : InFlight} (hc : s.commit = some c) (p : Port) : s.durabilityPoint.port p =
    if p = c.port ∧ c.suppressed = false then ((s.changesTold c).releaseAtZero.port p).answer c.seq (.reply kCommit
      (.commit c.number c.changes.length c.persistentCount (s.changesTold c).releaseAtZero.stack.free)) true
    else (s.changesTold c).releaseAtZero.port p := by
  rw [State.durabilityPoint_eq hc]
  cases hs : c.suppressed with
  | true => simp
  | false =>
    rw [if_neg Bool.false_ne_true]
    split
    · rename_i h
      rw [h.1, State.reply_port]
    · rename_i h
      have hp : p = otherPort c.port := by
        revert h
        cases p <;> cases c.port <;> simp [otherPort]
      rw [hp]
      exact State.port_modPort_other _ _ _

/-- Beside the ports the durability point leaves what its first part and the release leave. -/
theorem State.durabilityPoint_same {s : State} {c : InFlight} (hc : s.commit = some c) :
    s.durabilityPoint.catalog = (s.changesTold c).releaseAtZero.catalog ∧
    s.durabilityPoint.stack = (s.changesTold c).releaseAtZero.stack ∧ s.durabilityPoint.commit = none ∧
    s.durabilityPoint.store = { s.store with durable := c.number } ∧ s.durabilityPoint.nv = (s.changesTold c).releaseAtZero.nv ∧
    s.durabilityPoint.ctl = (s.changesTold c).releaseAtZero.ctl := by
  rw [← State.changesReleased_store s c, ← State.changesReleased_commit s c, State.durabilityPoint_eq hc]
  split
  · exact ⟨rfl, rfl, rfl, rfl, rfl, rfl⟩
  · simp

/-- Settles O33: the close mark of a COMMIT group, its values, notices and REPLY in one event (R61 to R65, R90). -/
theorem closeMarkIsTheDurabilityPoint : Obligations.CloseMarkIsTheDurabilityPoint := by
  intro s k m g c f mapOk ha hg hm hop hc hf
  have hexec := exec_closeMark ha hg hm mapOk
  rw [State.groupClosed_appending (by exact hop)] at hexec
  -- the state of the close mark, and the one its durability point leaves
  obtain ⟨u, hu⟩ : ∃ u, u = (s.slotStored g k m).appendClosed := ⟨_, rfl⟩
  rw [← hu] at hexec
  have hcu : u.commit = some c := hu ▸ hc
  have hfu : u.stack.frames = [f] := hu ▸ hf
  have hport (p : Port) : u.port p = s.port p := by rw [hu]; cases p <;> rfl
  have hretired : u.store.count .retired = s.store.count .retired := hu ▸ s.store.useSlot_retired k
  obtain ⟨hcat, hstack, hcommit, hstore, hnv, hctl⟩ := State.durabilityPoint_same hcu
  -- the compaction test and the store's choice leave all of it, but for the notice of READ_ONLY
  have htest := u.durabilityPoint.compactionTest_workStarts
  have hpend : u.durabilityPoint.compactionTest.store.pend = none := by
    rw [htest.pend, hstore, hu]
    rfl
  obtain ⟨hwork, htcommit, htpend, ns, hns, htport⟩ := (State.operationEnded_chosen hpend).outcome hpend
  have hcount : u.durabilityPoint.compactionTest.store.count .retired = s.store.count .retired := by
    rw [Store.count, State.compactionTest_table, hstore]
    exact hretired
  rw [hcount, Store.count_eq] at hns
  have hwork := htest.work.trans hwork
  obtain ⟨v, hv⟩ : ∃ v, v = u.durabilityPoint.compactionTest.operationEnded := ⟨_, rfl⟩
  rw [← hv] at hexec hwork htcommit htpend htport
  have hd (p : Port) : v.port p = ns.foldl PortState.takeNotice (u.durabilityPoint.port p) := by rw [htport, htest.port]
  refine ⟨v, hexec, ?catalog, ?durable, ?stack, ?commit, htpend, ?nv, ?ctl, ⟨ns, hns, fun p => ?notices⟩, fun p ho => ?lease,
    fun p hp => ?other, fun hs => ?suppressed, fun hs ho => ?reply⟩
  case catalog =>
    rw [hwork.catalog, hcat, State.releaseAtZero_catalog, hu]
    rfl
  case durable => rw [hwork.durable, hstore]
  case stack =>
    rw [hwork.stack, hstack, State.changesReleased_stack hfu, hu]
    rfl
  case commit => rw [htcommit, htest.commit, hcommit]
  case nv =>
    rw [hwork.nv, hnv, (State.releaseAtZero_same _).2.1, hu]
    rfl
  case ctl =>
    rw [hwork.ctl, hctl, State.releaseAtZero_ctl, hu]
    rfl
  case notices =>
    rw [hd, List.foldl_append, ← hport]
    refine (PortState.takeNotices_congr ns ?_).1
    obtain ⟨hn, hl, -⟩ := State.changesReleased_port hfu c p
    rw [State.durabilityPoint_port hcu]
    split
    · obtain ⟨hn', hl'⟩ := PortState.answer_notices ((u.changesTold c).releaseAtZero.port p) c.seq (.reply kCommit
        (.commit c.number c.changes.length c.persistentCount (u.changesTold c).releaseAtZero.stack.free)) true
      exact ⟨hn'.trans hn, hl'.trans hl⟩
    · exact ⟨hn, hl⟩
  case lease =>
    obtain ⟨-, -, -, -, hl⟩ := State.changesReleased_port hfu c p
    obtain ⟨N, L, hns⟩ := PortState.takeNotices_frame ns (u.durabilityPoint.port p)
    rw [hd, hns, State.durabilityPoint_port hcu]
    dsimp only
    have howner : u.stack.owner = some p := hu ▸ ho
    split
    · rw [PortState.answer_lease, hl howner]
    · exact hl howner
  case other =>
    obtain ⟨-, -, hout, -, -⟩ := State.changesReleased_port hfu c p
    obtain ⟨N, L, hns⟩ := PortState.takeNotices_frame ns (u.durabilityPoint.port p)
    rw [hd, hns, State.durabilityPoint_port hcu, if_neg (fun h => hp h.1), ← hport]
    exact hout
  case suppressed =>
    obtain ⟨-, -, hout, -, -⟩ := State.changesReleased_port hfu c c.port
    obtain ⟨N, L, hns⟩ := PortState.takeNotices_frame ns (u.durabilityPoint.port c.port)
    rw [hd, hns, State.durabilityPoint_port hcu, if_neg (by simp [hs]), ← hport]
    exact hout
  case reply =>
    obtain ⟨-, -, hout, hoo, -⟩ := State.changesReleased_port hfu c c.port
    obtain ⟨N, L, hns⟩ := PortState.takeNotices_frame ns (u.durabilityPoint.port c.port)
    rw [hd, hns, State.durabilityPoint_port hcu, if_pos ⟨rfl, hs⟩]
    dsimp only
    rw [PortState.answer_outbound _ _ (by rw [hoo, hport]; exact ho), hout, hport, State.changesReleased_stack hfu, hu]
    rfl

end Sys2Proof.Machine
end

section
/-! SUPPORT. The store's choice of work, one equation per branch (R88, R89, R91, R93, R99), and where the program of a group's next slot
starts (R83 to R85). -/

namespace Sys2Proof.Machine

set_option Elab.async false

open Sys2Proof

/-! ### The sector table -/

section
variable (st : Store)

theorem Store.noStale_iff : st.noStale = true ↔ ∀ x ∈ st.table, x.role ≠ .stale ∧ x.role ≠ .erasing := by
  simp [Store.noStale]

theorem Store.filling_eq_none_iff : st.filling = none ↔ ∀ x ∈ st.table, x.role ≠ .filling := by simp [Store.filling]

/-- The sector that is opened next, in the words of the claims (R83). -/
theorem Store.nextFree_eq : st.nextFree =
    (ringOrderAfter st.openedLast).find? (fun i => (st.rec? i).any (fun x => decide (x.role = .free))) := rfl

theorem Store.closeOff_filling : st.closeOff.filling = none := by
  rw [Store.filling_eq_none_iff, Store.closeOff]
  intro x hx
  obtain ⟨y, -, rfl⟩ := List.mem_map.mp hx
  split
  · exact nofun
  · assumption

/-- A closed off sector has left the FILLING ones for the FULL ones, so the count of any other role stays. -/
theorem Store.closeOff_count {r : Role} (hfill : r ≠ .filling) (hfull : r ≠ .full) : st.closeOff.count r = st.count r := by
  rw [Store.closeOff, Store.count, Store.count, List.filter_map, List.length_map]
  congr 1
  apply List.filter_congr
  intro x _
  dsimp only [Function.comp]
  split
  · rename_i hx
    rw [hx, beq_eq_false_iff_ne.mpr hfull.symm, beq_eq_false_iff_ne.mpr hfill.symm]
  · rfl

/-- With no sector FILLING the free space is that of the FREE sectors (R89). -/
theorem Store.freeSpace_noFilling {st : Store} (h : st.filling = none) : st.freeSpace = 255 * st.count .free := by
  rw [Store.freeSpace, Store.left, h]
  exact Nat.zero_add _

theorem Store.closeOff_freeSpace : st.closeOff.freeSpace = 255 * st.count .free := by
  rw [Store.freeSpace_noFilling st.closeOff_filling, st.closeOff_count (r := .free) (by decide) (by decide)]

/-- The highest generation bounds those of the table, and one of them has it; there is none where no sector has one. -/
theorem Store.highestGeneration_spec : match st.highestGeneration with
    | none => ∀ x ∈ st.table, x.generation = none
    | some g => (∃ x ∈ st.table, x.generation = some g) ∧ ∀ x ∈ st.table, ∀ h, x.generation = some h → h ≤ g := by
  suffices h : ∀ (l seen : List SectorRec) (m : Option Nat),
      (match m with
        | none => ∀ x ∈ seen, x.generation = none
        | some g => (∃ x ∈ seen, x.generation = some g) ∧ ∀ x ∈ seen, ∀ h, x.generation = some h → h ≤ g) →
      match l.foldl (fun m x => match m, x.generation with
        | some a, some b => some (max a b)
        | some a, none => some a
        | none, g => g) m with
      | none => ∀ x ∈ seen ++ l, x.generation = none
      | some g => (∃ x ∈ seen ++ l, x.generation = some g) ∧ ∀ x ∈ seen ++ l, ∀ h, x.generation = some h → h ≤ g by
    exact h st.table [] none nofun
  intro l
  induction l with
  | nil => exact fun seen m h => by simpa using h
  | cons y ys ih =>
    intro seen m h
    rw [List.foldl_cons, ← List.singleton_append, ← List.append_assoc]
    refine ih (seen ++ [y]) _ ?_
    cases m with
    | none =>
      cases hy : y.generation with
      | none =>
        intro x hx
        rcases List.mem_append.mp hx with hx | hx
        · exact h x hx
        · rw [List.mem_singleton.mp hx, hy]
      | some b =>
        refine ⟨⟨y, by simp, hy⟩, fun x hx g hg => ?_⟩
        rcases List.mem_append.mp hx with hx | hx
        · rw [h x hx] at hg
          cases hg
        · rw [List.mem_singleton.mp hx, hy, Option.some.injEq] at hg
          exact hg.ge
    | some a =>
      obtain ⟨⟨z, hz, hza⟩, hbound⟩ := h
      cases hy : y.generation with
      | none =>
        refine ⟨⟨z, List.mem_append_left _ hz, hza⟩, fun x hx g hg => ?_⟩
        rcases List.mem_append.mp hx with hx | hx
        · exact hbound x hx g hg
        · rw [List.mem_singleton.mp hx, hy] at hg
          cases hg
      | some b =>
        refine ⟨?_, fun x hx g hg => ?_⟩
        · rcases le_total a b with hab | hab
          · exact ⟨y, by simp, by rw [hy, max_eq_right hab]⟩
          · exact ⟨z, List.mem_append_left _ hz, by rw [hza, max_eq_left hab]⟩
        · rcases List.mem_append.mp hx with hx | hx
          · exact le_max_of_le_left (hbound x hx g hg)
          · rw [List.mem_singleton.mp hx, hy, Option.some.injEq] at hg
            exact le_max_of_le_right hg.ge

end

/-! ### The generation of the sector opened next (R83) -/

theorem State.nextGeneration_base {s : State} (h : ∀ x ∈ s.store.table, x.generation = none) : s.nextGeneration = s.nv.base := by
  have hspec := s.store.highestGeneration_spec
  unfold State.nextGeneration
  cases hg : s.store.highestGeneration with
  | none => rfl
  | some g =>
    rw [hg] at hspec
    obtain ⟨⟨x, hx, hxg⟩, -⟩ := hspec
    rw [h x hx] at hxg
    cases hxg

theorem State.nextGeneration_above {s : State} {x : SectorRec} {h : Nat} (hx : x ∈ s.store.table) (hg : x.generation = some h)
    (hmax : ∀ y ∈ s.store.table, ∀ e, y.generation = some e → e ≤ h) : s.nextGeneration = h + 1 := by
  have hspec := s.store.highestGeneration_spec
  unfold State.nextGeneration
  cases hm : s.store.highestGeneration with
  | none =>
    rw [hm] at hspec
    rw [hspec x hx] at hg
    cases hg
  | some m =>
    rw [hm] at hspec
    obtain ⟨⟨y, hy, hym⟩, hbound⟩ := hspec
    rw [le_antisymm (hmax y hy m hym) (hbound x hx h hg)]

theorem State.lt_nextGeneration {s : State} {x : SectorRec} {h : Nat} (hx : x ∈ s.store.table) (hg : x.generation = some h) :
    h < s.nextGeneration := by
  have hspec := s.store.highestGeneration_spec
  unfold State.nextGeneration
  cases hm : s.store.highestGeneration with
  | none =>
    rw [hm] at hspec
    rw [hspec x hx] at hg
    cases hg
  | some m =>
    rw [hm] at hspec
    exact Nat.lt_succ_of_le (hspec.2 x hx h hg)

/-- Where a program starts depends on the table, the sector opened last and the restart note only. -/
theorem Store.Starts.congr {st st' t : Store} {base : Nat} {c : Slot} (h : st.Starts base c t) (ht : st'.table = st.table)
    (ho : st'.openedLast = st.openedLast) (hn : st'.restartNote = st.restartNote) : st'.Starts base c t := by
  have hrec : st'.rec? = st.rec? := by
    funext k
    rw [Store.rec?, ht, Store.rec?]
  unfold Store.Starts at h ⊢
  rw [ht, ho, hn, hrec]
  exact h

/-! ### Where the next slot is programmed (R83 to R85) -/

section
variable {s : State} {g : GroupWrite} {c : Slot} {more : List Slot} (hg : s.store.writing = some g) (hm : g.remaining = c :: more)
include hg hm

theorem State.programNext_filling {x : SectorRec} (hx : s.store.filling = some x) : s.programNext = s.modStore (fun st =>
    { st with
      arrayOp := .slot x.sector c
      writing := some { g with
        begun := some (g.begun.getD { sector := x.sector, generation := x.generation, shared := decide (1 < x.used) })
        sectors := if x.sector ∈ g.sectors then g.sectors else g.sectors ++ [x.sector] } }) := by
  rw [State.programNext, hg]
  dsimp only
  rw [hm]
  dsimp only
  rw [hx]

theorem State.programNext_opens {j : Nat} (hx : s.store.filling = none) (hj : s.store.nextFree = some j) :
    s.programNext = s.openSector g j := by
  rw [State.programNext, hg]
  dsimp only
  rw [hm]
  dsimp only
  rw [hx]
  dsimp only
  rw [hj]

/-- The group goes on as it is, wherever its next slot goes. -/
theorem State.programNext_writing : ∃ w, s.programNext.store.writing = some w ∧ w.kind = g.kind ∧ w.attempt = g.attempt ∧
    w.remaining = g.remaining := by
  cases hx : s.store.filling with
  | some x =>
    rw [State.programNext_filling hg hm hx]
    exact ⟨_, rfl, rfl, rfl, rfl⟩
  | none =>
    cases hj : s.store.nextFree with
    | some j =>
      rw [State.programNext_opens hg hm hx hj]
      exact ⟨_, rfl, rfl, rfl, rfl⟩
    | none =>
      refine ⟨g, ?_, rfl, rfl, rfl⟩
      rw [State.programNext, hg]
      dsimp only
      rw [hm]
      dsimp only
      rw [hx]
      dsimp only
      rw [hj]
      exact hg

theorem State.programNext_starts : s.store.Starts s.nv.base c s.programNext.store := by
  refine ⟨fun x hx hfill huniq => ?_, fun hnone j hj => ?_⟩
  · obtain ⟨y, hy⟩ : ∃ y, s.store.filling = some y := by
      rw [← Option.isSome_iff_exists, ← Option.ne_none_iff_isSome, Ne, Store.filling_eq_none_iff]
      exact fun h => h x hx hfill
    have hyx : y = x := huniq y (List.mem_of_find?_eq_some hy) (by simpa using List.find?_some hy)
    rw [State.programNext_filling hg hm hy, hyx]
    exact ⟨rfl, rfl, rfl, rfl⟩
  · rw [← Store.nextFree_eq] at hj
    rw [State.programNext_opens hg hm (s.store.filling_eq_none_iff.mpr hnone) hj]
    exact ⟨s.nextGeneration, rfl, rfl, rfl, State.nextGeneration_base, fun x hx h hxg hmax => State.nextGeneration_above hx hxg hmax,
      rfl⟩

end

/-! ### Room for a pending append (R89, R118) -/

/-- The compaction that a pending append wants: one REQUESTED where it lacks room, or where an image is owed. -/
def State.roomWanted (s : State) : Compaction :=
  match s.store.pend with
  | none => s.store.compaction
  | some a =>
    if s.store.mode = .writable ∧ s.ctl.supply = .normal ∧ s.store.appendMayStart a = false ∧ s.store.compaction = .none then
      .requested .first
    else s.store.compaction

section
variable (s : State)

theorem State.requestRoom_eq : s.requestRoom = s.modStore (fun st => { st with compaction := s.roomWanted }) := by
  rw [State.requestRoom, State.roomWanted]
  cases s.store.pend with
  | none => rfl
  | some a =>
    dsimp only
    split <;> rfl

/-- Asking again asks for no more. -/
theorem State.roomWanted_requestRoom : s.requestRoom.roomWanted = s.roomWanted := by
  rw [s.requestRoom_eq]
  unfold State.roomWanted
  dsimp only [State.modStore]
  cases s.store.pend with
  | none => rfl
  | some a =>
    dsimp only
    split
    · exact if_neg (fun h => nomatch h.2.2.2)
    · rename_i h
      exact if_neg h

theorem State.roomAsked_requestRoom : s.requestRoom.roomAsked = s.requestRoom := by
  unfold State.roomAsked
  split
  · rw [State.requestRoom_eq s.requestRoom, s.roomWanted_requestRoom, s.requestRoom_eq]
    rfl
  · rfl

end

/-! ### The steps of R88, one equation per branch -/

section
variable {s : State}

/-- The store chooses where it is IDLE in the SEALED catalog from READY on. -/
theorem State.choose_idle (ho : s.store.operation = .idle) (hs : s.catalog.state = .sealed) (hr : s.ctl.start = .ready) :
    s.choose = s.roomAsked.chooseStart := by
  rw [State.choose_eq, if_pos ⟨ho, hs, by simp [State.ready, hr]⟩]

theorem State.choose_busy (ho : s.store.operation ≠ .idle) : s.choose = s := by rw [State.choose_eq, if_neg (fun h => ho h.1)]

theorem State.chooseStart_appends {a : PendingAppend} (hp : s.store.pend = some a) (ha : s.admissible a = true)
    (hc : s.store.compaction.isRequested = false) (hn : s.store.noStale = true) : s.chooseStart = s.startAppend a := by
  rw [State.chooseStart, hp]
  exact if_pos ⟨ha, hc, hn⟩

theorem State.chooseStart_requested {a : Attempt} (hc : s.store.compaction = .requested a) : s.chooseStart = s.chooseWork := by
  rw [State.chooseStart]
  split
  · rfl
  · exact if_neg (fun h => by simp [hc, Compaction.isRequested] at h)

theorem State.chooseWork_compacts {a : Attempt} (hc : s.store.compaction = .requested a) (hm : s.store.mode = .writable)
    (hn : s.ctl.supply = .normal) (hfit : s.imageFits a = true) : s.chooseWork = s.startCompaction a := by
  rw [State.chooseWork, hc]
  exact if_pos ⟨hm, hn, hfit⟩

theorem State.chooseWork_lacksRoom {a : Attempt} (hc : s.store.compaction = .requested a) (hfit : s.imageFits a = false) :
    s.chooseWork = s.chooseErase := by
  rw [State.chooseWork, hc]
  exact if_neg (fun h => by simp [hfit] at h)

theorem State.chooseErase_stale {k : Nat} (hn : s.ctl.supply = .normal) (hk : s.store.nextStale = some k) :
    s.chooseErase = s.startErase k := by
  rw [State.chooseErase, if_pos hn, hk]

end

/-! ### The STALE sector that is erased next (R88) -/

/-- The one without a generation comes first, else the one of the lowest. -/
theorem Store.nextStale_spec (st : Store) : match st.nextStale with
    | none => ∀ x ∈ st.table, x.role ≠ .stale
    | some k => ∃ y ∈ st.table, y.sector = k ∧ y.role = .stale ∧ (y.generation = none ∨
        ∃ a, y.generation = some a ∧ ∀ x ∈ st.table, x.role = .stale → ∃ d, x.generation = some d ∧ a ≤ d) := by
  unfold Store.nextStale
  dsimp only
  cases hfind : (st.table.filter (fun x => x.role == .stale)).find? (fun x => x.generation.isNone) with
  | some y =>
    obtain ⟨hy, hstale⟩ := List.mem_filter.mp (List.mem_of_find?_eq_some hfind)
    exact ⟨y, hy, rfl, by simpa using hstale, .inl (by simpa using List.find?_some hfind)⟩
  | none =>
    dsimp only
    -- the fold keeps a sector of the lowest generation among those it has seen
    have hfold : ∀ (l seen : List SectorRec) (b : Option SectorRec),
        (match b with
          | none => seen = []
          | some y => y ∈ seen ∧ ∀ x ∈ seen, y.generation.getD 0 ≤ x.generation.getD 0) →
        match l.foldl (fun best x => match best with
          | none => some x
          | some y => if x.generation.getD 0 < y.generation.getD 0 then some x else some y) b with
        | none => seen ++ l = []
        | some y => y ∈ seen ++ l ∧ ∀ x ∈ seen ++ l, y.generation.getD 0 ≤ x.generation.getD 0 := by
      intro l
      induction l with
      | nil => exact fun seen b h => by simpa using h
      | cons y ys ih =>
        intro seen b h
        rw [List.foldl_cons, ← List.singleton_append, ← List.append_assoc]
        refine ih (seen ++ [y]) _ ?_
        cases b with
        | none =>
          rw [show seen = [] from h]
          exact ⟨by simp, by simp⟩
        | some z =>
          obtain ⟨hz, hlow⟩ := h
          dsimp only
          by_cases hlt : y.generation.getD 0 < z.generation.getD 0
          · rw [if_pos hlt]
            refine ⟨by simp, fun x hx => ?_⟩
            rcases List.mem_append.mp hx with hx | hx
            · exact hlt.le.trans (hlow x hx)
            · rw [List.mem_singleton.mp hx]
          · rw [if_neg hlt]
            refine ⟨List.mem_append_left _ hz, fun x hx => ?_⟩
            rcases List.mem_append.mp hx with hx | hx
            · exact hlow x hx
            · rw [List.mem_singleton.mp hx]
              exact not_lt.mp hlt
    have hlow := hfold (st.table.filter (fun x => x.role == .stale)) [] none rfl
    revert hlow
    cases (st.table.filter (fun x => x.role == .stale)).foldl (fun best x => match best with
        | none => some x
        | some y => if x.generation.getD 0 < y.generation.getD 0 then some x else some y) none with
    | none =>
      intro hnil x hx hstale
      have hmem : x ∈ st.table.filter (fun x => x.role == .stale) := List.mem_filter.mpr ⟨hx, by simpa using hstale⟩
      rw [show st.table.filter (fun x => x.role == .stale) = [] from hnil] at hmem
      exact List.not_mem_nil hmem
    | some y =>
      rintro ⟨hy, hlow⟩
      have hgen : ∀ x ∈ st.table.filter (fun x => x.role == .stale), ∃ d, x.generation = some d := fun x hx => by
        have hx := List.find?_eq_none.mp hfind x hx
        exact Option.ne_none_iff_exists'.mp (by simpa using hx)
      obtain ⟨hyt, hstale⟩ := List.mem_filter.mp hy
      obtain ⟨a, ha⟩ := hgen y hy
      refine ⟨y, hyt, rfl, by simpa using hstale, .inr ⟨a, ha, fun x hx hxs => ?_⟩⟩
      have hmem : x ∈ st.table.filter (fun x => x.role == .stale) := List.mem_filter.mpr ⟨hx, by simpa using hxs⟩
      obtain ⟨d, hd⟩ := hgen x hmem
      refine ⟨d, hd, ?_⟩
      have hle := hlow x hmem
      rwa [ha, hd, Option.getD_some, Option.getD_some] at hle

theorem Store.nextStale_eq_none_iff (st : Store) : st.nextStale = none ↔ ∀ x ∈ st.table, x.role ≠ .stale := by
  have hspec := st.nextStale_spec
  constructor
  · intro h
    rwa [h] at hspec
  · intro h
    cases hk : st.nextStale with
    | none => rfl
    | some k =>
      rw [hk] at hspec
      obtain ⟨y, hy, -, hstale, -⟩ := hspec
      exact absurd hstale (h y hy)

/-! ### A ring with nothing to erase (R93, R99) -/

section
variable {s : State}

/-- With nothing STALE or ERASING step 3 of R88 starts no erase. -/
theorem State.chooseErase_clean (hn : s.store.noStale = true) : s.chooseErase = s.reclaim := by
  unfold State.chooseErase
  rw [(s.store.nextStale_eq_none_iff).mpr fun x hx => (s.store.noStale_iff.mp hn x hx).1]
  exact ite_id _

theorem State.reclaim_full {a : Attempt} (hc : s.store.compaction = .requested a) (hfit : s.imageFits a = false)
    (hn : s.store.noStale = true) : s.reclaim = (s.modStore (fun st => { st with compaction := .none })).enterReadOnly := by
  rw [State.reclaim, hc]
  exact if_pos ⟨hfit, hn⟩

theorem State.reclaim_rests (h : ∀ a, s.store.compaction = .requested a → s.imageFits a = true ∨ s.store.noStale = false) :
    s.reclaim = s := by
  unfold State.reclaim
  split
  · rename_i a ha
    refine if_neg (fun hboth => ?_)
    rcases h a ha with hfit | hn
    · simp [hfit] at hboth
    · simp [hn] at hboth
  · rfl
  · rfl

/-- Unless READ_ONLY is reached, a choice starts work or none. -/
theorem State.chooseErase_workStarts (h : ∀ a, s.store.compaction = .requested a → s.imageFits a = true ∨ s.store.noStale = false) :
    s.WorkStarts s.chooseErase := by
  unfold State.chooseErase
  rw [State.reclaim_rests h]
  split
  · split
    · exact s.startErase_workStarts _
    · exact .refl s
  · exact .refl s

theorem State.startAppend_workStarts (s : State) (a : PendingAppend) : s.WorkStarts (s.startAppend a) :=
  (s.workStarts_modStore _ (by simp) (by simp) (by simp) (by simp)).trans (State.programNext_workStarts _)

theorem State.chooseStart_workStarts (h : ∀ a, s.store.compaction = .requested a → s.imageFits a = true ∨ s.store.noStale = false) :
    s.WorkStarts s.chooseStart := by
  have hwork : s.WorkStarts s.chooseWork := by
    unfold State.chooseWork
    split
    · split
      · exact s.startCompaction_workStarts _
      · exact State.chooseErase_workStarts h
    · exact State.chooseErase_workStarts h
    · exact State.chooseErase_workStarts h
  unfold State.chooseStart
  split
  · exact hwork
  · split
    · exact s.startAppend_workStarts _
    · exact hwork

end

/-! ### READ_ONLY (R99) -/

section
variable {s : State} (ho : s.store.operation ≠ .appending)
include ho

theorem State.enterReadOnly_eq : s.enterReadOnly =
    (((s.modStore (fun st => ({ st with mode := .readOnly } : Store).dropRequest)).noticeBoth
      (.storeReadOnly (s.store.count .retired))).cancelAppend .storeReadOnly) := by
  unfold State.enterReadOnly
  dsimp only
  rw [if_neg (by exact ho)]
  rfl

theorem State.enterReadOnly_store : s.enterReadOnly.store = { s.store.dropRequest with mode := .readOnly, pend := none } := by
  rw [State.enterReadOnly_eq ho, State.cancelAppend_store]
  rfl

theorem State.enterReadOnly_told : s.Told s.enterReadOnly (.storeReadOnly (s.store.count .retired)) := by
  rw [State.enterReadOnly_eq ho]
  exact ((s.modStore_storeDiffers _ rfl rfl).untold.told _).andThen (State.cancelAppend_untold _ _)

theorem State.enterReadOnly_failed {a : PendingAppend} {c : InFlight} (hp : s.store.pend = some a) (hc : s.commit = some c) :
    s.CommitFailed s.enterReadOnly c .storeReadOnly := by
  rw [State.enterReadOnly_eq ho]
  exact (State.cancelAppend_failed _ (by exact hp) (by exact hc)).after
    ((s.modStore_storeDiffers (fun st => ({ st with mode := .readOnly } : Store).dropRequest) rfl rfl).linksKept.trans
      (State.noticeBoth_linksKept _ _))

end

/-! ### The image of a compaction, and where it begins (R91) -/

/-- Where an image begins: at the write position for attempt 1 with at least R slots left, else in newly opened sectors. -/
def Store.imagePlace (st : Store) (a : Attempt) : Store := if st.imageAtPosition a then st else st.closeOff

theorem Store.imageAtPosition_iff (st : Store) (a : Attempt) :
    st.imageAtPosition a = true ↔ a = .first ∧ st.filling ≠ none ∧ st.reserve ≤ st.left := by
  simp [Store.imageAtPosition, Option.isSome_iff_ne_none, and_assoc]

theorem Store.imagePlace_eq (st : Store) (a : Attempt) : st.imagePlace a =
    if a = .first ∧ st.filling ≠ none ∧ st.reserve ≤ st.left then st else st.closeOff := by
  rw [Store.imagePlace]
  exact if_congr (st.imageAtPosition_iff a) rfl rfl

theorem State.imageFits_iff (s : State) (a : Attempt) :
    s.imageFits a = true ↔ (imageGroup s.catalog.entries s.store.durable).length ≤ (s.store.imagePlace a).freeSpace := by
  rw [State.imageFits, Store.imagePlace]
  split
  · exact decide_eq_true_iff
  · rw [Store.closeOff_freeSpace]
    exact decide_eq_true_iff

theorem State.not_imageFits_iff (s : State) (a : Attempt) :
    s.imageFits a = false ↔ (s.store.imagePlace a).freeSpace < (imageGroup s.catalog.entries s.store.durable).length := by
  rw [← Bool.not_eq_true, s.imageFits_iff, not_le]

/-- A group of slots has an open mark first. -/
theorem groupSlots_eq_cons (k : GroupKind) (n : Nat) (cs : List Change) : ∃ more, groupSlots k n cs = .openMark k n :: more :=
  ⟨_, rfl⟩

section
variable (s : State)

theorem State.startCompaction_eq (a : Attempt) : s.startCompaction a = (s.modStore (fun st =>
    { st.imagePlace a with
      operation := .compacting
      compaction := .running a
      writing := some (.fresh .image a (imageGroup s.catalog.entries st.durable)) })).programNext := rfl

/-- A compaction that starts: what it is, its image, and where the program of the open mark goes (R91, R92). -/
theorem State.startCompaction_spec (a : Attempt) : (s.startCompaction a).store.operation = .compacting ∧
    (s.startCompaction a).store.compaction = .running a ∧
    (∃ w, (s.startCompaction a).store.writing = some w ∧ w.attempt = a ∧
      w.remaining = imageGroup s.catalog.entries s.store.durable) ∧
    (s.store.imagePlace a).Starts s.nv.base (.openMark .image s.store.durable) (s.startCompaction a).store := by
  rw [s.startCompaction_eq]
  obtain ⟨more, hmore⟩ := groupSlots_eq_cons .image s.store.durable (imageChanges s.catalog.entries)
  obtain ⟨u, hu⟩ : ∃ u, u = s.modStore (fun st =>
    { st.imagePlace a with
      operation := .compacting
      compaction := .running a
      writing := some (.fresh .image a (imageGroup s.catalog.entries st.durable)) }) := ⟨_, rfl⟩
  have hw : u.store.writing = some (.fresh .image a (imageGroup s.catalog.entries s.store.durable)) := by rw [hu]; rfl
  have hr : (GroupWrite.fresh .image a (imageGroup s.catalog.entries s.store.durable)).remaining =
    .openMark .image s.store.durable :: more := hmore
  obtain ⟨w, hwr, -, hwa, hwm⟩ := State.programNext_writing hw hr
  have hstarts := State.programNext_starts hw hr
  rw [← hu]
  refine ⟨?_, ?_, ⟨w, hwr, hwa, hwm⟩, ?_⟩
  · obtain ⟨_, _, _, _, _, h⟩ := u.programNext_eq
    rw [h, hu]
    rfl
  · obtain ⟨_, _, _, _, _, h⟩ := u.programNext_eq
    rw [h, hu]
    rfl
  · have hplace : u.store.Starts s.nv.base (.openMark .image s.store.durable) u.programNext.store := by
      have hbase : u.nv.base = s.nv.base := by rw [hu]; rfl
      rwa [hbase] at hstarts
    have htable : u.store.table = (s.store.imagePlace a).table := by rw [hu]; rfl
    have hlast : u.store.openedLast = (s.store.imagePlace a).openedLast := by rw [hu]; rfl
    have hnote : u.store.restartNote = (s.store.imagePlace a).restartNote := by rw [hu]; rfl
    exact hplace.congr htable.symm hlast.symm hnote.symm

/-- An append that starts: its group, and where the program of the open mark goes (R89, R90, R96). -/
theorem State.startAppend_spec (a : PendingAppend) : (s.startAppend a).store.operation = .appending ∧
    (s.startAppend a).store.compaction = s.store.compaction ∧
    (∃ w, (s.startAppend a).store.writing = some w ∧ w.kind = .commit ∧ w.attempt = a.attempt ∧
      w.remaining = groupSlots .commit a.number a.entries) ∧
    (s.store.beginPosition a.attempt).Starts s.nv.base (.openMark .commit a.number) (s.startAppend a).store := by
  rw [State.startAppend]
  obtain ⟨more, hmore⟩ := groupSlots_eq_cons .commit a.number a.entries
  obtain ⟨u, hu⟩ : ∃ u, u = s.modStore (fun st =>
    { st.beginPosition a.attempt with operation := .appending, writing := some (.fresh .commit a.attempt a.slots) }) := ⟨_, rfl⟩
  have hw : u.store.writing = some (.fresh .commit a.attempt a.slots) := by rw [hu]; rfl
  have hr : (GroupWrite.fresh .commit a.attempt a.slots).remaining = .openMark .commit a.number :: more := hmore
  obtain ⟨w, hwr, hwk, hwa, hwm⟩ := State.programNext_writing hw hr
  have hstarts := State.programNext_starts hw hr
  rw [← hu]
  refine ⟨?_, ?_, ⟨w, hwr, hwk, hwa, hwm⟩, ?_⟩
  · obtain ⟨_, _, _, _, _, h⟩ := u.programNext_eq
    rw [h, hu]
    rfl
  · obtain ⟨_, _, _, _, _, h⟩ := u.programNext_eq
    rw [h, hu]
    simp
  · have hplace : u.store.Starts s.nv.base (.openMark .commit a.number) u.programNext.store := by
      have hbase : u.nv.base = s.nv.base := by rw [hu]; rfl
      rwa [hbase] at hstarts
    have htable : u.store.table = (s.store.beginPosition a.attempt).table := by rw [hu]; rfl
    have hlast : u.store.openedLast = (s.store.beginPosition a.attempt).openedLast := by rw [hu]; rfl
    have hnote : u.store.restartNote = (s.store.beginPosition a.attempt).restartNote := by rw [hu]; rfl
    exact hplace.congr htable.symm hlast.symm hnote.symm

end

end Sys2Proof.Machine
end

section
/-! SUPPORT. What an accepted COMMIT leaves: the group pending, and the append, the compaction or READ_ONLY that follows at once (R56,
R57, R88 to R93, R99). -/

namespace Sys2Proof.Machine

set_option Elab.async false

open Sys2Proof

/-! ### Room -/

theorem Store.not_appendMayStart_first_iff {st : Store} {a : PendingAppend} (h : a.attempt = .first) :
    st.appendMayStart a = false ↔ st.imageOwed = true ∨ st.freeSpace < a.slots.length := by
  rw [← Bool.not_eq_true, Store.appendMayStart_iff, Store.appendFits, h]
  dsimp only
  rw [decide_eq_true_iff, not_and_or, Bool.not_eq_false, not_le]

theorem State.admissible_iff {s : State} {a : PendingAppend} : s.admissible a = true ↔
    s.store.mode = .writable ∧ s.ctl.supply = .normal ∧ s.store.appendMayStart a = true := by
  simp [State.admissible, and_assoc]

/-- Where an image begins, and the space there, is a matter of the table and the reserve. -/
theorem Store.imagePlace_congr {st st' : Store} (ht : st'.table = st.table) (hr : st'.reserve = st.reserve) (a : Attempt) :
    (st'.imagePlace a).table = (st.imagePlace a).table ∧ (st'.imagePlace a).freeSpace = (st.imagePlace a).freeSpace := by
  have hplace : (st'.imagePlace a).table = (st.imagePlace a).table := by
    have hpos : st'.imageAtPosition a = st.imageAtPosition a := by
      rw [Store.imageAtPosition, Store.imageAtPosition, Store.filling, Store.filling, Store.left, Store.left, Store.filling,
        Store.filling, ht, hr]
    rw [Store.imagePlace, Store.imagePlace, hpos]
    split
    · exact ht
    · rw [Store.closeOff, Store.closeOff, ht]
  refine ⟨hplace, ?_⟩
  rw [Store.freeSpace, Store.freeSpace, Store.left, Store.left, Store.filling, Store.filling, Store.count, Store.count, hplace]

theorem Store.imagePlace_unplaced (st : Store) (a : Attempt) :
    (st.imagePlace a).openedLast = st.openedLast ∧ (st.imagePlace a).restartNote = st.restartNote := by
  unfold Store.imagePlace
  split <;> exact ⟨rfl, rfl⟩

/-! ### The hand-over (R56, R57, R89) -/

/-- A COMMIT that passes its checks finds the catalog SEALED, no other commit, the supply NORMAL and the mode WRITABLE (R52). -/
theorem State.commitCheck_passes {s : State} {p : Port} {run : Bool} (h : s.commitCheck p run = none) :
    s.catalog.state = .sealed ∧ s.ctl.supply = .normal ∧ s.store.mode = .writable := by
  unfold State.commitCheck at h
  split at h
  · cases h
  rename_i hpass
  obtain ⟨hstate, -⟩ := firstFail_cons hpass
  refine ⟨beq_iff_eq.mp hstate, ?_⟩
  split at h
  · cases h
  split at h
  · cases h
  split at h
  · cases h
  rename_i hsupply
  split at h
  · cases h
  rename_i hmode
  exact ⟨by cases hs : s.ctl.supply <;> simp_all, by cases hm : s.store.mode <;> simp_all⟩

/-- The state with an accepted COMMIT in flight, its group pending and compaction asked for where it lacks room, before the store's
choice. -/
def State.committing (s : State) (p : Port) (q : Byte) (run : Bool) : State :=
  ((s.admitted p q kCommit).handOver p q run).requestRoom

/-- The compaction that an accepted COMMIT leaves, before the store's choice (R89; log 36). -/
def State.commitAsks (s : State) : Compaction :=
  if s.store.compaction = .none ∧ (s.store.imageOwed = true ∨ s.store.freeSpace < s.groupOf.slots.length) then .requested .first
  else s.store.compaction

section
variable {s : State} {p : Port} {q : Byte} {run : Bool}

theorem State.committing_differs : ((s.admitted p q kCommit).handOver p q run).StoreDiffers (s.committing p q run) :=
  State.requestRoom_storeDiffers _

/-- Beside the store, the commit and the ports nothing has changed. -/
theorem State.committing_same : (s.committing p q run).nv = s.nv ∧ (s.committing p q run).catalog = s.catalog ∧
    (s.committing p q run).stack = s.stack ∧ (s.committing p q run).ctl = s.ctl ∧
    (s.committing p q run).commit = some (s.inFlightRecord p q run) := by
  have hd := State.committing_differs (s := s) (p := p) (q := q) (run := run)
  rw [hd.nv, hd.catalog, hd.stack, hd.ctl, hd.commit]
  cases p <;> exact ⟨rfl, rfl, rfl, rfl, rfl⟩

theorem State.committing_port : (s.committing p q run).port p =
    { (s.port p).admitted (s.leasePeriod p) q kCommit with lease := .stopped } := by
  rw [State.committing_differs.port, State.handOver]
  cases p <;> rfl

theorem State.committing_port_other : (s.committing p q run).port (otherPort p) = s.port (otherPort p) := by
  rw [State.committing_differs.port, State.handOver]
  cases p <;> rfl

theorem State.committing_store (h : s.commitCheck p run = none) :
    (s.committing p q run).store = { s.store with pend := some s.groupOf, compaction := s.commitAsks } := by
  obtain ⟨-, hn, hm⟩ := State.commitCheck_passes h
  have hstore : ((s.admitted p q kCommit).handOver p q run).store = { s.store with pend := some s.groupOf } := by
    cases p <;> rfl
  have hctl : ((s.admitted p q kCommit).handOver p q run).ctl = s.ctl := by cases p <;> rfl
  have hasks : ((s.admitted p q kCommit).handOver p q run).roomWanted = s.commitAsks := by
    rw [State.roomWanted, State.commitAsks, hstore]
    refine if_congr ?_ rfl rfl
    have hmay := Store.not_appendMayStart_first_iff (st := { s.store with pend := some s.groupOf }) (a := s.groupOf) rfl
    rw [hctl, hmay]
    exact ⟨fun ⟨_, _, hlack, hnone⟩ => ⟨hnone, hlack⟩, fun ⟨hnone, hlack⟩ => ⟨hm, hn, hlack, hnone⟩⟩
  rw [State.committing, State.requestRoom_eq, State.modStore_store, hstore, hasks]

theorem State.changedEntries_eq (s : State) : s.changedEntries =
    s.catalog.entries.filter (fun e => s.recorded e.defn.id && decide (e.working ≠ e.committed)) := by
  refine List.filter_congr fun e _ => ?_
  rw [Bool.eq_iff_iff, Entry.staged]
  simp only [Bool.and_eq_true, bne_iff_ne, decide_eq_true_eq]

theorem exec_commit_accepted (h : s.Reaches p q kCommit) (hcheck : s.commitCheck p run = none) :
    exec (.commit p q [] run) s = .next (s.committing p q run).choose := by
  rw [exec_commit_reaches run h, hcheck]
  rfl

/-- The store looks at what is pending after the request for room. -/
theorem State.committing_choose (h : s.Reaches p q kCommit) (hcheck : s.commitCheck p run = none) (ho : s.store.operation = .idle) :
    (s.committing p q run).choose = (s.committing p q run).chooseStart := by
  obtain ⟨hsealed, -, -⟩ := State.commitCheck_passes hcheck
  obtain ⟨-, hcat, -, hctl, -⟩ := State.committing_same (s := s) (p := p) (q := q) (run := run)
  rw [State.choose_idle, State.committing, State.roomAsked_requestRoom]
  · rw [State.committing_store hcheck]
    exact ho
  · rw [hcat, hsealed]
  · rw [hctl]
    simpa [State.ready] using h.2.2.1

/-- The place of an image is that of the state the COMMIT arrived in. -/
theorem State.committing_place (hcheck : s.commitCheck p run = none) (a : Attempt) :
    ((s.committing p q run).store.imagePlace a).table = (s.store.imagePlace a).table ∧
    ((s.committing p q run).store.imagePlace a).freeSpace = (s.store.imagePlace a).freeSpace :=
  Store.imagePlace_congr (by rw [State.committing_store hcheck]) (by rw [State.committing_store hcheck]) a

theorem State.committing_noStale (hcheck : s.commitCheck p run = none) :
    (s.committing p q run).store.noStale = s.store.noStale := by
  rw [Store.noStale, State.committing_store hcheck, Store.noStale]

theorem State.committing_image (hcheck : s.commitCheck p run = none) :
    imageGroup (s.committing p q run).catalog.entries (s.committing p q run).store.durable =
      imageGroup s.catalog.entries s.store.durable := by
  obtain ⟨-, hcat, -, -, -⟩ := State.committing_same (s := s) (p := p) (q := q) (run := run)
  rw [hcat, State.committing_store hcheck]

theorem State.committing_fits (hcheck : s.commitCheck p run = none) (a : Attempt) : (s.committing p q run).imageFits a = true ↔
    (imageGroup s.catalog.entries s.store.durable).length ≤ (s.store.imagePlace a).freeSpace := by
  rw [State.imageFits_iff, State.committing_image hcheck, (State.committing_place hcheck a).2]

end

/-- Settles O32: an accepted COMMIT beside an operation, its append, the compaction it asks for, and READ_ONLY; and that no append
starts while an image is owed (R118). -/
theorem acceptedCommitIsInFlight : Obligations.AcceptedCommitIsInFlight := by
  refine ⟨fun p q run s h hcheck => ?_, fun s t howed ho hstep => step_appendsWithoutDebt ho hstep⟩
  intro change changed entries number group image closed place asked clean
  have hchanged : s.changedEntries = changed := s.changedEntries_eq
  have hslots : s.groupOf.slots = group := by rw [PendingAppend.slots, State.groupOf, hchanged]; rfl
  have hasks : s.commitAsks = asked := by rw [State.commitAsks, hslots]
  have hplace (a : Attempt) : place a = s.store.imagePlace a := (s.store.imagePlace_eq a).symm
  have hclean : clean ↔ (s.committing p q run).store.noStale = true := by
    rw [State.committing_noStale hcheck]
    exact s.store.noStale_iff.symm
  have hstore := State.committing_store (q := q) hcheck
  obtain ⟨hnv, hcat, hstack, hctl, hcommit⟩ := State.committing_same (s := s) (p := p) (q := q) (run := run)
  obtain ⟨hsealed, hn, hmode⟩ := State.commitCheck_passes hcheck
  have himage := State.committing_image (q := q) hcheck
  have hptable (a : Attempt) := (State.committing_place (q := q) hcheck a).1
  have hfits (a : Attempt) := State.committing_fits (q := q) hcheck a
  have hchoose := State.committing_choose h hcheck
  have hwork := (s.committing p q run).choose_workDiffers
  obtain ⟨v, hv⟩ : ∃ v, v = s.committing p q run := ⟨_, rfl⟩
  have hport : v.port p = { (s.port p).admitted (s.leasePeriod p) q kCommit with lease := .stopped } := hv ▸ State.committing_port
  have hother : v.port (otherPort p) = s.port (otherPort p) := hv ▸ State.committing_port_other
  refine ⟨_, exec_commit_accepted h hcheck, ?_⟩
  have hasked : (s.committing p q run).store.compaction = asked := by rw [hstore]; exact hasks
  rw [← hv] at hclean hstore hnv hcat hstack hctl hcommit himage hchoose hwork hasked ⊢
  simp only [← hv] at hfits hptable
  refine ⟨hwork.stack.trans hstack, hwork.catalog.trans hcat, hwork.nv.trans hnv, hwork.durable.trans (by rw [hstore]),
    fun hcase => ?inFlight, fun ho => ?busy, fun ho hc hnone => ?appends, fun ho a ha hfit => ?compacts,
    fun ho hc a ha hfull => ?readOnly⟩
  case inFlight =>
    have hstarts : v.WorkStarts v.choose := by
      by_cases ho : s.store.operation = .idle
      · rw [hchoose ho]
        refine State.chooseStart_workStarts fun a ha => ?_
        rcases hcase with hcase | hcase | hcase
        · exact absurd ho hcase
        · exact .inr (by simpa using mt hclean.mpr hcase)
        · exact .inl ((hfits a).mpr (hplace a ▸ hcase a (hasked.symm.trans ha)))
      · rw [State.choose_busy (by rw [hstore]; exact ho)]
        exact .refl v
    refine ⟨s.inFlightRecord p q run, hstarts.commit.trans hcommit, rfl, rfl, rfl, rfl, ?_, ?_, ?_, ?_, ?_, ?_, ?_⟩
    · rw [State.inFlightRecord, hchanged]
      rfl
    · rw [State.inFlightRecord, hchanged]
    · rw [hstarts.pend, hstore, State.groupOf, hchanged]
      rfl
    · rw [hstarts.port, hport]
    · rw [hstarts.port, hport]
      rfl
    · rw [hstarts.port, hport]
      rfl
    · rw [hstarts.port, hother]
  case busy =>
    rw [State.choose_busy (by rw [hstore]; exact ho), hstore, hasks]
  case appends =>
    have hmay : v.store.appendMayStart s.groupOf = true := by
      rw [← Bool.not_eq_false, Store.not_appendMayStart_first_iff rfl, hstore, hslots]
      intro hlack
      have hcompaction : s.store.compaction = .none := by
        by_contra hne
        have : asked = s.store.compaction := if_neg (fun hc => hne hc.1)
        exact hne (this.symm.trans hnone)
      have : asked = .requested .first := if_pos ⟨hcompaction, hlack⟩
      rw [hnone] at this
      cases this
    have happ : v.choose = v.startAppend s.groupOf := by
      rw [hchoose ho]
      refine State.chooseStart_appends (by rw [hstore]) ?_ (by rw [hasked, hnone]; rfl) (hclean.mp hc)
      exact State.admissible_iff.mpr ⟨by rw [hstore]; exact hmode, by rw [hctl]; exact hn, hmay⟩
    obtain ⟨hop, hcomp, ⟨w, hw, hk, ha, hr⟩, hstarts⟩ := v.startAppend_spec s.groupOf
    rw [happ]
    refine ⟨hop, hcomp.trans (hasked.trans hnone), ⟨w, hw, hk, ha, hr.trans hslots⟩, ?_⟩
    rw [hnv] at hstarts
    exact hstarts.congr (by rw [hstore]; rfl) (by rw [hstore]; rfl) (by rw [hstore]; rfl)
  case compacts =>
    have hcomp : v.choose = v.startCompaction a := by
      rw [hchoose ho, State.chooseStart_requested (hasked.trans ha)]
      exact State.chooseWork_compacts (hasked.trans ha) (by rw [hstore]; exact hmode) (by rw [hctl]; exact hn)
        ((hfits a).mpr (hplace a ▸ hfit))
    obtain ⟨hop, hrun, ⟨w, hw, hwa, hr⟩, hstarts⟩ := v.startCompaction_spec a
    rw [hcomp]
    refine ⟨hop, hrun, ⟨w, hw, hwa, hr.trans himage⟩, ?_⟩
    obtain ⟨hl, hr⟩ := v.store.imagePlace_unplaced a
    obtain ⟨hl', hr'⟩ := s.store.imagePlace_unplaced a
    rw [hnv] at hstarts
    rw [hplace]
    have hdur : v.store.durable = s.store.durable := by rw [hstore]
    rw [hdur] at hstarts
    exact hstarts.congr (hptable a).symm (by rw [hl, hl', hstore]) (by rw [hr, hr', hstore])
  case readOnly =>
    have hread : v.choose = (v.modStore (fun st => { st with compaction := .none })).enterReadOnly := by
      have hlack : v.imageFits a = false := by
        rw [← Bool.not_eq_true, hfits, not_le, ← hplace]
        exact hfull
      have hcv : v.store.compaction = .requested a := hasked.trans ha
      rw [hchoose ho, State.chooseStart_requested hcv, State.chooseWork_lacksRoom hcv hlack,
        State.chooseErase_clean (hclean.mp hc), State.reclaim_full hcv hlack (hclean.mp hc)]
    have hop : (v.modStore (fun st => { st with compaction := .none })).store.operation ≠ .appending := by
      rw [State.modStore_store, hstore]
      simp [ho]
    have hd := v.modStore_storeDiffers (fun st => { st with compaction := .none }) rfl rfl
    have hstore' := State.enterReadOnly_store hop
    have hfail := (State.enterReadOnly_failed hop (a := s.groupOf) (by rw [State.modStore_store, hstore])
      (by rw [State.modStore_commit, hcommit])).after hd.linksKept
    have htold := (State.enterReadOnly_told hop).after hd.untold
    rw [hread]
    refine ⟨by rw [hstore'], by rw [hstore']; rfl, by rw [hstore'], hfail.commit, fun r => ?_, ?_⟩
    · have hcount : (v.modStore (fun st => { st with compaction := .none })).store.count .retired = s.store.count .retired := by
        rw [Store.count, State.modStore_store, hstore, Store.count]
      have hnotices : (v.port r).notices = (s.port r).notices ∧ (v.port r).lost = (s.port r).lost := by
        rcases eq_or_ne r p with rfl | hr
        · rw [hport]
          exact ⟨rfl, rfl⟩
        · have hr : r = otherPort p := by revert hr; cases r <;> cases p <;> simp [otherPort]
          rw [hr, hother]
          exact ⟨rfl, rfl⟩
      rw [(htold r).1, hcount, (PortState.takeNotice_congr hnotices _).1]
      rfl
    · have houtbound : (v.port p).outbound = (s.port p).outbound := by rw [hport]; rfl
      have := hfail.answered rfl ⟨{ seq := q, kind := kCommit }, by
        rw [show (s.inFlightRecord p q run).port = p from rfl, hport]
        exact List.mem_append_right _ (List.mem_singleton.mpr rfl), rfl⟩
      rw [← houtbound]
      exact this

end Sys2Proof.Machine
end

section
/-! SUPPORT. The ends of the catalog write and of the wipe erase, and what the initial image needs (R19, R22, R102 to R104). -/

namespace Sys2Proof.Machine

set_option Elab.async false

open Sys2Proof

/-! ### SEAL fails, WIPE completes (R19, R22) -/

/-- The store after a failed SEAL: the sectors that are neither RETIRED nor FREE are STALE, and nothing is left to do (R103). -/
def Store.sealFailed (st : Store) : Store :=
  { st with
    table := st.table.map (fun x => if x.role = .retired ∨ x.role = .free then x else { x with role := .stale })
    operation := .idle, pend := none, compaction := .none, mode := .writable, durable := 0, reserve := 0
    writing := none, arrayOp := .none, tasks := [] }

section
variable {s : State} {q : Byte} (hq : s.catalog.request = some q)
include hq

theorem State.sealFails_eq : s.sealFails =
    { s with
      store := s.store.sealFailed
      catalog := { s.catalog with state := .building, request := none }
      portA := s.portA.answer q (.refuse kSeal .storeFault 0) true } := by
  rw [State.sealFails, hq]
  rfl

theorem State.wipeCompletes_eq : s.wipeCompletes =
    { s with
      store := { s.store.ringErased with
        operation := .idle, compaction := .none, mode := .writable, durable := 0, reserve := 0, tasks := [], wipeFault := false }
      catalog := { s.catalog with state := .empty, setup := .defaults, request := none }
      rateInUse := .r115200
      portA := s.portA.answer q (if s.store.wipeFault then .refuse kWipe .storeFault 0 else .reply kWipe .wipe) true } := by
  rw [State.wipeCompletes, hq]
  cases s.store.wipeFault <;> rfl

end

/-- The roles that a failed SEAL leaves, sector by sector. -/
theorem Store.sealFailed_roles (st : Store) : st.sealFailed.table.map (fun x => (x.sector, x.role)) =
    st.table.map (fun x => (x.sector, if x.role = .retired ∨ x.role = .free then x.role else .stale)) := by
  rw [Store.sealFailed, List.map_map]
  refine List.map_congr_left fun x _ => ?_
  dsimp only [Function.comp]
  split <;> rfl

theorem exec_retireMap {s : State} (h : s.store.arrayOp = .retireMap) (ok mapOk : Bool) : exec (.slotProgramDone ok mapOk) s = .next
    (({ s with nv := s.mapProgrammed ok, draws := if ok then s.draws else s.draws + 1 } : State).modStore
      (fun st => { st with arrayOp := .none, wipeFault := st.wipeFault || !ok })).wipeCompletes := by
  change execSlotProgramDone ok mapOk s = _
  rw [execSlotProgramDone, State.programEnds, h]

/-- Settles O39: the retire map at the end of WIPE, and its answer (R22, R104). -/
theorem retireMapCompletesWipe : Obligations.RetireMapCompletesWipe := by
  intro s q ok mapOk ha hq ho
  refine ⟨_, exec_retireMap ha ok mapOk, ?_⟩
  rw [State.wipeCompletes_eq (by exact hq)]
  refine ⟨rfl, rfl, rfl, rfl, rfl, rfl, rfl, rfl, rfl, ?_, fun hok => ?_, rfl, rfl, rfl, rfl, rfl, rfl, rfl⟩
  · refine (PortState.answer_outbound _ _ ho).trans ?_
    rw [State.modStore_store]
    cases s.store.wipeFault <;> cases ok <;> rfl
  · rw [hok]
    rfl

/-! ### The catalog area (R102) -/

section
variable {s : State} {k : Nat}

theorem exec_areaHeader (h : s.store.arrayOp = .areaHeader k) (mapOk : Bool) : exec (.slotProgramDone true mapOk) s = .next
    (({ s with nv := s.headerProgrammed k true } : State).modStore (fun st => { st with arrayOp := .none })).runTasks := by
  change execSlotProgramDone true mapOk s = _
  rw [execSlotProgramDone, State.programEnds, h]
  rfl

theorem exec_areaSlot {d : AreaSlot} (h : s.store.arrayOp = .areaSlot k d) (mapOk : Bool) :
    exec (.slotProgramDone true mapOk) s = .next
      (({ s with nv := s.nv.appendArea k d } : State).modStore (fun st => { st with arrayOp := .none })).runTasks := by
  change execSlotProgramDone true mapOk s = _
  rw [execSlotProgramDone, State.programEnds, h]
  rfl

theorem exec_areaHeader_fails (h : s.store.arrayOp = .areaHeader k) (mapOk : Bool) : exec (.slotProgramDone false mapOk) s = .next
    ({ s with nv := s.headerProgrammed k false, draws := s.draws + 1 } : State).sealFails := by
  change execSlotProgramDone false mapOk s = _
  rw [execSlotProgramDone, State.programEnds, h]
  rfl

theorem exec_areaSlot_fails {d : AreaSlot} (h : s.store.arrayOp = .areaSlot k d) (mapOk : Bool) :
    exec (.slotProgramDone false mapOk) s = .next ({ s with nv := s.nv.appendArea k .damaged } : State).sealFails := by
  change execSlotProgramDone false mapOk s = _
  rw [execSlotProgramDone, State.programEnds, h]
  rfl

/-- A header of the area after its program: its place, and in sector 0 the retire map. -/
theorem State.headerProgrammed_true (s : State) (k : Nat) : s.headerProgrammed k true =
    { s.nv with
      area := s.nv.area.map (fun z => if z.sector = k then { z with place := .val k } else z)
      retireMap := if k = 0 then (s.store.table.filter (fun x => decide (x.role = .retired))).map (fun x => x.sector)
        else s.nv.retireMap } := by
  rw [State.headerProgrammed, NonVol.programAreaHeader]
  by_cases hk : k = 0
  · simp only [if_pos hk]
    rfl
  · simp only [if_neg hk]
    rfl

end

/-- A task that programs the area starts as it is. -/
theorem State.runTasks_area {s : State} {task : Task} {op : ArrayOp} {ts : List Task} (ht : s.store.tasks = task :: ts)
    (h : (∃ j, task = .areaHeader j ∧ op = .areaHeader j) ∨ (∃ j d, task = .areaSlot j d ∧ op = .areaSlot j d)) :
    s.runTasks = s.modStore (fun st => { st with tasks := ts, arrayOp := op }) := by
  rw [State.runTasks, ht]
  rcases h with ⟨j, rfl, rfl⟩ | ⟨j, d, rfl, rfl⟩ <;> rfl

/-! ### The initial image (R102 step 5) -/

/-- The changes of the initial image: every persistent entry at its default with version 0. -/
theorem initialImage_eq (es : List Entry) : initialImage es = groupSlots .image 0 ((es.filter (fun e => e.defn.persistent)).map
    (fun e => { id := e.defn.id, value := e.defn.default, version := 0 })) := by
  rw [initialImage, imageGroup, imageChanges, atDefaults, List.filter_map, List.map_map]
  rfl

theorem State.initialFits_iff (s : State) : s.initialFits = true ↔
    (initialImage s.catalog.entries).length ≤ 255 * (s.store.table.filter (fun x => decide (x.role = .free))).length := by
  rw [State.initialFits, Store.count_eq]
  exact decide_eq_true_iff

theorem State.runTasks_image {s : State} {a : Attempt} {ts : List Task} (ht : s.store.tasks = .image a :: ts)
    (hn : s.ctl.supply = .normal) : s.runTasks = s.beginInitialImage a := by
  rw [State.runTasks, ht]
  exact if_neg (by simp [hn])

/-- The initial image begins in the sector opened next, where nothing is FILLING. -/
theorem State.beginInitialImage_opens {s : State} {a : Attempt} {j : Nat} (hfit : s.initialFits = true)
    (hfill : s.store.filling = none) (hj : s.store.nextFree = some j) : s.beginInitialImage a =
    (s.modStore (fun st => { st with
      tasks := [], writing := some (.fresh .image a (initialImage s.catalog.entries)) })).openSector
        (.fresh .image a (initialImage s.catalog.entries)) j := by
  obtain ⟨more, hmore⟩ := groupSlots_eq_cons .image 0 (imageChanges (atDefaults s.catalog.entries))
  rw [State.beginInitialImage, if_pos hfit]
  exact State.programNext_opens (s := s.modStore _) rfl (by exact hmore) hfill hj

/-! ### The close of the initial image completes SEAL (R19, R102) -/

theorem Store.useSlot_usable (st : Store) (k : Nat) : (st.useSlot k).usable = st.usable := by
  rw [Store.useSlot, Store.modRec, Store.usable, Store.usable, List.filter_map, List.length_map]
  congr 1
  apply List.filter_congr
  intro x _
  dsimp only [Function.comp]
  split
  · dsimp only
    split
    · rename_i h
      rw [h.2]
      rfl
    · rfl
  · rfl

/-- The state of a completed SEAL before its READ_ONLY test. -/
def State.sealDone (s : State) (q : Byte) : State :=
  { s with
    store := { s.store with operation := .idle, compaction := .none, durable := 0, tasks := [] }
    catalog := { s.catalog with
      entries := atDefaults s.catalog.entries, digest := catalogDigest s.catalog.entries s.catalog.setup, state := .sealed, request := none }
    rateInUse := s.catalog.setup.rate
    portA := s.portA.answer q (.reply kSeal
      (.seal s.catalog.entries.length s.store.reserve (catalogDigest s.catalog.entries s.catalog.setup))) true }

theorem State.sealCompletes_eq {s : State} {q : Byte} (hq : s.catalog.request = some q) :
    s.sealCompletes = (s.sealDone q).readOnlyTest.choose := by
  have hlen : (atDefaults s.catalog.entries).length = s.catalog.entries.length := List.length_map _
  rw [State.sealCompletes, hq, State.sealDone, ← hlen]
  rfl

/-- With nothing asked of it the store starts an erase at most, and its compaction stays none. -/
theorem State.choose_rests {s : State} (hp : s.store.pend = none) (hc : s.store.compaction = .none) :
    s.WorkStarts s.choose ∧ s.choose.store.compaction = .none := by
  rw [State.choose_nothingAsked hp hc]
  split
  · refine ⟨State.chooseErase_workStarts fun a ha => by simp [hc] at ha, ?_⟩
    rw [State.chooseErase, State.reclaim_none hc]
    split
    · split
      · exact hc
      · exact hc
    · exact hc
  · exact ⟨.refl s, hc⟩

/-- The READ_ONLY test with no append pending: the mode, the notice, and nothing else (R99). -/
theorem State.readOnlyTest_none {s : State} (hp : s.store.pend = none) :
    (s.store.mode = .writable → s.store.usable < s.store.readOnlyLimit → s.readOnlyTest =
      (s.modStore (fun st => ({ st with mode := .readOnly } : Store).dropRequest)).noticeBoth (.storeReadOnly (s.store.count .retired))) ∧
    (¬ (s.store.mode = .writable ∧ s.store.usable < s.store.readOnlyLimit) → s.readOnlyTest = s) := by
  refine ⟨fun hm hu => ?_, fun h => if_neg h⟩
  rw [State.readOnlyTest, if_pos ⟨hm, hu⟩, State.enterReadOnly_none hp]

/-- The READ_ONLY test with nothing asked of the store keeps it so, and touches no answer. -/
theorem State.readOnlyTest_quiet {s : State} (hp : s.store.pend = none) (hc : s.store.compaction = .none) :
    s.LinksKept s.readOnlyTest ∧ s.readOnlyTest.store.pend = none ∧ s.readOnlyTest.store.compaction = .none := by
  obtain ⟨hro, hrw⟩ := State.readOnlyTest_none hp
  by_cases h : s.store.mode = .writable ∧ s.store.usable < s.store.readOnlyLimit
  · rw [hro h.1 h.2]
    refine ⟨(s.modStore_storeDiffers _ rfl rfl).linksKept.trans (State.noticeBoth_linksKept _ _), hp, ?_⟩
    rw [State.noticeBoth_store, State.modStore_store, Store.dropRequest, hc]
    rfl
  · rw [hrw h]
    exact ⟨⟨rfl, rfl, fun _ => rfl, fun _ => rfl, fun _ => rfl⟩, hp, hc⟩

theorem Store.usable_eq (st : Store) : st.usable = (st.table.filter (fun x => decide (x.role ≠ .retired))).length := by
  rw [Store.usable]
  congr 1
  refine List.filter_congr fun x _ => ?_
  rw [Bool.eq_iff_iff, bne_iff_ne, decide_eq_true_iff]

/-- Settles O38: the programs of the area in their order, the initial image, its close, and a failed program (R19, R102, R103). -/
theorem initialImageCompletesSeal : Obligations.InitialImageCompletesSeal := by
  refine ⟨fun s k m g q mapOk ha hg hm hop hq hp ho => ?_, fun s task op ts mapOk ht htask => ⟨fun k ha => ?_, fun k d ha => ?_⟩,
    ?_, fun s q mapOk ha hq ho => ?_⟩
  · have hexec := exec_closeMark ha hg hm mapOk
    obtain ⟨u, hu⟩ : ∃ u, u = (s.slotStored g k m).modStore
      (fun st => { st with writing := none, arrayOp := .none, restartNote := false }) := ⟨_, rfl⟩
    have hclosed : (s.slotStored g k m).groupClosed g = u.sealCompletes := by
      rw [State.groupClosed, show (s.slotStored g k m).store.operation = .catalogWrite from hop, hu]
    rw [hclosed, State.sealCompletes_eq (by rw [hu]; exact hq)] at hexec
    obtain ⟨w, hw⟩ : ∃ w, w = u.sealDone q := ⟨_, rfl⟩
    rw [← hw] at hexec
    have hpw : w.store.pend = none := by rw [hw, hu]; exact hp
    have hcw : w.store.compaction = .none := by rw [hw]; rfl
    obtain ⟨hro, hrw⟩ := State.readOnlyTest_none hpw
    have htest := State.readOnlyTest_quiet hpw hcw
    obtain ⟨hlinks, hpv, hcv⟩ := htest
    obtain ⟨hstarts, hnone⟩ := State.choose_rests hpv hcv
    have hwork := w.readOnlyTest_workDiffers.trans hstarts.work
    have husable : w.store.usable = (s.store.table.filter (fun x => decide (x.role ≠ .retired))).length := by
      rw [hw, hu]
      exact (s.store.useSlot_usable k).trans s.store.usable_eq
    have hretired : w.store.count .retired = (s.store.table.filter (fun x => decide (x.role = .retired))).length := by
      rw [hw, hu]
      exact s.store.useSlot_retired k
    have hmodew : w.store.mode = s.store.mode := by rw [hw, hu]; rfl
    have hlimit : w.store.readOnlyLimit = 2 * s.store.reserve + 4 := by rw [hw, hu]; rfl
    have hnotices (p : Port) : (w.port p).notices = (s.port p).notices ∧ (w.port p).lost = (s.port p).lost := by
      rw [hw, hu]
      cases p
      · exact PortState.answer_notices _ _ _ _
      · exact ⟨rfl, rfl⟩
    refine ⟨_, hexec, ?_, ?_, ?_, ?_, ?_, ?_, ?_, ?_, hnone, fun hmode => ⟨fun hfew => ?_, fun hmany => ?_⟩⟩
    · rw [hwork.catalog, hw, hu]
      rfl
    · rw [hwork.durable, hw]
      rfl
    · rw [hwork.rateInUse, hw, hu]
      rfl
    · rw [hwork.stack, hw, hu]
      rfl
    · rw [hstarts.commit, hlinks.commit, hw, hu]
      rfl
    · have hA := hlinks.outbound .A
      rw [hstarts.portA]
      refine hA.trans ?_
      rw [hw, hu]
      exact PortState.answer_outbound _ _ ho
    · have hB := hlinks.outbound .B
      rw [hstarts.portB]
      refine hB.trans ?_
      rw [hw, hu]
      rfl
    · rw [hwork.nv, hw, hu]
      rfl
    · have hv := hro (hmodew.trans hmode) (by rw [husable, hlimit]; exact hfew)
      refine ⟨by rw [hstarts.mode, hv]; rfl, fun p => ?_⟩
      rw [hstarts.port, hv, hretired]
      exact (((w.modStore_storeDiffers _ rfl rfl).untold).told _ p).1.trans (PortState.takeNotice_congr (hnotices p) _).1
    · have hv := hrw (fun h => by rw [husable, hlimit] at h; omega)
      refine ⟨by rw [hstarts.mode, hv, hmodew, hmode], fun p => ?_⟩
      rw [hstarts.port, hv]
      exact (hnotices p).1
  · rw [exec_areaHeader ha, State.headerProgrammed_true, State.runTasks_area (by exact ht) htask]
    rfl
  · rw [exec_areaSlot ha, State.runTasks_area (by exact ht) htask]
    rfl
  · intro s k j d mapOk ha ht hn hlast htable image hfit hj
    obtain ⟨v, hv⟩ : ∃ v, v = ({ s with nv := s.nv.appendArea k d } : State).modStore (fun st => { st with arrayOp := .none }) := ⟨_, rfl⟩
    have hfits : v.initialFits = true := by
      rw [State.initialFits_iff, hv, State.modStore_catalog, initialImage_eq]
      exact hfit
    have hfill : v.store.filling = none := by
      rw [Store.filling_eq_none_iff, hv]
      exact fun x hx => (htable x hx).1
    have hnext : v.store.nextFree = some j := by
      rw [Store.nextFree_eq, hv]
      dsimp only [State.modStore]
      rw [hlast]
      exact hj
    have hexec := exec_areaSlot ha mapOk
    rw [← hv, State.runTasks_image (by rw [hv]; exact ht) (by rw [hv]; exact hn), State.beginInitialImage_opens hfits hfill hnext] at hexec
    refine ⟨_, hexec, ?_, ⟨_, rfl, rfl, ?_⟩, ⟨v.store.restartNote, ?_⟩, ?_, ?_, ?_, ?_, ?_, ?_⟩
    · rw [hv]
      rfl
    · rw [hv]
      exact initialImage_eq _
    · have hgen : v.nextGeneration = v.nv.base := State.nextGeneration_base (by rw [hv]; exact fun x hx => (htable x hx).2)
      exact congrArg (fun n => ArrayOp.header j n v.store.restartNote) hgen
    all_goals
      rw [hv]
      rfl
  · have hfail (nv : NonVol) (n : Nat) := State.sealFails_eq (s := { s with nv := nv, draws := n }) hq
    have hout := PortState.answer_outbound (.refuse kSeal .storeFault 0) true ho
    rcases ha with ⟨k, ha⟩ | ⟨k, d, ha⟩
    · refine ⟨_, exec_areaHeader_fails ha mapOk, ?_⟩
      rw [hfail]
      exact ⟨rfl, rfl, rfl, rfl, rfl, rfl, rfl, s.store.sealFailed_roles, hout, rfl⟩
    · refine ⟨_, exec_areaSlot_fails ha mapOk, ?_⟩
      rw [hfail _ s.draws]
      exact ⟨rfl, rfl, rfl, rfl, rfl, rfl, rfl, s.store.sealFailed_roles, hout, rfl⟩

end Sys2Proof.Machine
end

section
/-! SUPPORT. A slot or header that is programmed and verified, and the close mark of a compaction image (R80 to R85, R88, R92, R94). -/

namespace Sys2Proof.Machine

set_option Elab.async false

open Sys2Proof

/-! ### A choice with something STALE (R88) -/

/-- While a sector is STALE no append starts, and none asks for room; with no compaction asked for an erase comes next. -/
theorem State.choose_erases {s : State} {k : Nat} (ho : s.store.operation = .idle) (hs : s.catalog.state = .sealed)
    (hr : s.ctl.start = .ready) (hn : s.ctl.supply = .normal) (hc : s.store.compaction = .none) (hk : s.store.nextStale = some k) :
    s.choose = s.startErase k := by
  have hstale : s.store.noStale = false := by
    rw [← Bool.not_eq_true, Store.noStale_iff]
    intro hclean
    rw [(s.store.nextStale_eq_none_iff).mpr fun x hx => (hclean x hx).1] at hk
    cases hk
  have hasked : s.roomAsked = s := if_neg (by simp [hstale])
  have hstart : s.chooseStart = s.chooseWork := by
    rw [State.chooseStart]
    split
    · rfl
    · exact if_neg (fun h => by simp [hstale] at h)
  rw [State.choose_idle ho hs hr, hasked, hstart, State.chooseWork_none hc, State.chooseErase_stale hn hk]

/-! ### The end of a program (R80) -/

theorem exec_headerProgrammed {s : State} {k d : Nat} {f : Bool} {g : GroupWrite} (ha : s.store.arrayOp = .header k d f)
    (hg : s.store.writing = some g) (mapOk : Bool) : exec (.slotProgramDone true mapOk) s = .next
      (({ s with nv := s.nv.programHeader k (.val d) f } : State).modStore (fun st => { st with arrayOp := .none })).programNext := by
  change execSlotProgramDone true mapOk s = _
  rw [execSlotProgramDone, State.programEnds, ha]
  dsimp only
  rw [hg]
  rfl

theorem exec_slotGoesOn {s : State} {k : Nat} {m n : Slot} {more : List Slot} {g : GroupWrite} (ha : s.store.arrayOp = .slot k m)
    (hg : s.store.writing = some g) (hm : g.remaining = m :: n :: more) (mapOk : Bool) :
    exec (.slotProgramDone true mapOk) s = .next (s.slotStored g k m).programNext := by
  rw [exec_slotProgrammed ha hg, State.slotProgrammed, hm]
  rw [if_neg (by simp), State.slotStored, hm]

theorem State.programNext_operation (s : State) : s.programNext.store.operation = s.store.operation := by
  obtain ⟨_, _, _, _, _, h⟩ := s.programNext_eq
  rw [h]
  rfl

/-- The image of a compaction has closed, before the store's choice: what it supersedes is STALE (R92). -/
def State.imageClosed (s : State) (h : Nat) : State :=
  s.modStore (fun st => { ({ st with writing := none, arrayOp := .none, restartNote := false } : Store).supersede h with
    operation := .idle, compaction := .none, imageOwed := false })

theorem State.groupClosed_compacting {s : State} {g : GroupWrite} {b : GroupStart} {h : Nat} (ho : s.store.operation = .compacting)
    (hb : g.begun = some b) (hh : b.generation = some h) : s.groupClosed g = (s.imageClosed h).operationEnded := by
  rw [State.groupClosed, ho, hb, Option.bind_some, hh]
  rfl

/-- Settles O36: the programmed slot, the programmed header, and the close mark of a compaction image. -/
theorem programmedSlotJoinsItsSector : Obligations.ProgrammedSlotJoinsItsSector := by
  refine ⟨?_, fun s k d f n more g mapOk ha hg hm => ?_, ?_⟩
  · intro s k m n more g mapOk ha hg hm used
    obtain ⟨u, hu⟩ : ∃ u, u = s.slotStored g k m := ⟨_, rfl⟩
    have hw : u.store.writing = some { g with remaining := g.remaining.tail } := by rw [hu]; rfl
    have hr : ({ g with remaining := g.remaining.tail } : GroupWrite).remaining = n :: more := by rw [hm]; rfl
    have hstarts := State.programNext_starts hw hr
    obtain ⟨w, hwr, -, -, hwm⟩ := State.programNext_writing hw hr
    have hexec := exec_slotGoesOn ha hg hm mapOk
    have hd := u.programNext_workStarts
    rw [← hu] at hexec
    refine ⟨_, hexec, ?_, ?_, ?_, ⟨w, hwr, hwm.trans hr⟩, ?_, ?_, ?_, ?_, ?_, ?_, ?_, ?_, ?_, ?_⟩
    · rw [hd.nv, hu]
      rfl
    · rw [hd.nv, hu]
      rfl
    · rw [hd.nv, hu]
      rfl
    · have hbase : u.nv.base = s.nv.base := by rw [hu]; rfl
      rw [hbase] at hstarts
      exact hstarts.congr (by rw [hu]; rfl) (by rw [hu]; rfl) (by rw [hu]; rfl)
    · rw [u.programNext_operation, hu]
      rfl
    · rw [hd.durable, hu]
      rfl
    · rw [hd.pend, hu]
      rfl
    · rw [hd.catalog, hu]
      rfl
    · rw [hd.stack, hu]
      rfl
    · rw [hd.commit, hu]
      rfl
    · rw [hd.portA, hu]
      rfl
    · rw [hd.portB, hu]
      rfl
    · rw [hd.ctl, hu]
      rfl
  · obtain ⟨u, hu⟩ : ∃ u, u = ({ s with nv := s.nv.programHeader k (.val d) f } : State).modStore (fun st => { st with arrayOp := .none }) :=
      ⟨_, rfl⟩
    have hw : u.store.writing = some g := by rw [hu]; exact hg
    obtain ⟨w, hwr, -, -, hwm⟩ := State.programNext_writing hw hm
    have hexec := exec_headerProgrammed ha hg mapOk
    have hd := u.programNext_workStarts
    rw [← hu] at hexec
    refine ⟨_, hexec, ?_, ?_, ?_, ⟨w, hwr, hwm.trans hm⟩, fun hsome hfill => ?_, ?_, ?_, ?_, ?_, ?_, ?_, ?_, ?_, ?_⟩
    · rw [hd.nv, hu]
      rfl
    · rw [hd.nv, hu]
      rfl
    · rw [hd.nv, hu]
      rfl
    · obtain ⟨z, hz, hzk⟩ := hsome
      have htable : u.store.table = s.store.table := by rw [hu]; rfl
      obtain ⟨x, hx⟩ : ∃ x, u.store.filling = some x := by
        rw [← Option.isSome_iff_exists, ← Option.ne_none_iff_isSome, Ne, Store.filling_eq_none_iff, htable]
        exact fun h => h z hz ((hfill z hz).mpr hzk)
      have hxk : x.sector = k :=
        (hfill x (htable ▸ List.mem_of_find?_eq_some hx)).mp (by simpa using List.find?_some hx)
      rw [State.programNext_filling hw hm hx, hxk]
      exact ⟨rfl, htable⟩
    · rw [u.programNext_operation, hu]
      rfl
    · rw [hd.durable, hu]
      rfl
    · rw [hd.pend, hu]
      rfl
    · rw [hd.catalog, hu]
      rfl
    · rw [hd.stack, hu]
      rfl
    · rw [hd.commit, hu]
      rfl
    · rw [hd.portA, hu]
      rfl
    · rw [hd.portB, hu]
      rfl
    · rw [hd.ctl, hu]
      rfl
  · intro s k h m g b mapOk ha hg hm ho hb hh hr hn hs used table hstale
    have hexec := exec_closeMark ha hg hm mapOk
    rw [State.groupClosed_compacting (by exact ho) hb hh] at hexec
    obtain ⟨u, hu⟩ : ∃ u, u = (s.slotStored g k m).imageClosed h := ⟨_, rfl⟩
    have htable : u.store.table = table := by rw [hu]; rfl
    have hspec := u.store.nextStale_spec
    rw [htable] at hspec
    cases hk : u.store.nextStale with
    | none =>
      rw [hk] at hspec
      obtain ⟨x, hx, hxs⟩ := hstale
      exact absurd hxs (hspec x hx)
    | some j =>
      rw [hk] at hspec
      obtain ⟨y, hy, hyj, hys, hlow⟩ := hspec
      rw [← hu, State.operationEnded_sealed (by rw [hu]; exact hs),
        State.choose_erases (by rw [hu]; rfl) (by rw [hu]; exact hs) (by rw [hu]; exact hr) (by rw [hu]; exact hn) (by rw [hu]; rfl) hk]
        at hexec
      refine ⟨_, y, hexec, hy, hys, hlow, ?_, rfl, ?_, ?_, ?_, ?_, ?_, ?_, ?_, ?_, ?_, ?_, ?_⟩
      · rw [hyj, ← htable]
        rfl
      · rw [hyj]
        rfl
      all_goals
        rw [hu]
        rfl

end Sys2Proof.Machine
end

section
/-! SUPPORT. The records that choosing work leaves: a RETIRED sector stays so, and with nothing asked of the store an erase at most
changes the table (R84, R88, R98). -/

namespace Sys2Proof.Machine

set_option Elab.async false

open Sys2Proof

/-! ### Records of a changed table -/

section
variable {st : Store}

theorem find_sector_map {f : SectorRec → SectorRec} (hf : ∀ x, (f x).sector = x.sector) (l : List SectorRec) (k : Nat) :
    (l.map f).find? (fun x => x.sector == k) = (l.find? (fun x => x.sector == k)).map f := by
  rw [List.find?_map]
  congr 2
  funext x
  rw [Function.comp, hf]

theorem Store.rec?_modRec_other {k j : Nat} (hj : j ≠ k) {f : SectorRec → SectorRec} (hf : ∀ x, (f x).sector = x.sector) :
    (st.modRec j f).rec? k = st.rec? k := by
  rw [Store.rec?, Store.modRec, find_sector_map (fun x => by split <;> simp [hf])]
  rw [Store.rec?]
  cases h : st.table.find? (fun x => x.sector == k) with
  | none => rfl
  | some x =>
    have hx : x.sector = k := by simpa using List.find?_some h
    rw [Option.map_some, if_neg (by rw [hx]; exact hj.symm)]

theorem Store.rec?_some {k : Nat} {x : SectorRec} (h : st.rec? k = some x) : x ∈ st.table ∧ x.sector = k :=
  ⟨List.mem_of_find?_eq_some h, by simpa using List.find?_some h⟩

theorem Store.rec?_isSome_iff {k : Nat} : (∃ x, st.rec? k = some x) ↔ ∃ x ∈ st.table, x.sector = k := by
  rw [← Option.isSome_iff_exists, Store.rec?, List.find?_isSome]
  simp

theorem Store.nextFree_free {j : Nat} (h : st.nextFree = some j) : ∃ x ∈ st.table, x.sector = j ∧ x.role = .free := by
  have hfree := List.find?_some h
  cases hx : st.rec? j with
  | none =>
    rw [hx] at hfree
    cases hfree
  | some x =>
    rw [hx] at hfree
    obtain ⟨hmem, hj⟩ := Store.rec?_some hx
    exact ⟨x, hmem, hj, by simpa using hfree⟩

theorem Store.nextStale_stale {j : Nat} (h : st.nextStale = some j) : ∃ x ∈ st.table, x.sector = j ∧ x.role = .stale := by
  have hspec := st.nextStale_spec
  rw [h] at hspec
  obtain ⟨y, hy, hj, hs, -⟩ := hspec
  exact ⟨y, hy, hj, hs⟩

end

/-! ### A RETIRED sector stays RETIRED (R84) -/

/-- Every record of this sector says RETIRED. -/
def Store.Retires (st : Store) (k : Nat) : Prop := ∀ x ∈ st.table, x.sector = k → x.role = .retired

theorem Store.Retires.of_table {st st' : Store} {k : Nat} (h : st.Retires k) (ht : st'.table = st.table) : st'.Retires k := by
  unfold Store.Retires
  rw [ht]
  exact h

theorem Store.Retires.modRec {st : Store} {j k : Nat} (h : st.Retires k) (hj : j ≠ k) {f : SectorRec → SectorRec}
    (hf : ∀ x, (f x).sector = x.sector) : (st.modRec j f).Retires k := by
  intro x hx hk
  obtain ⟨y, hy, rfl⟩ := List.mem_map.mp hx
  by_cases hyj : y.sector = j
  · rw [if_pos hyj, hf] at hk
    exact absurd (hyj.symm.trans hk) hj
  · rw [if_neg hyj] at hk ⊢
    exact h y hy hk

theorem Store.Retires.closeOff {st : Store} {k : Nat} (h : st.Retires k) : st.closeOff.Retires k := by
  intro x hx hk
  obtain ⟨y, hy, rfl⟩ := List.mem_map.mp hx
  by_cases hf : y.role = .filling
  · rw [if_pos hf] at hk
    have := h y hy hk
    rw [hf] at this
    cases this
  · rw [if_neg hf] at hk ⊢
    exact h y hy hk

theorem Store.Retires.ne_free {st : Store} {k j : Nat} (h : st.Retires k) (hj : st.nextFree = some j) : j ≠ k := by
  obtain ⟨x, hx, hxj, hfree⟩ := Store.nextFree_free hj
  rintro rfl
  have := h x hx hxj
  rw [hfree] at this
  cases this

theorem Store.Retires.ne_stale {st : Store} {k j : Nat} (h : st.Retires k) (hj : st.nextStale = some j) : j ≠ k := by
  obtain ⟨x, hx, hxj, hstale⟩ := Store.nextStale_stale hj
  rintro rfl
  have := h x hx hxj
  rw [hstale] at this
  cases this

section
variable {s : State} {k : Nat}

theorem State.programNext_retires (h : s.store.Retires k) : s.programNext.store.Retires k := by
  unfold State.programNext
  split
  · exact h
  · split
    · exact h
    · split
      · exact h
      · split
        · rename_i j hj
          exact (h.modRec (f := fun x => { x with role := .filling, generation := some s.nextGeneration, used := 1 })
            (h.ne_free hj) (fun _ => rfl)).of_table rfl
        · exact h

theorem State.startAppend_retires (h : s.store.Retires k) (a : PendingAppend) : (s.startAppend a).store.Retires k := by
  refine State.programNext_retires ?_
  cases ha : a.attempt
  · exact h.of_table rfl
  · exact h.closeOff.of_table rfl

theorem State.startCompaction_retires (h : s.store.Retires k) (a : Attempt) : (s.startCompaction a).store.Retires k := by
  refine State.programNext_retires ?_
  have hplace : (s.store.imagePlace a).Retires k := by
    unfold Store.imagePlace
    split
    · exact h
    · exact h.closeOff
  exact hplace.of_table rfl

theorem State.startErase_retires (h : s.store.Retires k) {j : Nat} (hj : j ≠ k) : (s.startErase j).store.Retires k :=
  (h.modRec hj (f := fun x => { x with role := .erasing }) (fun _ => rfl)).of_table rfl

theorem State.cancelAppend_retires (h : s.store.Retires k) (c : RefuseCode) : (s.cancelAppend c).store.Retires k := by
  rw [State.cancelAppend_store]
  exact h.of_table rfl

theorem State.enterReadOnly_retires (h : s.store.Retires k) : s.enterReadOnly.store.Retires k := by
  by_cases ho : s.store.operation = .appending
  · unfold State.enterReadOnly
    dsimp only
    rw [if_pos (by exact ho)]
    exact h.of_table rfl
  · rw [State.enterReadOnly_store ho]
    exact h.of_table rfl

theorem State.readOnlyTest_retires (h : s.store.Retires k) : s.readOnlyTest.store.Retires k := by
  unfold State.readOnlyTest
  split
  · exact State.enterReadOnly_retires h
  · exact h

theorem State.reclaim_retires (h : s.store.Retires k) : s.reclaim.store.Retires k := by
  unfold State.reclaim
  split
  · split
    · exact State.enterReadOnly_retires (h.of_table rfl)
    · exact h
  · exact h
  · exact h

theorem State.chooseErase_retires (h : s.store.Retires k) : s.chooseErase.store.Retires k := by
  unfold State.chooseErase
  split
  · split
    · rename_i j hj
      exact State.startErase_retires h (h.ne_stale hj)
    · exact State.reclaim_retires h
  · exact State.reclaim_retires h

theorem State.chooseWork_retires (h : s.store.Retires k) : s.chooseWork.store.Retires k := by
  unfold State.chooseWork
  split
  · split
    · exact State.startCompaction_retires h _
    · exact State.chooseErase_retires h
  · exact State.chooseErase_retires h
  · exact State.chooseErase_retires h

theorem State.requestRoom_retires (h : s.store.Retires k) : s.requestRoom.store.Retires k := by
  rw [State.requestRoom_eq]
  exact h.of_table rfl

theorem State.choose_retires (h : s.store.Retires k) : s.choose.store.Retires k := by
  rw [State.choose_eq]
  split
  · have hasked : s.roomAsked.store.Retires k := by
      unfold State.roomAsked
      split
      · exact State.requestRoom_retires h
      · exact h
    unfold State.chooseStart
    split
    · exact State.chooseWork_retires hasked
    · split
      · exact State.startAppend_retires hasked _
      · exact State.chooseWork_retires hasked
  · exact h

/-- The wipe erase begins with sector 0 of the area. -/
theorem State.startWipeErase_table (s : State) :
    s.startWipeErase.store.table = s.store.table ∨
    s.startWipeErase.store.table = (s.store.modRec 0 (fun x => { x with role := .erasing })).table := by
  rw [State.startWipeErase, State.runTasks, State.modStore_store, Store.eraseTasks_eq]
  dsimp only [List.cons_append]
  split
  · exact .inl rfl
  · exact .inr rfl

theorem State.operationEnded_retires (h : s.store.Retires k) (hk : 4 ≤ k) : s.operationEnded.store.Retires k := by
  unfold State.operationEnded
  split
  · rcases s.startWipeErase_table with ht | ht
    · exact h.of_table ht
    · exact (h.modRec (j := 0) (by omega) (f := fun x => { x with role := .erasing }) (fun _ => rfl)).of_table ht
  · exact State.choose_retires h

end

/-! ### With nothing asked of the store an erase at most follows (R88) -/

theorem State.operationEnded_workDiffers (s : State) : s.WorkDiffers s.operationEnded := by
  unfold State.operationEnded
  split
  · exact s.startWipeErase_workStarts.work
  · exact s.choose_workDiffers

section
variable {s : State} (hp : s.store.pend = none) (hc : s.store.compaction = .none)
include hp hc

theorem State.choose_table : s.choose.store.table = s.store.table ∨
    ∃ j, s.store.nextStale = some j ∧ s.choose.store.table = (s.store.modRec j (fun x => { x with role := .erasing })).table := by
  rw [State.choose_nothingAsked hp hc]
  split
  · rw [State.chooseErase, State.reclaim_none hc]
    split
    · split
      · rename_i j hj
        exact .inr ⟨j, hj, rfl⟩
      · exact .inl rfl
    · exact .inl rfl
  · exact .inl rfl

theorem State.operationEnded_rests : s.WorkStarts s.operationEnded ∧ s.operationEnded.store.compaction = .none := by
  unfold State.operationEnded
  split
  · refine ⟨s.startWipeErase_workStarts, ?_⟩
    rw [State.startWipeErase, State.runTasks, State.modStore_store, Store.eraseTasks_eq]
    dsimp only [List.cons_append]
    split
    · exact hc
    · exact hc
  · exact State.choose_rests hp hc

/-- A sector that is neither STALE nor of the area keeps its record. -/
theorem State.operationEnded_rec? {k : Nat} (hk : 4 ≤ k) (hstale : ∀ x ∈ s.store.table, x.sector = k → x.role ≠ .stale) :
    s.operationEnded.store.rec? k = s.store.rec? k := by
  have hsame {st : Store} (h : st.table = s.store.table) : st.rec? k = s.store.rec? k := by rw [Store.rec?, h, Store.rec?]
  have hother {st : Store} {j : Nat} (hj : j ≠ k) (h : st.table = (s.store.modRec j (fun x => { x with role := .erasing })).table) :
      st.rec? k = s.store.rec? k := by
    rw [Store.rec?, h]
    exact Store.rec?_modRec_other hj (fun _ => rfl)
  unfold State.operationEnded
  split
  · rcases s.startWipeErase_table with h | h
    · exact hsame h
    · exact hother (by omega) h
  · rcases State.choose_table hp hc with h | ⟨j, hj, h⟩
    · exact hsame h
    · refine hother ?_ h
      obtain ⟨x, hx, hxj, hxs⟩ := Store.nextStale_stale hj
      rintro rfl
      exact hstale x hx hxj hxs

end

end Sys2Proof.Machine
end

section
/-! SUPPORT. The end of an erase: of a sector of the journal, with what follows it, and of a sector that SEAL or WIPE erases (R88, R94,
R97 to R99, R102 to R104). -/

namespace Sys2Proof.Machine

set_option Elab.async false

open Sys2Proof

/-! ### The erase of a ring sector itself (R94, R97) -/

theorem Store.nextEraseCount_eq {st : Store} {k n : Nat} (h : st.PreviousCount k n) : st.nextEraseCount k = n + 1 := by
  obtain ⟨x, hx, hcount⟩ := h
  rw [Store.nextEraseCount, hx, Option.bind_some]
  rcases hcount with hcount | ⟨hcount, hmax, hreach⟩
  · rw [hcount]
    rfl
  · obtain ⟨hbound, hattained⟩ := st.highestErase_bounds
    rw [hcount, Option.getD_none]
    congr 1
    refine le_antisymm ?_ ?_
    · rcases hattained with hzero | ⟨y, hy, hyc⟩
      · omega
      · exact hmax y hy _ hyc
    · rcases hreach with ⟨y, hy, hyc⟩ | rfl
      · exact hbound y hy n hyc
      · exact Nat.zero_le _

/-- The record that a clean erase leaves: FREE or RETIRED, without a generation, one slot in use. -/
def SectorRec.erasedTo (count : Nat) (x : SectorRec) : SectorRec :=
  { x with role := if 100000 ≤ count then .retired else .free, generation := none, eraseCount := some count, used := 1 }

theorem Store.modRec_modRec (st : Store) (k : Nat) {f : SectorRec → SectorRec} (hf : ∀ x, (f x).sector = x.sector)
    (g : SectorRec → SectorRec) : (st.modRec k f).modRec k g = st.modRec k (fun x => g (f x)) := by
  rw [Store.modRec, Store.modRec, Store.modRec, List.map_map]
  congr 1
  refine List.map_congr_left fun x _ => ?_
  dsimp only [Function.comp]
  by_cases hx : x.sector = k
  · simp only [hx, hf, if_true]
  · simp only [hx, if_false]

section
variable {s : State} {k : Nat} (mapOk : Bool)

theorem State.ringErased_clean {n : Nat} (h : s.store.PreviousCount k n) : (s.ringErased k .clean mapOk).store =
    { s.store.modRec k (SectorRec.erasedTo (n + 1)) with arrayOp := .none } := by
  rw [State.ringErased, State.ringEraseEnds, Store.nextEraseCount_eq h]
  dsimp only
  by_cases hlimit : 100000 ≤ n + 1
  · have hto : SectorRec.erasedTo (n + 1) =
        fun x => { x with role := .retired, generation := none, eraseCount := some (n + 1), used := 1 } :=
      funext fun x => by rw [SectorRec.erasedTo, if_pos hlimit]
    rw [if_pos (by exact hlimit), State.modStore_store, State.retire_store, hto]
    dsimp only
    rw [Store.modRec_modRec]
    exact fun _ => rfl
  · have hto : SectorRec.erasedTo (n + 1) =
        fun x => { x with role := .free, generation := none, eraseCount := some (n + 1), used := 1 } :=
      funext fun x => by rw [SectorRec.erasedTo, if_neg hlimit]
    rw [if_neg (by exact hlimit), State.modStore_store, hto]

/-- Beside the array and the table the erase of a ring sector changes nothing. -/
theorem State.ringErased_beside (r : EraseResult) : (s.ringErased k r mapOk).catalog = s.catalog ∧
    (s.ringErased k r mapOk).stack = s.stack ∧ (s.ringErased k r mapOk).commit = s.commit ∧
    (s.ringErased k r mapOk).ctl = s.ctl ∧ (s.ringErased k r mapOk).portA = s.portA ∧ (s.ringErased k r mapOk).portB = s.portB := by
  unfold State.ringErased State.ringEraseEnds State.retire
  cases r <;> cases mapOk <;> dsimp only [State.modStore] <;> repeat' split
  all_goals exact ⟨rfl, rfl, rfl, rfl, rfl, rfl⟩

theorem State.ringErased_clean_ring {n : Nat} (h : s.store.PreviousCount k n) : (s.ringErased k .clean mapOk).nv.ring =
      s.nv.ring.map (fun z => if z.sector = k then
        { z with eraseCount := .val (n + 1), generation := .blank, restart := false, content := [] } else z) := by
  rw [State.ringErased, State.modStore_nv, State.ringEraseEnds, Store.nextEraseCount_eq h]
  dsimp only
  split
  · rw [State.retire_ring]
    rfl
  · rfl

theorem NonVol.failedErase_ring (nv : NonVol) (hk : 4 ≤ k) (d : Nat) :
    nv.failedErase k d = nv.modRing k (RingSector.failedErase (Config.residue d 0)) := if_neg (by omega)

theorem State.retire_area (s : State) (k : Nat) (mapOk : Bool) : (s.retire k mapOk).nv.area = s.nv.area := by
  unfold State.retire
  dsimp only
  split <;> rfl

theorem State.ringErased_area (r : EraseResult) (hk : 4 ≤ k) : (s.ringErased k r mapOk).nv.area = s.nv.area := by
  rw [State.ringErased, State.modStore_nv]
  cases r with
  | clean =>
    dsimp only [State.ringEraseEnds]
    split
    · exact State.retire_area _ _ _
    · rfl
  | verifyFail =>
    dsimp only [State.ringEraseEnds]
    rw [State.retire_area, NonVol.failedErase_ring _ hk]
    rfl
  | countFail =>
    dsimp only [State.ringEraseEnds]
    rw [State.retire_area]
    rfl

theorem State.ringErased_verifyFail : (s.ringErased k .verifyFail mapOk).store =
    { s.store.modRec k (fun x => { x with role := .retired }) with arrayOp := .none } := by
  rw [State.ringErased, State.modStore_store, State.ringEraseEnds, State.retire_store]

theorem State.ringErased_verifyFail_map (h : mapOk = true) : k ∈ (s.ringErased k .verifyFail mapOk).nv.retireMap := by
  rw [State.ringErased, State.modStore_nv, State.ringEraseEnds, State.retire, h]
  rw [if_pos rfl, NonVol.mapRetired]
  dsimp only
  split
  · assumption
  · simp

theorem State.ringErased_verifyFail_others (hk : 4 ≤ k) : ∀ z ∈ (s.ringErased k .verifyFail mapOk).nv.ring,
    z.sector ≠ k → z ∈ s.nv.ring := by
  intro z hz hzk
  rw [State.ringErased, State.modStore_nv, State.ringEraseEnds, State.retire_ring, NonVol.failedErase_ring _ hk] at hz
  obtain ⟨y, hy, rfl⟩ := List.mem_map.mp hz
  by_cases hyk : y.sector = k
  · rw [if_pos hyk] at hzk
    exact absurd ((RingSector.partErased_sector _ _).trans hyk) hzk
  · rw [if_neg hyk]
    exact hy

end

/-! ### What follows in the journal (R88, R98, R99) -/

/-- The state of the journal after the erase of a sector, IDLE, before what follows. -/
def State.eraseSettled (s : State) (k : Nat) (r : EraseResult) (mapOk : Bool) : State :=
  (s.ringErased k r mapOk).modStore (fun st => { st with operation := .idle })

theorem exec_ringErase {s : State} {k : Nat} (ha : s.store.arrayOp = .erase k) (hk : 4 ≤ k) (ho : s.store.operation = .erasing)
    (r : EraseResult) (mapOk : Bool) :
    exec (.sectorEraseDone r mapOk) s = .next ((s.eraseSettled k r mapOk).ringEraseFollowed k) := by
  change execSectorEraseDone r mapOk s = _
  rw [execSectorEraseDone, s.eraseEnds_ring ha (by omega), if_pos ho]
  rfl

/-- Retired or not, what follows leaves everything beside the store, the ports and the Commit Unit. -/
theorem State.ringEraseFollowed_workDiffers (s : State) (k : Nat) : s.WorkDiffers (s.ringEraseFollowed k) := by
  unfold State.ringEraseFollowed
  split
  · exact s.readOnlyTest_workDiffers.trans (State.operationEnded_workDiffers _)
  · exact s.operationEnded_workDiffers

theorem State.readOnlyTest_table (s : State) (ho : s.store.operation ≠ .appending) : s.readOnlyTest.store.table = s.store.table := by
  unfold State.readOnlyTest
  split
  · rw [State.enterReadOnly_store ho]
    rfl
  · rfl

theorem Store.rec?_of_table {st st' : Store} (h : st'.table = st.table) (k : Nat) : st'.rec? k = st.rec? k := by
  rw [Store.rec?, h, Store.rec?]

theorem Store.rec?_modRec_same {st : Store} {k : Nat} {x : SectorRec} (h : st.rec? k = some x) {f : SectorRec → SectorRec}
    (hf : ∀ x, (f x).sector = x.sector) : (st.modRec k f).rec? k = some (f x) := by
  rw [Store.rec?, Store.modRec, find_sector_map (fun x => by split <;> simp [hf])]
  rw [Store.rec?] at h
  have hx : x.sector = k := by simpa using List.find?_some h
  rw [h, Option.map_some, if_pos hx]

/-- A clean erase with nothing asked of the store: the record and the array, whatever follows. -/
theorem State.eraseSettled_clean {s : State} {k n : Nat} (hcount : s.store.PreviousCount k n) (mapOk : Bool) :
    (s.eraseSettled k .clean mapOk).store =
      { s.store.modRec k (SectorRec.erasedTo (n + 1)) with arrayOp := .none, operation := .idle } := by
  rw [State.eraseSettled, State.modStore_store, State.ringErased_clean mapOk hcount]


/-- A retired sector leaves the usable ones for the RETIRED ones; the FREE ones lose it too. -/
theorem Store.retireRec_counts (st : Store) (k : Nat) :
    (st.modRec k (fun x => { x with role := .retired })).usable =
      (st.table.filter (fun x => decide (x.role ≠ .retired ∧ x.sector ≠ k))).length ∧
    (st.modRec k (fun x => { x with role := .retired })).count .retired =
      (st.table.filter (fun x => decide (x.role = .retired ∨ x.sector = k))).length ∧
    (st.modRec k (fun x => { x with role := .retired })).count .free =
      (st.table.filter (fun x => decide (x.role = .free ∧ x.sector ≠ k))).length := by
  rw [Store.usable_eq, Store.count_eq, Store.count_eq, Store.modRec, List.filter_map, List.length_map, List.filter_map, List.length_map,
    List.filter_map, List.length_map]
  refine ⟨?_, ?_, ?_⟩
  all_goals
    congr 1
    refine List.filter_congr fun x _ => ?_
    dsimp only [Function.comp]
    by_cases hx : x.sector = k <;> simp [hx]

/-- The state of the journal after a failed erase. -/
theorem State.eraseSettled_verifyFail (s : State) (k : Nat) (mapOk : Bool) : (s.eraseSettled k .verifyFail mapOk).store =
    { s.store.modRec k (fun x => { x with role := .retired }) with arrayOp := .none, operation := .idle } := by
  rw [State.eraseSettled, State.modStore_store, State.ringErased_verifyFail]

theorem Store.Retires.of_retired (st : Store) (k : Nat) : (st.modRec k (fun x => { x with role := .retired })).Retires k := by
  intro x hx hk
  obtain ⟨y, -, rfl⟩ := List.mem_map.mp hx
  by_cases hy : y.sector = k
  · rw [if_pos hy]
  · rw [if_neg hy] at hk
    exact absurd hk hy

/-- A sector that has not been retired brings no READ_ONLY test (R98). -/
theorem State.ringEraseFollowed_kept {s : State} {k : Nat} (h : ∀ x, s.store.rec? k = some x → x.role ≠ .retired) :
    s.ringEraseFollowed k = s.operationEnded := by
  rw [State.ringEraseFollowed, if_neg]
  rw [Option.any_eq_true]
  rintro ⟨x, hx, hr⟩
  exact h x hx (by simpa using hr)

theorem State.ringEraseFollowed_retired {s : State} {k : Nat} {x : SectorRec} (h : s.store.rec? k = some x) (hr : x.role = .retired) :
    s.ringEraseFollowed k = s.readOnlyTest.operationEnded := by
  rw [State.ringEraseFollowed, h, if_pos (by simp [hr])]

/-- With nothing asked of the store the record of a sector that is not STALE stays what the erase made it. -/
theorem State.ringEraseFollowed_rec? {s : State} {k : Nat} (hp : s.store.pend = none) (hc : s.store.compaction = .none)
    (ho : s.store.operation = .idle) (hk : 4 ≤ k) (hstale : ∀ x ∈ s.store.table, x.sector = k → x.role ≠ .stale) :
    (s.ringEraseFollowed k).store.rec? k = s.store.rec? k := by
  unfold State.ringEraseFollowed
  split
  · obtain ⟨-, hpv, hcv⟩ := State.readOnlyTest_quiet hp hc
    have htable := s.readOnlyTest_table (by rw [ho]; exact nofun)
    rw [State.operationEnded_rec? hpv hcv hk (by rw [htable]; exact hstale)]
    exact Store.rec?_of_table htable k
  · exact State.operationEnded_rec? hp hc hk hstale

/-! ### The append or compaction that waited (R88 to R92, R96) -/

theorem Store.appendFits_iff (st : Store) (a : PendingAppend) :
    st.appendFits a = true ↔ a.slots.length ≤ (st.beginPosition a.attempt).freeSpace := by
  rw [Store.appendFits]
  cases a.attempt with
  | first => exact decide_eq_true_iff
  | second =>
    rw [show st.beginPosition .second = st.closeOff from rfl, Store.closeOff_freeSpace]
    exact decide_eq_true_iff

/-- Nothing asks for room where the pending append may start, or where compaction is not none. -/
theorem State.roomAsked_self {s : State} (h : ∀ a, s.store.pend = some a → s.store.appendMayStart a = true ∨ s.store.compaction ≠ .none) :
    s.roomAsked = s := by
  unfold State.roomAsked State.requestRoom
  split
  · split
    · rfl
    · rename_i a ha
      refine if_neg (fun ⟨_, _, hlack, hnone⟩ => ?_)
      rcases h a ha with hmay | hc
      · rw [hmay] at hlack
        cases hlack
      · exact hc hnone
  · rfl

/-- The generation base is a matter of the area. -/
theorem NonVol.base_congr {nv nv' : NonVol} (h : nv'.area = nv.area) : nv'.base = nv.base := by
  rw [NonVol.base, NonVol.areaSlots, h]
  rfl

/-! ### Sectors that SEAL and WIPE erase (R102 to R104) -/

/-- An erase of the list starts while the supply is NORMAL. -/
theorem State.runTasks_erase {s : State} {j : Nat} {ts : List Task} (ht : s.store.tasks = .erase j :: ts) (hn : s.ctl.supply = .normal) :
    s.runTasks = s.modStore (fun st =>
      { st.modRec j (fun x => { x with role := .erasing }) with tasks := ts, arrayOp := .erase j }) := by
  rw [State.runTasks, ht]
  exact if_neg (by simp [hn])

theorem State.runTasks_retireMap {s : State} {ts : List Task} (ht : s.store.tasks = .retireMap :: ts) (hn : s.ctl.supply = .normal) :
    s.runTasks = s.modStore (fun st => { st with tasks := ts, arrayOp := .retireMap }) := by
  rw [State.runTasks, ht]
  exact if_neg (by simp [hn])

/-- Once the ring has been erased the area is programmed if the FREE sectors hold the initial image, else SEAL fails (R102, R103). -/
theorem State.runTasks_programArea {s : State} {ts : List Task} (ht : s.store.tasks = .programArea :: ts) (hn : s.ctl.supply = .normal) :
    s.runTasks = if (s.modStore Store.ringErased).initialFits then
        (s.modStore Store.ringErased).modStore (fun st =>
          { st with tasks := (s.modStore Store.ringErased).areaTasks, arrayOp := .areaHeader 0 })
      else (s.modStore Store.ringErased).sealFails := by
  rw [State.runTasks, ht]
  exact if_neg (by simp [hn])

section
variable {s : State} {k : Nat} (ha : s.store.arrayOp = .erase k)
include ha

theorem exec_areaErase (hk : k < 4) (r : EraseResult) (mapOk : Bool) :
    exec (.sectorEraseDone r mapOk) s = .next (s.areaEraseEnds k r) := by
  change execSectorEraseDone r mapOk s = _
  rw [execSectorEraseDone, State.eraseEnds_area _ ha hk]

theorem exec_ringErase_task (hk : 4 ≤ k) (ho : s.store.operation ≠ .erasing) (r : EraseResult) (mapOk : Bool) :
    exec (.sectorEraseDone r mapOk) s = .next (s.ringErased k r mapOk).runTasks := by
  change execSectorEraseDone r mapOk s = _
  rw [execSectorEraseDone, s.eraseEnds_ring ha (by omega), if_neg ho]

end

/-- The array after a sector of the area has been erased; the retire map stood in the header of sector 0. -/
theorem State.areaErased_eq (s : State) (k : Nat) : State.areaEraseEnds.erased s k =
    (({ s with nv := { s.nv with
        area := s.nv.area.map (fun z => if z.sector = k then { z with place := .blank, content := [] } else z)
        retireMap := if k = 0 then [] else s.nv.retireMap } } : State).modStore
      (fun st => { st with arrayOp := .none })).runTasks := by
  rw [State.areaEraseEnds.erased]
  by_cases hk : k = 0
  · simp only [if_pos hk]
    rfl
  · simp only [if_neg hk]
    rfl

/-- The base lies one above a generation that a RETIRED sector keeps, above all of them, and is 1 where there is none (R102). -/
theorem State.generationBase_spec (s : State) :
    (s.generationBase = 1 ∨ ∃ z ∈ s.nv.ring, z.sector ∈ s.store.retiredNumbers ∧ ∃ d, z.generation = .val d ∧
      s.generationBase = d + 1) ∧ 1 ≤ s.generationBase ∧
    ∀ z ∈ s.nv.ring, z.sector ∈ s.store.retiredNumbers → ∀ d, z.generation = .val d → d < s.generationBase := by
  have hfold : ∀ (l : List RingSector) (m : Nat),
      let b := l.foldl (fun m x => match x.generation with | .val g => max m (g + 1) | .blank => m | .torn => m) m
      (b = m ∨ ∃ z ∈ l, ∃ d, z.generation = .val d ∧ b = d + 1) ∧ m ≤ b ∧ ∀ z ∈ l, ∀ d, z.generation = .val d → d < b := by
    intro l
    induction l with
    | nil => exact fun m => ⟨.inl rfl, le_refl m, nofun⟩
    | cons y ys ih =>
      intro m
      obtain ⟨hreach, hle, hbound⟩ := ih (match y.generation with | .val g => max m (g + 1) | .blank => m | .torn => m)
      dsimp only
      rw [List.foldl_cons]
      cases hy : y.generation with
      | val g =>
        rw [hy] at hreach hle hbound
        dsimp only at hreach hle hbound ⊢
        refine ⟨?_, le_trans (le_max_left _ _) hle, fun z hz d hd => ?_⟩
        · rcases hreach with hreach | ⟨z, hz, hd⟩
          · rcases le_total m (g + 1) with hm | hm
            · exact .inr ⟨y, List.mem_cons_self, g, hy, hreach.trans (max_eq_right hm)⟩
            · exact .inl (hreach.trans (max_eq_left hm))
          · exact .inr ⟨z, List.mem_cons_of_mem y hz, hd⟩
        · rcases List.mem_cons.mp hz with rfl | hz
          · rw [hy, Field.val.injEq] at hd
            have := le_trans (le_max_right m (g + 1)) hle
            omega
          · exact hbound z hz d hd
      | blank =>
        rw [hy] at hreach hle hbound
        refine ⟨hreach.imp id fun ⟨z, hz, hd⟩ => ⟨z, List.mem_cons_of_mem y hz, hd⟩, hle, fun z hz d hd => ?_⟩
        rcases List.mem_cons.mp hz with rfl | hz
        · rw [hy] at hd
          cases hd
        · exact hbound z hz d hd
      | torn =>
        rw [hy] at hreach hle hbound
        refine ⟨hreach.imp id fun ⟨z, hz, hd⟩ => ⟨z, List.mem_cons_of_mem y hz, hd⟩, hle, fun z hz d hd => ?_⟩
        rcases List.mem_cons.mp hz with rfl | hz
        · rw [hy] at hd
          cases hd
        · exact hbound z hz d hd
  obtain ⟨hreach, hle, hbound⟩ := hfold (s.nv.ring.filter (fun x => decide (x.sector ∈ s.store.retiredNumbers))) 1
  have hmem {z : RingSector} : z ∈ s.nv.ring.filter (fun x => decide (x.sector ∈ s.store.retiredNumbers)) ↔
      z ∈ s.nv.ring ∧ z.sector ∈ s.store.retiredNumbers := by rw [List.mem_filter, decide_eq_true_iff]
  refine ⟨hreach.imp id fun ⟨z, hz, hd⟩ => ?_, hle, fun z hz hr => hbound z (hmem.mpr ⟨hz, hr⟩)⟩
  obtain ⟨hz, hr⟩ := hmem.mp hz
  exact ⟨z, hz, hr, hd⟩

theorem Store.mem_retiredNumbers_iff (st : Store) (k : Nat) : k ∈ st.retiredNumbers ↔ ∃ y ∈ st.table, y.sector = k ∧ y.role = .retired := by
  simp only [Store.retiredNumbers, List.mem_map, List.mem_filter, beq_iff_eq]
  exact ⟨fun ⟨y, ⟨hy, hr⟩, hk⟩ => ⟨y, hy, hk, hr⟩, fun ⟨y, hy, hk, hr⟩ => ⟨y, ⟨hy, hr⟩, hk⟩⟩

/-- Settles O37, part by part in the order of the statement: a stale sector erased, the work that waited, a failed verify, a sector of
the area, and the sectors that SEAL or WIPE erases. -/
theorem cleanEraseFreesTheSector : Obligations.CleanEraseFreesTheSector := by
  refine ⟨fun s k n mapOk ha hk ho hp hc hcount => ?stale, ?waited, ?failed, ?area, ?areaFails, ?ring, ?last⟩
  case stale =>
    have hE := State.eraseSettled_clean hcount mapOk
    have hwork := (s.eraseSettled k .clean mapOk).ringEraseFollowed_workDiffers k
    obtain ⟨hcat, hstack, -⟩ := State.ringErased_beside (s := s) (k := k) mapOk .clean
    obtain ⟨x, hx, -⟩ := id hcount
    have hnever : ∀ y ∈ (s.eraseSettled k .clean mapOk).store.table, y.sector = k → y.role ≠ .stale := by
      rw [hE]
      intro y hy hyk
      obtain ⟨z, -, rfl⟩ := List.mem_map.mp hy
      by_cases hz : z.sector = k
      · rw [if_pos hz, SectorRec.erasedTo]
        dsimp only
        split <;> exact nofun
      · rw [if_neg hz] at hyk
        exact absurd hyk hz
    refine ⟨_, x.erasedTo (n + 1), exec_ringErase ha hk ho .clean mapOk, ?_, rfl, rfl, rfl, rfl, ?_, hwork.catalog.trans hcat,
      hwork.stack.trans hstack, hwork.durable.trans ?_⟩
    · rw [State.ringEraseFollowed_rec? (by rw [hE]; exact hp) (by rw [hE]; exact hc) (by rw [hE]) hk hnever, hE]
      exact Store.rec?_modRec_same hx (fun _ => rfl)
    · rw [hwork.nv]
      exact State.ringErased_clean_ring mapOk hcount
    · rw [hE]
      rfl
  case waited =>
    intro s k n mapOk ha hk ho hs hr hn hm hcount hlow hothers freed closed image
    have hE : (s.eraseSettled k .clean mapOk).store = { freed with arrayOp := .none, operation := .idle } := by
      have hto : SectorRec.erasedTo (n + 1) =
          fun x => { x with role := .free, generation := none, eraseCount := some (n + 1), used := 1 } :=
        funext fun x => by rw [SectorRec.erasedTo, if_neg (by omega)]
      rw [State.eraseSettled_clean hcount, hto]
      rfl
    obtain ⟨hcat, hstack, hcommit, hctl, hA, hB⟩ := State.ringErased_beside (s := s) (k := k) mapOk .clean
    have hbase : (s.eraseSettled k .clean mapOk).nv.base = s.nv.base :=
      NonVol.base_congr (State.ringErased_area mapOk .clean hk)
    obtain ⟨v, hv⟩ : ∃ v, v = s.eraseSettled k .clean mapOk := ⟨_, rfl⟩
    rw [← hv] at hE hbase
    have hclean : v.store.noStale = true := by
      rw [Store.noStale_iff, hE]
      intro y hy
      obtain ⟨z, hz, rfl⟩ := List.mem_map.mp hy
      by_cases hzk : z.sector = k
      · rw [if_pos hzk]
        exact ⟨nofun, nofun⟩
      · rw [if_neg hzk]
        exact hothers z hz hzk
    have hexec : exec (.sectorEraseDone .clean mapOk) s = .next v.roomAsked.chooseStart := by
      rw [exec_ringErase ha hk ho, ← hv, State.ringEraseFollowed_kept, State.operationEnded_sealed (by rw [hv]; exact hcat.symm ▸ hs),
        State.choose_idle (by rw [hE]) (by rw [hv]; exact hcat.symm ▸ hs) (by rw [hv]; exact hctl.symm ▸ hr)]
      obtain ⟨y, hy, -⟩ := id hcount
      have hrec : v.store.rec? k =
          some { y with role := .free, generation := none, eraseCount := some (n + 1), used := 1 } := by
        rw [hE]
        exact Store.rec?_modRec_same hy (fun _ => rfl)
      intro x hx
      rw [← Option.some.inj (hrec.symm.trans hx)]
      exact nofun
    refine ⟨?_, ?_⟩
    · intro a hp hc howed place group hfit
      have hplace : place = freed.beginPosition a.attempt := by
        cases hatt : a.attempt
        · exact if_pos hatt
        · exact if_neg (by simp [hatt])
      have hmay : v.store.appendMayStart a = true := by
        rw [Store.appendMayStart_iff, Store.appendFits_iff, hE]
        refine ⟨howed, ?_⟩
        rw [hplace] at hfit
        cases hatt : a.attempt <;> rw [hatt] at hfit <;> exact hfit
      have happ : v.roomAsked.chooseStart = v.startAppend a := by
        rw [State.roomAsked_self fun b hb => .inl (by rw [hE] at hb; rw [← Option.some.inj (hp.symm.trans hb)]; exact hmay)]
        refine State.chooseStart_appends (by rw [hE]; exact hp) (State.admissible_iff.mpr ⟨by rw [hE]; exact hm, ?_, hmay⟩)
          (by rw [hE, show freed.compaction = .none from hc]; rfl) hclean
        rw [hv]
        exact hctl.symm ▸ hn
      obtain ⟨hop, hcomp, ⟨w, hw, -, hwa, hwr⟩, hstarts⟩ := v.startAppend_spec a
      have hd := v.startAppend_workStarts a
      rw [hbase] at hstarts
      refine ⟨_, hexec, ?_⟩
      rw [happ]
      refine ⟨hop, hd.pend.trans (by rw [hE]; exact hp), hcomp.trans (by rw [hE]; exact hc), ⟨w, hw, hwa, hwr⟩, ?_,
        hd.durable.trans (by rw [hE]), hd.catalog.trans (hv ▸ hcat), hd.stack.trans (hv ▸ hstack), hd.commit.trans (hv ▸ hcommit),
        hd.portA.trans (hv ▸ hA), hd.portB.trans (hv ▸ hB)⟩
      rw [hplace]
      refine hstarts.congr ?_ ?_ ?_ <;> rw [hE] <;> cases a.attempt <;> rfl
    · intro c hc place hfit
      have hplace : place = freed.imagePlace c := (freed.imagePlace_eq c).symm
      have hcv : v.store.compaction = .requested c := by rw [hE]; exact hc
      obtain ⟨htable, hspace⟩ := Store.imagePlace_congr (st := freed) (st' := v.store) (by rw [hE]) (by rw [hE]) c
      have himage : imageGroup v.catalog.entries v.store.durable = image := by
        rw [hE, hv]
        exact congrArg (fun c => imageGroup c.entries s.store.durable) hcat
      have hcomp : v.roomAsked.chooseStart = v.startCompaction c := by
        rw [State.roomAsked_self fun b _ => .inr (by rw [hcv]; exact nofun), State.chooseStart_requested hcv]
        refine State.chooseWork_compacts hcv (by rw [hE]; exact hm) ?_ ?_
        · rw [hv]
          exact hctl.symm ▸ hn
        · rw [State.imageFits_iff, himage, hspace, ← hplace]
          exact hfit
      obtain ⟨hop, hrun, ⟨w, hw, hwa, hwr⟩, hstarts⟩ := v.startCompaction_spec c
      have hd := v.startCompaction_workStarts c
      obtain ⟨hl, hrn⟩ := v.store.imagePlace_unplaced c
      obtain ⟨hl', hrn'⟩ := freed.imagePlace_unplaced c
      have hdur : v.store.durable = s.store.durable := by rw [hE]
      rw [hbase, hdur] at hstarts
      refine ⟨_, hexec, ?_⟩
      rw [hcomp]
      refine ⟨hop, hd.pend.trans (by rw [hE]), hrun, ⟨w, hw, hwa, hwr.trans himage⟩, ?_,
        hd.durable.trans hdur, hd.catalog.trans (hv ▸ hcat), hd.stack.trans (hv ▸ hstack), hd.commit.trans (hv ▸ hcommit),
        hd.portA.trans (hv ▸ hA), hd.portB.trans (hv ▸ hB)⟩
      rw [hplace]
      exact hstarts.congr htable.symm (by rw [hl, hl', hE]) (by rw [hrn, hrn', hE])
  case failed =>
    intro s k mapOk ha hk ho hc usable retired
    have hF := s.eraseSettled_verifyFail k mapOk
    obtain ⟨hcat, hstack, hcommit, hctl, hA, hB⟩ := State.ringErased_beside (s := s) (k := k) mapOk .verifyFail
    have hports (p : Port) : (s.eraseSettled k .verifyFail mapOk).port p = s.port p := by
      cases p
      · exact hA
      · exact hB
    have hwork := (s.eraseSettled k .verifyFail mapOk).ringEraseFollowed_workDiffers k
    have hmap := State.ringErased_verifyFail_map (s := s) (k := k) mapOk
    have hring := State.ringErased_verifyFail_others (s := s) (k := k) mapOk hk
    have harea := State.ringErased_area (s := s) (k := k) mapOk .verifyFail hk
    have hexec := exec_ringErase ha hk ho .verifyFail mapOk
    obtain ⟨husable, hretired, -⟩ := s.store.retireRec_counts k
    have hret : (s.eraseSettled k .verifyFail mapOk).store.Retires k := by
      rw [hF]
      exact (Store.Retires.of_retired s.store k).of_table rfl
    obtain ⟨v, hv⟩ : ∃ v, v = s.eraseSettled k .verifyFail mapOk := ⟨_, rfl⟩
    have hvcommit : v.commit = s.commit := hv ▸ hcommit
    have hvperiod : s.LinksKept v := ⟨hvcommit, State.leasePeriod_of_setup (by rw [hv]; exact congrArg Catalog.setup hcat),
      fun p => by rw [hv, hports], fun p => by rw [hv, hports], fun p => by rw [hv, hports]⟩
    have hvtold : s.Untold v := fun p => by rw [hv, hports]; exact ⟨rfl, rfl⟩
    rw [← hv] at hF hwork hexec hret hports
    have hvr : v.nv = (s.ringErased k .verifyFail mapOk).nv := by rw [hv]; rfl
    have husable : v.store.usable = usable := by rw [hF]; exact husable
    have hretired : v.store.count .retired = retired := by rw [hF]; exact hretired
    have hvc : v.store.compaction = .none := by rw [hF]; exact hc
    have hvo : v.store.operation ≠ .appending := by rw [hF]; exact nofun
    refine ⟨_, hexec, ?_, fun hok => ?_, ?_, ?_, hwork.catalog.trans (hv ▸ hcat), hwork.stack.trans (hv ▸ hstack),
      hwork.durable.trans (by rw [hF]; rfl), hwork.ctl.trans (hv ▸ hctl), fun hsome hm hfew => ?_, fun hmode hp => ?_⟩
    · unfold State.ringEraseFollowed
      split
      · exact State.operationEnded_retires (State.readOnlyTest_retires hret) hk
      · exact State.operationEnded_retires hret hk
    · rw [hwork.nv, hvr]
      exact hmap hok
    · rw [hwork.nv, hvr]
      exact hring
    · rw [hwork.nv, hvr]
      exact harea
    · obtain ⟨x, hx⟩ := Store.rec?_isSome_iff.mpr hsome
      have hrec : v.store.rec? k = some { x with role := .retired } := by
        rw [hF]
        exact Store.rec?_modRec_same hx (fun _ => rfl)
      have htest : v.readOnlyTest = v.enterReadOnly :=
        if_pos ⟨by rw [hF]; exact hm, by rw [husable, Store.readOnlyLimit, hF]; exact hfew⟩
      rw [State.ringEraseFollowed_retired hrec rfl, htest]
      have hstore := State.enterReadOnly_store hvo
      have hpe : v.enterReadOnly.store.pend = none := by rw [hstore]
      have hce : v.enterReadOnly.store.compaction = .none := by rw [hstore, Store.dropRequest, hvc]; rfl
      obtain ⟨hrest, -⟩ := State.operationEnded_rests hpe hce
      refine ⟨hrest.mode.trans (by rw [hstore]), hrest.pend.trans hpe, fun p => ?_, fun a c hp hcm => ?_⟩
      · have htold := ((State.enterReadOnly_told hvo).after hvtold).andThen hrest.untold
        rw [(htold p).1, hretired]
      · have hfail := ((State.enterReadOnly_failed hvo (by rw [hF]; exact hp) (hvcommit.trans hcm)).after hvperiod).andThen
          hrest.linksKept
        exact ⟨hfail.commit, hfail.answered⟩
    · have hself : (if (v.store.rec? k).any (fun x => x.role == .retired) then v.readOnlyTest else v) = v := by
        split
        · refine if_neg (fun h => ?_)
          obtain ⟨hm, hu⟩ := h
          rw [husable, Store.readOnlyLimit, hF] at hu
          rw [hF] at hm
          rcases hmode with hmode | hmode
          · rw [show s.store.mode = .writable from hm] at hmode
            cases hmode
          · exact absurd hu (not_lt.mpr hmode)
        · rfl
      rw [State.ringEraseFollowed, hself]
      obtain ⟨hrest, -⟩ := State.operationEnded_rests (s := v) (by rw [hF]; exact hp) hvc
      exact ⟨hrest.mode.trans (by rw [hF]; rfl), hrest.commit.trans hvcommit, hrest.portA.trans (hports .A),
        hrest.portB.trans (hports .B)⟩
  case area =>
    intro s k j ts mapOk ha hk ht hn
    have hexec := exec_areaErase ha hk .clean mapOk
    rw [show s.areaEraseEnds k .clean = State.areaEraseEnds.erased s k from rfl, State.areaErased_eq,
      State.runTasks_erase (by exact ht) (by exact hn)] at hexec
    exact ⟨_, hexec, rfl, rfl, rfl, rfl, rfl, rfl, rfl, rfl, rfl, rfl⟩
  case areaFails =>
    intro s k q mapOk ha hk hq hout
    have hexec := exec_areaErase ha hk .verifyFail mapOk
    refine ⟨fun ho => ?_, fun ho hn j ts ht => ?_⟩
    · have hfail := State.sealFails_eq (s := { s with nv := s.nv.failedErase k s.draws, draws := s.draws + 1 }) hq
      rw [State.areaEraseEnds] at hexec
      rw [if_pos ho, hfail] at hexec
      exact ⟨_, hexec, rfl, rfl, rfl, rfl, rfl, rfl, s.store.sealFailed_roles, PortState.answer_outbound _ _ hout, rfl⟩
    · rw [State.areaEraseEnds] at hexec
      rw [if_neg (by rw [ho]; exact nofun), State.runTasks_erase (by exact ht) (by exact hn)] at hexec
      exact ⟨_, hexec, rfl, rfl, rfl, rfl, rfl, rfl⟩
  case ring =>
    intro s k j ts mapOk x ha hk hj ho ht hn hx
    have hne : s.store.operation ≠ .erasing := by rcases ho with ho | ho <;> rw [ho] <;> exact nofun
    have hbeside (r : EraseResult) := State.ringErased_beside (s := s) (k := k) mapOk r
    refine ⟨fun n hcount => ?_, ?_⟩
    · have hE := State.ringErased_clean mapOk hcount
      obtain ⟨hcat, hstack, hcommit, hctl, hA, hB⟩ := hbeside .clean
      have hexec := exec_ringErase_task ha hk hne .clean mapOk
      rw [State.runTasks_erase (by rw [hE]; exact ht) (by rw [hctl]; exact hn)] at hexec
      refine ⟨_, x.erasedTo (n + 1), hexec, ?_, rfl, rfl, rfl, rfl, State.ringErased_clean_ring mapOk hcount,
        State.ringErased_area mapOk .clean hk, rfl, rfl, ?_, ?_, hcat, hstack, hcommit, hA, hB⟩
      · rw [State.modStore_store, hE]
        exact (Store.rec?_modRec_other (f := fun y => { y with role := .erasing })
          (st := s.store.modRec k (SectorRec.erasedTo (n + 1))) hj (fun _ => rfl)).trans (Store.rec?_modRec_same hx (fun _ => rfl))
      · rw [State.modStore_store, hE]
        rfl
      · rw [State.modStore_store, hE]
        rfl
    · have hE := State.ringErased_verifyFail (s := s) (k := k) mapOk
      obtain ⟨hcat, hstack, hcommit, hctl, hA, hB⟩ := hbeside .verifyFail
      have hexec := exec_ringErase_task ha hk hne .verifyFail mapOk
      rw [State.runTasks_erase (by rw [hE]; exact ht) (by rw [hctl]; exact hn)] at hexec
      refine ⟨_, { x with role := .retired }, hexec, ?_, rfl, State.ringErased_verifyFail_map mapOk,
        State.ringErased_verifyFail_others mapOk hk, State.ringErased_area mapOk .verifyFail hk, rfl, rfl, ?_, ?_, hcat, hstack,
        hcommit, hA, hB⟩
      · rw [State.modStore_store, hE]
        exact (Store.rec?_modRec_other (f := fun y => { y with role := .erasing })
          (st := s.store.modRec k (fun x => { x with role := .retired })) hj (fun _ => rfl)).trans
          (Store.rec?_modRec_same hx (fun _ => rfl))
      · rw [State.modStore_store, hE]
        rfl
      · rw [State.modStore_store, hE]
        rfl
  case last =>
    intro s k ok mapOk n ha hk hn hcount hlow role free image
    obtain ⟨E, hEdef⟩ : ∃ E, E = s.ringErased k (if ok then .clean else .verifyFail) mapOk := ⟨_, rfl⟩
    obtain ⟨hcat, hstack, hcommit, hctl, hA, hB⟩ := State.ringErased_beside (s := s) (k := k) mapOk (if ok then .clean else .verifyFail)
    rw [← hEdef] at hcat hstack hcommit hctl hA hB
    -- the sector that was erased is FREE or RETIRED, and no other record has changed
    obtain ⟨f, hf, hrole, hE⟩ : ∃ f : SectorRec → SectorRec, (∀ x, (f x).sector = x.sector) ∧
        (∀ x, (f x).role = if ok then .free else .retired) ∧ E.store = { s.store.modRec k f with arrayOp := .none } := by
      cases ok with
      | true =>
        refine ⟨SectorRec.erasedTo (n + 1), fun _ => rfl, fun x => ?_, hEdef ▸ State.ringErased_clean mapOk hcount⟩
        rw [SectorRec.erasedTo, if_neg (by omega)]
        rfl
      | false => exact ⟨fun x => { x with role := .retired }, fun _ => rfl, fun _ => rfl, hEdef ▸ State.ringErased_verifyFail mapOk⟩
    have hrec (y : SectorRec) : (if y.sector = k then f y else y).sector = y.sector ∧
        (if y.sector = k then f y else y).role = role y := by
      by_cases hy : y.sector = k
      · rw [if_pos hy]
        exact ⟨hf y, (hrole y).trans (if_pos hy).symm⟩
      · rw [if_neg hy]
        exact ⟨rfl, (if_neg hy).symm⟩
    have hexec (ho : s.store.operation ≠ .erasing) : exec (.sectorEraseDone (if ok then .clean else .verifyFail) mapOk) s =
        .next E.runTasks := by
      rw [exec_ringErase_task ha hk ho, hEdef]
    have hnE : E.ctl.supply = .normal := by rw [hctl, hn]
    refine ⟨fun ho ht => ?_, fun ho ht => ?_⟩
    · have hexec := hexec (by rw [ho]; exact nofun)
      rw [State.runTasks_programArea (ts := []) (by rw [hE]; exact ht) hnE] at hexec
      obtain ⟨v, hv⟩ : ∃ v, v = E.modStore Store.ringErased := ⟨_, rfl⟩
      rw [← hv] at hexec
      have htable : v.store.table = s.store.table.map
          (fun y => { (if y.sector = k then f y else y) with generation := none }) := by
        rw [hv, State.modStore_store, hE]
        exact List.map_map
      have hfree : v.store.count .free = free := by
        rw [Store.count_eq, htable, List.filter_map, List.length_map]
        refine congrArg List.length (List.filter_congr fun y _ => ?_)
        exact decide_eq_decide.mpr (by rw [← (hrec y).2])
      have hcatv : v.catalog = s.catalog := by rw [hv]; exact hcat
      have hfits : v.initialFits = true ↔ image.length ≤ 255 * free := by
        rw [State.initialFits_iff, ← Store.count_eq, hfree, initialImage_eq, hcatv]
      refine ⟨fun hfit => ?_, fun hlack q hq hout => ?_⟩
      · rw [if_pos (hfits.mpr hfit)] at hexec
        obtain ⟨hreach, hone, hbound⟩ := v.generationBase_spec
        have hretired (z : RingSector) : z.sector ∈ v.store.retiredNumbers ↔
            ∃ y ∈ s.store.table, y.sector = z.sector ∧ role y = .retired := by
          rw [Store.mem_retiredNumbers_iff, htable]
          constructor
          · rintro ⟨_, hx, hxs, hxr⟩
            obtain ⟨y, hy, rfl⟩ := List.mem_map.mp hx
            exact ⟨y, hy, (hrec y).1.symm.trans hxs, (hrec y).2.symm.trans hxr⟩
          · rintro ⟨y, hy, hys, hyr⟩
            exact ⟨_, List.mem_map.mpr ⟨y, hy, rfl⟩, (hrec y).1.trans hys, (hrec y).2.trans hyr⟩
        refine ⟨_, v.generationBase, hexec, ?_, rfl, ?_, ⟨?_, hone, fun z hz hr => hbound z hz ((hretired z).mpr hr)⟩, ?_, ?_, ?_,
          ?_, ?_, ?_⟩
        · rw [State.modStore_store, hv, State.modStore_store, hE]
          exact ho
        · rw [State.modStore_store, htable, List.map_map]
          exact List.map_congr_left fun y _ => Prod.ext (hrec y).1 (Prod.ext (hrec y).2 rfl)
        · exact hreach.imp id fun ⟨z, hz, hr, hd⟩ => ⟨z, hz, (hretired z).mp hr, hd⟩
        · rw [State.modStore_store, State.areaTasks, hcatv, areaContent, List.flatMap_map, List.length_map]
          rfl
        · exact hcatv
        · rw [State.modStore_stack, hv]
          exact hstack
        · rw [State.modStore_commit, hv]
          exact hcommit
        · rw [State.modStore_portA, hv]
          exact hA
        · rw [State.modStore_portB, hv]
          exact hB
      · rw [if_neg (fun h => absurd (hfits.mp h) (not_le.mpr hlack)),
          State.sealFails_eq (q := q) (by rw [hcatv, hq])] at hexec
        have hAv : v.portA = s.portA := by rw [hv]; exact hA
        have hBv : v.portB = s.portB := by rw [hv]; exact hB
        refine ⟨_, hexec, by rw [hcatv], rfl, rfl, rfl, rfl, ?_, hBv⟩
        dsimp only
        rw [hAv]
        exact PortState.answer_outbound _ _ hout
    · have hexec := hexec (by rw [ho]; exact nofun)
      rw [State.runTasks_retireMap (ts := []) (by rw [hE]; exact ht) hnE] at hexec
      refine ⟨_, hexec, by rw [State.modStore_store, hE]; exact ho, rfl, rfl, ?_, hcat, hA, hB⟩
      rw [State.modStore_store, hE]
      dsimp only [Store.modRec]
      rw [List.map_map]
      exact List.map_congr_left fun y _ => Prod.ext (hrec y).1 (hrec y).2

end Sys2Proof.Machine
end

section
/-! SUPPORT. A program failure in the ring: the sector retired, the group abandoned, and the branches of what follows (R91, R93, R96 to
R99). -/

namespace Sys2Proof.Machine

set_option Elab.async false

open Sys2Proof

/-! ### The group abandoned (R96) -/

/-- What a failed program makes of its sector's record: RETIRED, with its generation. -/
structure RetiresRec (f : SectorRec → SectorRec) : Prop where
  sector : ∀ x, (f x).sector = x.sector
  generation : ∀ x, (f x).generation = x.generation
  role : ∀ x, (f x).role = .retired

/-- A state in which the program of a group in sector `k` has just failed: the sector retired, the group abandoned, and everything but
the array and the store as before (R96). -/
structure State.Abandoned (s w : State) (k : Nat) (mapOk : Bool) : Prop where
  catalog : w.catalog = s.catalog
  stack : w.stack = s.stack
  commit : w.commit = s.commit
  ctl : w.ctl = s.ctl
  portA : w.portA = s.portA
  portB : w.portB = s.portB
  store : ∃ f, RetiresRec f ∧
    w.store = { (s.store.modRec k f).closeOff with restartNote := true, writing := none, arrayOp := .none }
  map : mapOk = true → k ∈ w.nv.retireMap

theorem State.retire_map (s : State) (k : Nat) {mapOk : Bool} (h : mapOk = true) : k ∈ (s.retire k mapOk).nv.retireMap := by
  rw [State.retire, h]
  rw [if_pos rfl, NonVol.mapRetired]
  dsimp only
  split
  · assumption
  · simp

/-- Beside the store and the array a retirement changes nothing. -/
theorem State.groupAbandoned_same (s : State) (k : Nat) (mapOk : Bool) : (s.groupAbandoned k mapOk).catalog = s.catalog ∧
    (s.groupAbandoned k mapOk).stack = s.stack ∧ (s.groupAbandoned k mapOk).commit = s.commit ∧
    (s.groupAbandoned k mapOk).ctl = s.ctl ∧ (s.groupAbandoned k mapOk).portA = s.portA ∧
    (s.groupAbandoned k mapOk).portB = s.portB := by
  unfold State.groupAbandoned State.retire
  cases mapOk <;> exact ⟨rfl, rfl, rfl, rfl, rfl, rfl⟩

theorem State.groupAbandoned_store (s : State) (k : Nat) (mapOk : Bool) : (s.groupAbandoned k mapOk).store =
    { (s.store.modRec k (fun x => { x with role := .retired })).closeOff with
      restartNote := true, writing := none, arrayOp := .none } := by
  rw [State.groupAbandoned, State.modStore_store, State.retire_store]

/-- A failed slot or header abandons its group and leaves the rest to what follows. -/
theorem exec_programFails {s : State} {k : Nat} {g : GroupWrite} (ha : (∃ m, s.store.arrayOp = .slot k m) ∨
    (∃ n f, s.store.arrayOp = .header k n f)) (hg : s.store.writing = some g) (mapOk : Bool) :
    ∃ u : State, exec (.slotProgramDone false mapOk) s = .next (u.groupFailed g k mapOk) ∧
      u.store.operation = s.store.operation ∧ u.store.pend = s.store.pend ∧
      s.Abandoned (u.groupAbandoned k mapOk) k mapOk := by
  rcases ha with ⟨m, ha⟩ | ⟨n, f, ha⟩
  · refine ⟨{ s with nv := s.nv.appendSlot k .damaged, store := s.store.useSlot k }, ?_, rfl, rfl, ?_⟩
    · change execSlotProgramDone false mapOk s = _
      rw [execSlotProgramDone, State.programEnds, ha]
      dsimp only
      rw [hg]
      rfl
    · obtain ⟨hcat, hstack, hcommit, hctl, hA, hB⟩ :=
        State.groupAbandoned_same { s with nv := s.nv.appendSlot k .damaged, store := s.store.useSlot k } k mapOk
      refine ⟨hcat, hstack, hcommit, hctl, hA, hB, ⟨fun x => { x with role := .retired, used := x.used + 1 }, ⟨?_, ?_, ?_⟩, ?_⟩,
        fun h => State.retire_map _ k h⟩
      · exact fun _ => rfl
      · exact fun _ => rfl
      · exact fun _ => rfl
      · rw [State.groupAbandoned_store, Store.useSlot, Store.modRec_modRec]
        exact fun _ => rfl
  · refine ⟨{ s with nv := s.nv.programHeader k .torn f }, ?_, rfl, rfl, ?_⟩
    · change execSlotProgramDone false mapOk s = _
      rw [execSlotProgramDone, State.programEnds, ha]
      dsimp only
      rw [hg]
      rfl
    · obtain ⟨hcat, hstack, hcommit, hctl, hA, hB⟩ :=
        State.groupAbandoned_same { s with nv := s.nv.programHeader k .torn f } k mapOk
      exact ⟨hcat, hstack, hcommit, hctl, hA, hB, ⟨fun x => { x with role := .retired }, ⟨fun _ => rfl, fun _ => rfl, fun _ => rfl⟩,
        State.groupAbandoned_store _ k mapOk⟩, fun h => State.retire_map _ k h⟩

/-! ### The table of an abandoned group -/

namespace State.Abandoned

variable {s w : State} {k : Nat} {mapOk : Bool} (h : s.Abandoned w k mapOk)
include h

theorem port (p : Port) : w.port p = s.port p := by
  cases p
  · exact h.portA
  · exact h.portB

theorem linksKept : s.LinksKept w :=
  ⟨h.commit, State.leasePeriod_of_setup (by rw [h.catalog]), fun p => by rw [h.port], fun p => by rw [h.port], fun p => by rw [h.port]⟩

theorem untold : s.Untold w := fun p => by rw [h.port]; exact ⟨rfl, rfl⟩

/-- Everything in the store but the table, the restart note, the group and the array's operation. -/
theorem storeSame : w.store.operation = s.store.operation ∧ w.store.pend = s.store.pend ∧ w.store.compaction = s.store.compaction ∧
    w.store.mode = s.store.mode ∧ w.store.durable = s.store.durable ∧ w.store.reserve = s.store.reserve ∧
    w.store.openedLast = s.store.openedLast ∧ w.store.imageOwed = s.store.imageOwed ∧ w.store.restartNote = true ∧
    w.store.writing = none := by
  obtain ⟨f, -, hst⟩ := h.store
  rw [hst]
  exact ⟨rfl, rfl, rfl, rfl, rfl, rfl, rfl, rfl, rfl, rfl⟩

/-- Each record of the sector is RETIRED; a FILLING one of another sector is FULL; the generations stand. -/
theorem table : ∃ r : SectorRec → SectorRec, w.store.table = s.store.table.map r ∧ ∀ x, (r x).sector = x.sector ∧
    (r x).generation = x.generation ∧
    (r x).role = if x.sector = k then .retired else if x.role = .filling then .full else x.role := by
  obtain ⟨f, hf, hst⟩ := h.store
  refine ⟨fun x => if (if x.sector = k then f x else x).role = .filling then { (if x.sector = k then f x else x) with role := .full }
    else (if x.sector = k then f x else x), ?_, fun x => ?_⟩
  · rw [hst]
    exact List.map_map
  · by_cases hx : x.sector = k
    · have hrole : ¬(f x).role = .filling := by rw [hf.role x]; exact nofun
      simp only [if_pos hx, if_neg hrole]
      exact ⟨hf.sector x, hf.generation x, hf.role x⟩
    · simp only [hx, if_false]
      split <;> exact ⟨rfl, rfl, rfl⟩

theorem retires : w.store.Retires k := by
  obtain ⟨r, ht, hr⟩ := h.table
  rw [Store.Retires, ht]
  intro x hx hk
  obtain ⟨y, -, rfl⟩ := List.mem_map.mp hx
  obtain ⟨hsec, -, hrole⟩ := hr y
  rw [hrole, if_pos (hsec.symm.trans hk)]

theorem filling : w.store.filling = none := by
  obtain ⟨r, ht, hr⟩ := h.table
  rw [Store.filling_eq_none_iff, ht]
  intro x hx
  obtain ⟨y, -, rfl⟩ := List.mem_map.mp hx
  obtain ⟨-, -, hrole⟩ := hr y
  rw [hrole]
  split
  · exact nofun
  · split
    · exact nofun
    · assumption

theorem counts : w.store.usable = (s.store.table.filter (fun x => decide (x.role ≠ .retired ∧ x.sector ≠ k))).length ∧
    w.store.count .retired = (s.store.table.filter (fun x => decide (x.role = .retired ∨ x.sector = k))).length ∧
    w.store.count .free = (s.store.table.filter (fun x => decide (x.role = .free ∧ x.sector ≠ k))).length := by
  obtain ⟨r, ht, hr⟩ := h.table
  rw [Store.usable_eq, Store.count_eq, Store.count_eq, ht, List.filter_map, List.length_map, List.filter_map, List.length_map,
    List.filter_map, List.length_map]
  refine ⟨?_, ?_, ?_⟩
  all_goals
    congr 1
    refine List.filter_congr fun x _ => ?_
    obtain ⟨-, -, hrole⟩ := hr x
    dsimp only [Function.comp]
    rw [hrole]
    by_cases hx : x.sector = k
    · simp [hx]
    · by_cases hfill : x.role = .filling <;> simp [hx, hfill]

theorem freeSpace : w.store.freeSpace = 255 * (s.store.table.filter (fun x => decide (x.role = .free ∧ x.sector ≠ k))).length := by
  rw [Store.freeSpace_noFilling h.filling, h.counts.2.2]

theorem noStale_iff : w.store.noStale = true ↔ ∀ x ∈ s.store.table, x.sector ≠ k → x.role ≠ .stale ∧ x.role ≠ .erasing := by
  obtain ⟨r, ht, hr⟩ := h.table
  rw [Store.noStale_iff, ht, List.forall_mem_map]
  refine forall₂_congr fun x _ => ?_
  obtain ⟨-, -, hrole⟩ := hr x
  rw [hrole]
  by_cases hx : x.sector = k
  · simp [hx]
  · by_cases hfill : x.role = .filling <;> simp [hx, hfill]

theorem stale (hs : ∃ x ∈ s.store.table, x.sector ≠ k ∧ x.role = .stale) : ∃ j, w.store.nextStale = some j := by
  obtain ⟨r, ht, hr⟩ := h.table
  obtain ⟨x, hx, hxk, hxs⟩ := hs
  rw [← Option.isSome_iff_exists, ← Option.ne_none_iff_isSome, Ne, Store.nextStale_eq_none_iff, ht]
  intro hall
  obtain ⟨-, -, hrole⟩ := hr x
  refine hall _ (List.mem_map.mpr ⟨x, hx, rfl⟩) ?_
  rw [hrole, if_neg hxk, if_neg (by rw [hxs]; exact nofun), hxs]

/-- The sector opened next is the next FREE one, but not the one that failed (R83). -/
theorem nextFree : w.store.nextFree = (ringOrderAfter s.store.openedLast).find? (fun i =>
    decide (i ≠ k) && (s.store.rec? i).any (fun x => decide (x.role = .free))) := by
  obtain ⟨r, ht, hr⟩ := h.table
  obtain ⟨-, -, -, -, -, -, hlast, -⟩ := h.storeSame
  rw [Store.nextFree_eq, hlast]
  congr 1
  funext i
  rw [Store.rec?, ht, find_sector_map (fun x => (hr x).1), Store.rec?]
  cases hi : s.store.table.find? (fun x => x.sector == i) with
  | none => simp
  | some x =>
    have hxi : x.sector = i := by simpa using List.find?_some hi
    obtain ⟨-, -, hrole⟩ := hr x
    rw [Option.map_some, Option.any_some, Option.any_some, hrole, hxi]
    by_cases hik : i = k
    · simp [hik]
    · by_cases hfill : x.role = .filling <;> simp [hik, hfill]

/-- The generations of the table stand, so the next one is above each of them. -/
theorem lt_nextGeneration {v : State} (hv : v.store.table = w.store.table) :
    ∀ x ∈ s.store.table, ∀ n, x.generation = some n → n < v.nextGeneration := by
  obtain ⟨r, ht, hr⟩ := h.table
  intro x hx n hn
  refine State.lt_nextGeneration (x := r x) ?_ ((hr x).2.1.trans hn)
  rw [hv, ht]
  exact List.mem_map.mpr ⟨x, hx, rfl⟩

end State.Abandoned

/-! ### A group begun in a newly opened sector (R83, R96) -/

section
variable {s : State} {j : Nat}

theorem State.programNext_opened {g : GroupWrite} {c : Slot} {more : List Slot} (hg : s.store.writing = some g)
    (hm : g.remaining = c :: more) (hfill : s.store.filling = none) (hj : s.store.nextFree = some j) :
    s.programNext.store.arrayOp = .header j s.nextGeneration s.store.restartNote ∧
    ∀ x ∈ s.programNext.store.table, x.role = .filling → x.sector = j := by
  rw [State.programNext_opens hg hm hfill hj]
  refine ⟨rfl, fun x hx hrole => ?_⟩
  obtain ⟨y, hy, rfl⟩ := List.mem_map.mp hx
  by_cases hyj : y.sector = j
  · rw [if_pos hyj]
    exact hyj
  · rw [if_neg hyj] at hrole
    exact absurd hrole ((s.store.filling_eq_none_iff.mp hfill) y hy)

/-- The generation of the sector opened next is a matter of the table and the base. -/
theorem State.nextGeneration_congr {u v : State} (ht : v.store.table = u.store.table) (hb : v.nv.base = u.nv.base) :
    v.nextGeneration = u.nextGeneration := by
  rw [State.nextGeneration, Store.highestGeneration, ht, hb]
  rfl

theorem Store.closeOff_noFilling {st : Store} (h : st.filling = none) : st.closeOff = st := by
  have hmap : st.table.map (fun x => if x.role = .filling then { x with role := .full } else x) = st.table :=
    (List.map_congr_left (fun x hx => if_neg ((st.filling_eq_none_iff.mp h) x hx))).trans (List.map_id _)
  rw [Store.closeOff, hmap]

end

end Sys2Proof.Machine
end

section
/-! SUPPORT. What follows a failed program: the READ_ONLY test, the group or image begun again, and what the store then chooses
(R88, R96 to R99). -/

namespace Sys2Proof.Machine

set_option Elab.async false

open Sys2Proof

/-- READ_ONLY leaves no commit in flight where an append was pending (R99). -/
theorem State.enterReadOnly_commit {s : State} (ho : s.store.operation ≠ .appending) {a : PendingAppend} (hp : s.store.pend = some a) :
    s.enterReadOnly.commit = none := by
  cases hc : s.commit with
  | some c => exact (State.enterReadOnly_failed ho hp hc).commit
  | none =>
    obtain ⟨u, hu⟩ : ∃ u, u = (s.modStore (fun st => ({ st with mode := .readOnly } : Store).dropRequest)).noticeBoth
      (.storeReadOnly (s.store.count .retired)) := ⟨_, rfl⟩
    have hup : u.store.pend = some a := by rw [hu]; exact hp
    have huc : u.commit = none := by rw [hu]; exact hc
    rw [State.enterReadOnly_eq ho, ← hu, State.cancelAppend, hup]
    dsimp only
    rw [State.commitFails_none]
    · exact huc
    · exact huc

/-! ### Nothing FILLING: an image and a rewrite begin in a newly opened sector -/

section
variable {s : State} (hfill : s.store.filling = none)
include hfill

theorem Store.imagePlace_noFilling (b : Attempt) : s.store.imagePlace b = s.store := by
  rw [Store.imagePlace_eq, if_neg (fun h => h.2.1 hfill)]
  exact Store.closeOff_noFilling hfill

theorem State.imageFits_noFilling (b : Attempt) : s.imageFits b = true ↔
    (imageGroup s.catalog.entries s.store.durable).length ≤ 255 * s.store.count .free := by
  rw [State.imageFits_iff, Store.imagePlace_noFilling hfill, Store.freeSpace_noFilling hfill]

theorem State.not_imageFits_noFilling (b : Attempt) : s.imageFits b = false ↔
    255 * s.store.count .free < (imageGroup s.catalog.entries s.store.durable).length := by
  rw [← Bool.not_eq_true, State.imageFits_noFilling hfill, not_le]

theorem Store.appendFits_noFilling (a : PendingAppend) :
    s.store.appendFits a = true ↔ a.slots.length ≤ 255 * s.store.count .free := by
  rw [Store.appendFits_iff]
  cases a.attempt with
  | first => rw [show s.store.beginPosition .first = s.store from rfl, Store.freeSpace_noFilling hfill]
  | second => rw [show s.store.beginPosition .second = s.store.closeOff from rfl, Store.closeOff_freeSpace]

theorem Store.lacksRoom_noFilling {a : PendingAppend} (h : 255 * s.store.count .free < a.slots.length) :
    s.store.appendMayStart a = false := by
  have hfit : s.store.appendFits a = false := by
    rw [← Bool.not_eq_true, Store.appendFits_noFilling hfill]
    omega
  rw [Store.appendMayStart, hfit, Bool.and_false]

/-- The header with which a group then begins, whatever else the state that begins it differs in (R83). -/
theorem State.programNext_openedAs {v : State} {g : GroupWrite} {c : Slot} {more : List Slot} (hg : v.store.writing = some g)
    (hm : g.remaining = c :: more) (hbase : v.nv.base = s.nv.base) (ht : v.store.table = s.store.table)
    (hlast : v.store.openedLast = s.store.openedLast) (hnote : v.store.restartNote = s.store.restartNote) {j : Nat}
    (hj : s.store.nextFree = some j) : v.programNext.store.arrayOp = .header j s.nextGeneration s.store.restartNote ∧
    ∀ x ∈ v.programNext.store.table, x.role = .filling → x.sector = j := by
  have hvfill : v.store.filling = none := by rw [Store.filling, ht]; exact hfill
  have hvj : v.store.nextFree = some j := by
    rw [← hj, Store.nextFree, Store.nextFree, hlast]
    congr 1
    funext i
    rw [Store.rec?_of_table ht]
  have hopen := State.programNext_opened hg hm hvfill hvj
  rwa [State.nextGeneration_congr ht hbase, hnote] at hopen

theorem State.startCompaction_opened (b : Attempt) {j : Nat} (hj : s.store.nextFree = some j) :
    (s.startCompaction b).store.arrayOp = .header j s.nextGeneration s.store.restartNote ∧
    ∀ x ∈ (s.startCompaction b).store.table, x.role = .filling → x.sector = j := by
  obtain ⟨more, hmore⟩ := groupSlots_eq_cons .image s.store.durable (imageChanges s.catalog.entries)
  have hplace := Store.imagePlace_noFilling hfill b
  rw [State.startCompaction_eq]
  refine State.programNext_openedAs hfill (v := s.modStore _) (g := .fresh .image b (imageGroup s.catalog.entries s.store.durable)) rfl
    (by exact hmore) rfl ?_ ?_ ?_ hj
  all_goals
    rw [State.modStore_store, hplace]

theorem State.startAppend_opened {a : PendingAppend} {j : Nat} (hj : s.store.nextFree = some j) :
    (s.startAppend a).store.arrayOp = .header j s.nextGeneration s.store.restartNote ∧
    ∀ x ∈ (s.startAppend a).store.table, x.role = .filling → x.sector = j := by
  obtain ⟨more, hmore⟩ := groupSlots_eq_cons .commit a.number a.entries
  have hplace : s.store.beginPosition a.attempt = s.store := by
    cases a.attempt with
    | first => rfl
    | second => exact Store.closeOff_noFilling hfill
  rw [State.startAppend]
  refine State.programNext_openedAs hfill (v := s.modStore _) (g := .fresh .commit a.attempt a.slots) rfl (by exact hmore) rfl ?_ ?_ ?_ hj
  all_goals
    rw [State.modStore_store, hplace]

/-! ### What the store chooses where a compaction is REQUESTED (R88, R92, R93, R99) -/

variable {b : Attempt} (ho : s.store.operation = .idle) (hs : s.catalog.state = .sealed) (hr : s.ctl.start = .ready)
  (hn : s.ctl.supply = .normal) (hm : s.store.mode = .writable) (hc : s.store.compaction = .requested b)
include ho hs hr hc

omit hfill in
theorem State.choose_requested : s.choose = s.chooseWork := by
  rw [State.choose_idle ho hs hr, State.roomAsked_self fun _ _ => .inr (by rw [hc]; exact nofun), State.chooseStart_requested hc]

/-- An image that fits begins. -/
theorem State.choose_image (hn : s.ctl.supply = .normal) (hm : s.store.mode = .writable)
    (hfit : (imageGroup s.catalog.entries s.store.durable).length ≤ 255 * s.store.count .free) : s.choose = s.startCompaction b := by
  rw [State.choose_requested ho hs hr hc]
  exact State.chooseWork_compacts hc hm hn ((State.imageFits_noFilling hfill b).mpr hfit)

/-- For one that does not, a STALE sector is erased first. -/
theorem State.choose_erase (hn : s.ctl.supply = .normal)
    (hlack : 255 * s.store.count .free < (imageGroup s.catalog.entries s.store.durable).length) {j : Nat}
    (hj : s.store.nextStale = some j) : s.choose = s.startErase j := by
  rw [State.choose_requested ho hs hr hc, State.chooseWork_lacksRoom hc ((State.not_imageFits_noFilling hfill b).mpr hlack)]
  exact State.chooseErase_stale hn hj

/-- With nothing to erase the store enters READ_ONLY, and a pending append ends. -/
theorem State.choose_full (hlack : 255 * s.store.count .free < (imageGroup s.catalog.entries s.store.durable).length)
    (hclean : s.store.noStale = true) : s.choose.store.mode = .readOnly ∧ s.choose.store.compaction = .none ∧
    s.choose.store.pend = none ∧ s.choose.store.writing = s.store.writing ∧
    s.Told s.choose (.storeReadOnly (s.store.count .retired)) ∧
    (∀ a, s.store.pend = some a → s.choose.commit = none) ∧
    (∀ a c, s.store.pend = some a → s.commit = some c → s.CommitFailed s.choose c .storeReadOnly) := by
  have hlacks := (State.not_imageFits_noFilling hfill b).mpr hlack
  obtain ⟨u, hu⟩ : ∃ u, u = s.modStore (fun st => { st with compaction := .none }) := ⟨_, rfl⟩
  have hd : s.StoreDiffers u := by rw [hu]; exact s.modStore_storeDiffers _ rfl rfl
  have hou : u.store.operation ≠ .appending := by rw [hu, State.modStore_store, ho]; exact nofun
  have hchoose : s.choose = u.enterReadOnly := by
    rw [State.choose_requested ho hs hr hc, State.chooseWork_lacksRoom hc hlacks, State.chooseErase_clean hclean,
      State.reclaim_full hc hlacks hclean, hu]
  have hcount : u.store.count .retired = s.store.count .retired := by rw [hu]; rfl
  have htold := State.enterReadOnly_told hou
  rw [hcount] at htold
  rw [hchoose]
  refine ⟨?_, ?_, ?_, ?_, htold.after hd.untold, fun a ha => State.enterReadOnly_commit hou (a := a) (by rw [hu]; exact ha),
    fun a c ha hcom =>
    (State.enterReadOnly_failed hou (a := a) (by rw [hu]; exact ha) (hd.commit.trans hcom)).after hd.linksKept⟩
  all_goals
    rw [State.enterReadOnly_store hou, hu] <;> rfl

end

/-! ### What the store chooses where nothing is asked of it -/

section
variable {s : State}

theorem State.Chosen.linksKept {t : State} (h : s.Chosen t) : s.LinksKept t := by
  rcases h with h | ⟨u, hd, -, -, rfl⟩
  · exact h.toStoreDiffers.linksKept
  · exact hd.linksKept.trans (State.noticeBoth_linksKept _ _)

theorem State.choose_erasesOrRests (hp : s.store.pend = none) (hc : s.store.compaction = .none) :
    s.choose = s ∨ ∃ j, s.choose = s.startErase j := by
  rw [State.choose_nothingAsked hp hc]
  split
  · unfold State.chooseErase
    rw [State.reclaim_none hc]
    split
    · split
      · exact .inr ⟨_, rfl⟩
      · exact .inl rfl
    · exact .inl rfl
  · exact .inl rfl

/-- Without a pending append, and with no compaction REQUESTED, the store tells the ports nothing. -/
theorem State.operationEnded_quiet (hp : s.store.pend = none) (hc : ∀ b, s.store.compaction ≠ .requested b) :
    s.WorkStarts s.operationEnded := by
  unfold State.operationEnded
  split
  · exact s.startWipeErase_workStarts
  · rw [State.choose_eq]
    split
    · rw [State.roomAsked_none hp]
      exact State.chooseStart_workStarts fun b hb => absurd hb (hc b)
    · exact .refl s

/-- The READ_ONLY test without a pending append touches no answer. -/
theorem State.readOnlyTest_linksKept (hp : s.store.pend = none) : s.LinksKept s.readOnlyTest ∧ s.readOnlyTest.store.pend = none := by
  obtain ⟨hro, hrw⟩ := State.readOnlyTest_none hp
  by_cases h : s.store.mode = .writable ∧ s.store.usable < s.store.readOnlyLimit
  · rw [hro h.1 h.2]
    exact ⟨(s.modStore_storeDiffers _ rfl rfl).linksKept.trans (State.noticeBoth_linksKept _ _), hp⟩
  · rw [hrw h]
    exact ⟨⟨rfl, rfl, fun _ => rfl, fun _ => rfl, fun _ => rfl⟩, hp⟩

theorem State.readOnlyTest_enough (h : s.store.readOnlyLimit ≤ s.store.usable) : s.readOnlyTest = s :=
  if_neg (fun hro => absurd hro.2 (not_lt.mpr h))

theorem State.readOnlyTest_enters (hm : s.store.mode = .writable) (h : s.store.usable < s.store.readOnlyLimit) :
    s.readOnlyTest = s.enterReadOnly := if_pos ⟨hm, h⟩

end

/-! ### What every failure leaves alone -/

section
variable {s : State} {k : Nat} (hk : 4 ≤ k)

/-- Beside the store, the Commit Unit and the ports nothing changes, and sector `k` stays RETIRED. -/
def State.FailureKeeps (s t : State) (k : Nat) : Prop := s.WorkDiffers t ∧ (s.store.Retires k → t.store.Retires k)

theorem State.FailureKeeps.refl (s : State) (k : Nat) : s.FailureKeeps s k := ⟨.refl s, id⟩

theorem State.FailureKeeps.trans {s t u : State} {k : Nat} (h : s.FailureKeeps t k) (h' : t.FailureKeeps u k) : s.FailureKeeps u k :=
  ⟨h.1.trans h'.1, fun hs => h'.2 (h.2 hs)⟩

theorem State.modStore_failureKeeps (f : Store → Store) (hd : (f s.store).durable = s.store.durable)
    (hr : (f s.store).reserve = s.store.reserve) (ht : (f s.store).table = s.store.table) : s.FailureKeeps (s.modStore f) k :=
  ⟨(s.modStore_storeDiffers f hd hr).work, fun h => h.of_table ht⟩

theorem State.readOnlyTest_failureKeeps (s : State) (k : Nat) : s.FailureKeeps s.readOnlyTest k :=
  ⟨s.readOnlyTest_workDiffers, State.readOnlyTest_retires⟩

theorem State.cancelAppend_failureKeeps (s : State) (k : Nat) (code : RefuseCode) : s.FailureKeeps (s.cancelAppend code) k :=
  ⟨s.cancelAppend_workDiffers code, fun h => State.cancelAppend_retires h code⟩

theorem State.commitFails_failureKeeps (s : State) (k : Nat) (code : RefuseCode) : s.FailureKeeps (s.commitFails code) k :=
  ⟨s.commitFails_workDiffers code, fun h => h.of_table (by rw [State.commitFails_store])⟩

theorem State.requestRoom_failureKeeps (s : State) (k : Nat) : s.FailureKeeps s.requestRoom k :=
  ⟨s.requestRoom_storeDiffers.work, State.requestRoom_retires⟩

include hk

theorem State.operationEnded_failureKeeps (s : State) : s.FailureKeeps s.operationEnded k :=
  ⟨s.operationEnded_workDiffers, fun h => State.operationEnded_retires h hk⟩

theorem State.rewriteOrEnd_failureKeeps (s : State) : s.FailureKeeps s.rewriteOrEnd k := by
  unfold State.rewriteOrEnd
  split
  · exact State.operationEnded_failureKeeps hk s
  · rename_i a _
    split
    · exact (s.cancelAppend_failureKeeps k _).trans (State.operationEnded_failureKeeps hk _)
    · split
      · exact (s.cancelAppend_failureKeeps k _).trans (State.operationEnded_failureKeeps hk _)
      · split
        · exact ⟨(s.startAppend_workStarts a).toStoreDiffers.work, fun h => State.startAppend_retires h a⟩
        · exact (s.requestRoom_failureKeeps k).trans (State.operationEnded_failureKeeps hk _)

theorem State.appendFailed_failureKeeps (s : State) (a : PendingAppend) : s.FailureKeeps (s.appendFailed a) k := by
  cases ha : a.attempt with
  | first =>
    rw [State.appendFailed_first s ha]
    refine .trans (State.modStore_failureKeeps _ ?_ ?_ ?_) (.trans (State.readOnlyTest_failureKeeps _ k)
      (State.rewriteOrEnd_failureKeeps hk _)) <;> rfl
  | second =>
    rw [State.appendFailed_second s ha]
    refine .trans (State.modStore_failureKeeps (fun st => { st with operation := .idle, pend := none }) rfl rfl rfl)
      (.trans (State.readOnlyTest_failureKeeps _ k) ?_)
    refine .trans (State.commitFails_failureKeeps _ k .storeFault) ?_
    exact .trans ⟨(State.compactionTest_workStarts _).toStoreDiffers.work, fun h => h.of_table (State.compactionTest_table _)⟩
      (State.operationEnded_failureKeeps hk _)

theorem State.imageAgain_failureKeeps (s : State) (b : Attempt) : s.FailureKeeps (s.imageAgain b) k := by
  unfold State.imageAgain
  split
  · exact State.operationEnded_failureKeeps hk s
  · split
    · split
      · exact ⟨(s.startCompaction_workStarts _).toStoreDiffers.work, fun h => State.startCompaction_retires h _⟩
      · refine .trans (State.modStore_failureKeeps _ ?_ ?_ ?_) (State.operationEnded_failureKeeps hk _) <;> rfl
    · exact (s.requestRoom_failureKeeps k).trans (State.operationEnded_failureKeeps hk _)

theorem State.imageFailed_failureKeeps (s : State) (b : Attempt) : s.FailureKeeps (s.imageFailed b) k := by
  rw [State.imageFailed_eq]
  exact .trans (State.modStore_failureKeeps _ rfl rfl rfl) (.trans (State.readOnlyTest_failureKeeps _ k)
    (State.imageAgain_failureKeeps hk _ b))

end

end Sys2Proof.Machine
end

section
/-! SUPPORT. A failed append, a failed image of a compaction and a failed initial image of SEAL (R96, R97, R103). -/

namespace Sys2Proof.Machine

set_option Elab.async false

open Sys2Proof

/-! ### A COMMIT group has failed (R96) -/

/-- The group of a first failure waits to be rewritten. -/
def State.rewriting (s : State) (a : PendingAppend) : State :=
  s.modStore (fun st => { st with operation := .idle, pend := some { a with attempt := .second } })

/-- It lacks room and has asked for compaction. -/
def State.rewriteAsks (s : State) (a : PendingAppend) : State :=
  s.modStore (fun st => { st with operation := .idle, pend := some { a with attempt := .second }, compaction := .requested .first })

section
variable {s : State} {a : PendingAppend}

theorem State.rewriting_differs (s : State) (a : PendingAppend) : s.StoreDiffers (s.rewriting a) := s.modStore_storeDiffers _ rfl rfl

theorem State.rewriteAsks_differs (s : State) (a : PendingAppend) : s.StoreDiffers (s.rewriteAsks a) := s.modStore_storeDiffers _ rfl rfl

/-- A second failure ends the append with STORE_FAULT. -/
theorem State.appendFailed_again {c : InFlight} (ha : a.attempt = .second) (hc : s.commit = some c) :
    (s.appendFailed a).store.pend = none ∧ s.CommitFailed (s.appendFailed a) c .storeFault := by
  obtain ⟨u, hu⟩ : ∃ u, u = s.modStore (fun st => { st with operation := .idle, pend := none }) := ⟨_, rfl⟩
  have hsu : s.LinksKept u := by rw [hu]; exact (s.modStore_storeDiffers _ rfl rfl).linksKept
  obtain ⟨hro, hpro⟩ := u.readOnlyTest_linksKept (by rw [hu]; rfl)
  have hends := (State.commitFails_failed (s := u.readOnlyTest) (c := c) (by rw [hro.commit, hsu.commit, hc]) .storeFault).after
    (hsu.trans hro)
  have htest := (u.readOnlyTest.commitFails .storeFault).compactionTest_workStarts
  have hp : (u.readOnlyTest.commitFails .storeFault).compactionTest.store.pend = none := by
    rw [htest.pend, State.commitFails_store]
    exact hpro
  have hchosen := State.operationEnded_chosen hp
  rw [s.appendFailed_second ha, ← hu]
  exact ⟨(hchosen.outcome hp).2.2.1, (hends.andThen htest.toStoreDiffers.linksKept).andThen hchosen.linksKept⟩

variable (ha : a.attempt = .first) (hm : s.store.mode = .writable)
include ha hm

/-- Where the retirement makes the mode READ_ONLY the append ends with STORE_READ_ONLY. -/
theorem State.appendFailed_readOnly {c : InFlight} (hfew : s.store.usable < s.store.readOnlyLimit) (hc : s.commit = some c) :
    (s.appendFailed a).store.pend = none ∧ (s.appendFailed a).store.mode = .readOnly ∧
    s.Told (s.appendFailed a) (.storeReadOnly (s.store.count .retired)) ∧ s.CommitFailed (s.appendFailed a) c .storeReadOnly := by
  have hd := s.rewriting_differs a
  have ho : (s.rewriting a).store.operation ≠ .appending := nofun
  have hstore := State.enterReadOnly_store ho
  have hp : (s.rewriting a).enterReadOnly.store.pend = none := by rw [hstore]
  have hquiet := State.operationEnded_quiet hp (fun b => by rw [hstore]; exact Store.dropRequest_notRequested _ b)
  have hends := State.enterReadOnly_failed ho (a := { a with attempt := .second }) (c := c) rfl (hd.commit.trans hc)
  have heq : s.appendFailed a = (s.rewriting a).enterReadOnly.operationEnded := by
    rw [s.appendFailed_first ha]
    change (s.rewriting a).readOnlyTest.rewriteOrEnd = _
    rw [State.readOnlyTest_enters (by exact hm) (by exact hfew), State.rewriteOrEnd, hp]
  rw [heq]
  refine ⟨hquiet.pend.trans hp, hquiet.mode.trans (by rw [hstore]),
    ((State.enterReadOnly_told ho).after hd.untold).andThen hquiet.toStoreDiffers.untold,
    (hends.after hd.linksKept).andThen hquiet.toStoreDiffers.linksKept⟩

variable (hroom : s.store.readOnlyLimit ≤ s.store.usable)
include hroom

omit hm in
theorem State.appendFailed_goesOn : s.appendFailed a = (s.rewriting a).rewriteOrEnd := by
  rw [s.appendFailed_first ha]
  exact congrArg State.rewriteOrEnd (State.readOnlyTest_enough (s := s.rewriting a) hroom)

omit hm in
/-- In WARN it ends with SUPPLY_LOW. -/
theorem State.appendFailed_warned {c : InFlight} (hw : s.ctl.supply = .warn) (hc : s.commit = some c) :
    (s.appendFailed a).store.pend = none ∧ s.CommitFailed (s.appendFailed a) c .supplyLow := by
  have hd := s.rewriting_differs a
  have hends := State.cancelAppend_failed (s := s.rewriting a) (a := { a with attempt := .second }) (c := c) (code := .supplyLow) rfl
    (hd.commit.trans hc)
  have hp : ((s.rewriting a).cancelAppend .supplyLow).store.pend = none := by rw [State.cancelAppend_store]
  have hchosen := State.operationEnded_chosen hp
  have heq : s.appendFailed a = ((s.rewriting a).cancelAppend .supplyLow).operationEnded := by
    rw [State.appendFailed_goesOn ha hroom, State.rewriteOrEnd]
    exact if_pos hw
  rw [heq]
  exact ⟨(hchosen.outcome hp).2.2.1, (hends.after hd.linksKept).andThen hchosen.linksKept⟩

variable (hn : s.ctl.supply = .normal)
include hn

/-- A group that fits, with no image owed, is rewritten at once. -/
theorem State.appendFailed_rewrites (hfit : a.slots.length ≤ 255 * s.store.count .free) (howed : s.store.imageOwed = false) :
    s.appendFailed a = (s.rewriting a).startAppend { a with attempt := .second } := by
  have hmay : (s.rewriting a).store.appendMayStart { a with attempt := .second } = true := by
    rw [Store.appendMayStart, show (s.rewriting a).store.imageOwed = false from howed]
    exact decide_eq_true hfit
  rw [State.appendFailed_goesOn ha hroom, State.rewriteOrEnd]
  change (if s.ctl.supply = .warn then _ else if s.store.mode = .readOnly then _ else if _ then _ else _) = _
  rw [if_neg (by rw [hn]; exact nofun), if_neg (by rw [hm]; exact nofun), if_pos hmay]

/-- One that lacks room asks for compaction and leaves the choice to the store. -/
theorem State.appendFailed_asks (hlack : 255 * s.store.count .free < a.slots.length) (hnone : s.store.compaction = .none)
    (hs : s.catalog.state = .sealed) : s.appendFailed a = (s.rewriteAsks a).choose := by
  have hmay : (s.rewriting a).store.appendMayStart { a with attempt := .second } = false := by
    have hfit : (s.rewriting a).store.appendFits { a with attempt := .second } = false := decide_eq_false (not_le.mpr hlack)
    rw [Store.appendMayStart, hfit, Bool.and_false]
  have hasks : (s.rewriting a).requestRoom = s.rewriteAsks a := by
    rw [State.requestRoom]
    exact if_pos ⟨hm, hn, hmay, hnone⟩
  rw [State.appendFailed_goesOn ha hroom, State.rewriteOrEnd]
  change (if s.ctl.supply = .warn then _ else if s.store.mode = .readOnly then _ else if _ then _ else _) = _
  rw [if_neg (by rw [hn]; exact nofun), if_neg (by rw [hm]; exact nofun), if_neg (by rw [hmay]; exact nofun), hasks]
  exact State.operationEnded_sealed hs

end

/-! ### An image of a compaction has failed (R96, R97) -/

/-- The compaction whose image failed is over. -/
def State.imageGone (s : State) : State := s.modStore (fun st => { st with operation := .idle, compaction := .none })

/-- Compaction is REQUESTED again. -/
def State.imageAsked (s : State) (b : Attempt) : State :=
  s.modStore (fun st => { st with operation := .idle, compaction := .requested b })

section
variable {s : State} {b : Attempt} (hs : s.catalog.state = .sealed) (hm : s.store.mode = .writable)

theorem State.imageGone_differs (s : State) : s.StoreDiffers s.imageGone := s.modStore_storeDiffers _ rfl rfl

theorem State.imageAsked_differs (s : State) (b : Attempt) : s.StoreDiffers (s.imageAsked b) := s.modStore_storeDiffers _ rfl rfl

include hs hm

/-- Where the retirement makes the mode READ_ONLY the image is not begun again. -/
theorem State.imageFailed_readOnly (hfew : s.store.usable < s.store.readOnlyLimit) :
    (s.imageFailed b).store.mode = .readOnly ∧ (s.imageFailed b).store.compaction = .none ∧ (s.imageFailed b).store.pend = none ∧
    (s.imageFailed b).store.writing = s.store.writing ∧ s.Told (s.imageFailed b) (.storeReadOnly (s.store.count .retired)) := by
  have ho : s.imageGone.store.operation ≠ .appending := nofun
  obtain ⟨u, hu⟩ : ∃ u, u = s.imageGone.enterReadOnly := ⟨_, rfl⟩
  have hstore : u.store = { s.imageGone.store.dropRequest with mode := .readOnly, pend := none } := by
    rw [hu, State.enterReadOnly_store ho]
  have hp : u.store.pend = none := by rw [hstore]
  have hc : u.store.compaction = .none := by rw [hstore]; rfl
  have hmode : u.store.mode = .readOnly := by rw [hstore]
  have hsealed : u.catalog.state = .sealed := by rw [hu, s.imageGone.enterReadOnly_workDiffers.catalog]; exact hs
  have htold : s.Told u (.storeReadOnly (s.store.count .retired)) := by
    rw [hu]
    exact (State.enterReadOnly_told ho).after s.imageGone_differs.untold
  have heq : s.imageFailed b = u.choose := by
    rw [State.imageFailed_eq]
    change s.imageGone.readOnlyTest.imageAgain b = _
    rw [State.readOnlyTest_enters (by exact hm) (by exact hfew), ← hu, State.imageAgain.eq_def, if_pos (.inl hmode),
      State.operationEnded_sealed hsealed]
  obtain ⟨hwork, hcomp⟩ := State.choose_rests hp hc
  rw [heq]
  refine ⟨hwork.mode.trans hmode, hcomp, hwork.pend.trans hp, ?_, htold.andThen hwork.toStoreDiffers.untold⟩
  have hw : u.store.writing = s.store.writing := by rw [hstore]; rfl
  rcases State.choose_erasesOrRests hp hc with h | ⟨j, h⟩
  · rw [h, hw]
  · rw [h]
    exact hw

variable (hroom : s.store.readOnlyLimit ≤ s.store.usable) (hn : s.ctl.supply = .normal)
include hroom hn

theorem State.imageFailed_goesOn : s.imageFailed b = match b with
    | .first => if s.imageGone.imageFits .second then s.imageGone.startCompaction .second else (s.imageAsked .second).operationEnded
    | .second => s.imageGone.requestRoom.operationEnded := by
  rw [State.imageFailed_eq]
  change s.imageGone.readOnlyTest.imageAgain b = _
  rw [State.readOnlyTest_enough (by exact hroom), State.imageAgain.eq_def, if_neg]
  · rfl
  · rintro (h | h | h)
    · exact absurd (h.symm.trans hm) nofun
    · exact absurd (h.symm.trans hn) nofun
    · exact h hs

variable (hfill : s.store.filling = none)

include hfill in
/-- A first image that fits is begun again. -/
theorem State.imageFailed_again (hfit : (imageGroup s.catalog.entries s.store.durable).length ≤ 255 * s.store.count .free) :
    s.imageFailed .first = s.imageGone.startCompaction .second := by
  rw [State.imageFailed_goesOn hs hm hroom hn]
  exact if_pos ((State.imageFits_noFilling (s := s.imageGone) hfill .second).mpr hfit)

include hfill in
/-- One that does not fit is asked for. -/
theorem State.imageFailed_asks (hlack : 255 * s.store.count .free < (imageGroup s.catalog.entries s.store.durable).length) :
    s.imageFailed .first = (s.imageAsked .second).choose := by
  have hfits := (State.not_imageFits_noFilling (s := s.imageGone) hfill .second).mpr hlack
  rw [State.imageFailed_goesOn hs hm hroom hn, ← State.operationEnded_sealed (s := s.imageAsked .second) hs]
  exact if_neg (by rw [hfits]; exact nofun)

/-- A second failure with no append pending ends the compaction. -/
theorem State.imageFailed_ends (hp : s.store.pend = none) : s.imageFailed .second = s.imageGone.choose := by
  have hno : s.imageGone.requestRoom = s.imageGone := by
    rw [State.requestRoom, show s.imageGone.store.pend = none from hp]
  rw [State.imageFailed_goesOn hs hm hroom hn]
  change s.imageGone.requestRoom.operationEnded = _
  rw [hno]
  exact State.operationEnded_sealed hs

include hfill in
/-- For a pending append that lacks room compaction is asked for again. -/
theorem State.imageFailed_asksAgain {a : PendingAppend} (hp : s.store.pend = some a) (hlack : 255 * s.store.count .free < a.slots.length) :
    s.imageFailed .second = (s.imageAsked .first).choose := by
  have hmay := Store.lacksRoom_noFilling (s := s.imageGone) hfill (a := a) hlack
  have hasks : s.imageGone.requestRoom = s.imageAsked .first := by
    rw [State.requestRoom, show s.imageGone.store.pend = some a from hp]
    exact if_pos ⟨hm, hn, hmay, rfl⟩
  rw [State.imageFailed_goesOn hs hm hroom hn]
  change s.imageGone.requestRoom.operationEnded = _
  rw [hasks]
  exact State.operationEnded_sealed hs

end

end Sys2Proof.Machine
end

section
/-! SUPPORT. O34: what a failed append, a failed image and a failed initial image leave (R91, R96 to R99, R103). -/

namespace Sys2Proof.Machine

set_option Elab.async false

open Sys2Proof

section
variable {s w : State} {k : Nat} {mapOk : Bool} (h : s.Abandoned w k mapOk)
include h

/-- What every branch after a failed program keeps. -/
theorem State.Abandoned.kept {t : State} (hk : w.FailureKeeps t k) : t.catalog = s.catalog ∧ t.stack = s.stack ∧
    t.store.durable = s.store.durable ∧ (∀ x ∈ t.store.table, x.sector = k → x.role = .retired) ∧
    (mapOk = true → k ∈ t.nv.retireMap) := by
  obtain ⟨-, -, -, -, hdur, -⟩ := h.storeSame
  exact ⟨hk.1.catalog.trans h.catalog, hk.1.stack.trans h.stack, hk.1.durable.trans hdur, hk.2 h.retires,
    fun hok => by rw [hk.1.nv]; exact h.map hok⟩

/-- Where only the store differs from the abandoned group, the Commit Unit and the ports are as they were. -/
theorem State.Abandoned.beside {t : State} (hd : w.StoreDiffers t) :
    t.commit = s.commit ∧ t.portA = s.portA ∧ t.portB = s.portB :=
  ⟨hd.commit.trans h.commit, hd.portA.trans h.portA, hd.portB.trans h.portB⟩

theorem State.Abandoned.image : imageGroup w.catalog.entries w.store.durable =
    groupSlots .image s.store.durable ((s.catalog.entries.filter (fun e => e.defn.persistent)).map
      (fun e => { id := e.defn.id, value := e.committed, version := e.version })) := by
  obtain ⟨-, -, -, -, hdur, -⟩ := h.storeSame
  rw [h.catalog, hdur]
  rfl

/-- A header that begins a group after it. -/
theorem State.Abandoned.opened {v : State} (ht : v.store.table = w.store.table) {op : ArrayOp} {j : Nat}
    (hop : op = .header j v.nextGeneration w.store.restartNote) :
    ∃ n, op = .header j n true ∧ ∀ x ∈ s.store.table, ∀ g, x.generation = some g → g < n := by
  obtain ⟨-, -, -, -, -, -, -, -, hnote, -⟩ := h.storeSame
  rw [hnote] at hop
  exact ⟨_, hop, h.lt_nextGeneration ht⟩

/-- What the store then chooses where a compaction is REQUESTED: the image, the erase of a STALE sector, or READ_ONLY (R88, R91 to R93,
R99). -/
theorem State.Abandoned.asked {v : State} {b : Attempt} (hd : w.StoreDiffers v)
    (hsame : v.store.table = w.store.table ∧ v.store.openedLast = w.store.openedLast ∧ v.store.restartNote = w.store.restartNote ∧
      v.store.writing = w.store.writing ∧ v.store.mode = w.store.mode)
    (hvo : v.store.operation = .idle) (hvc : v.store.compaction = .requested b) (hs : s.catalog.state = .sealed)
    (hr : s.ctl.start = .ready) (hn : s.ctl.supply = .normal) (hm : s.store.mode = .writable) :
    let free := (s.store.table.filter (fun x => decide (x.role = .free ∧ x.sector ≠ k))).length
    let retired := (s.store.table.filter (fun x => decide (x.role = .retired ∨ x.sector = k))).length
    let image := groupSlots .image s.store.durable ((s.catalog.entries.filter (fun e => e.defn.persistent)).map
      (fun e => { id := e.defn.id, value := e.committed, version := e.version }))
    (image.length ≤ 255 * free →
      v.choose.commit = s.commit ∧ v.choose.portA = s.portA ∧ v.choose.portB = s.portB ∧ v.choose.store.pend = v.store.pend ∧
      v.choose.store.operation = .compacting ∧ v.choose.store.compaction = .running b ∧
      (∃ x, v.choose.store.writing = some x ∧ x.attempt = b ∧ x.remaining = image) ∧
      ∀ j, (ringOrderAfter s.store.openedLast).find? (fun i =>
        decide (i ≠ k) && (s.store.rec? i).any (fun x => decide (x.role = .free))) = some j →
        ∃ n, v.choose.store.arrayOp = .header j n true ∧ ∀ x ∈ s.store.table, ∀ g, x.generation = some g → g < n) ∧
    (255 * free < image.length → (∃ x ∈ s.store.table, x.sector ≠ k ∧ x.role = .stale) →
      v.choose.commit = s.commit ∧ v.choose.portA = s.portA ∧ v.choose.portB = s.portB ∧ v.choose.store.pend = v.store.pend ∧
      v.choose.store.writing = none ∧ v.choose.store.operation = .erasing ∧ v.choose.store.compaction = .requested b) ∧
    (255 * free < image.length → (∀ x ∈ s.store.table, x.sector ≠ k → x.role ≠ .stale ∧ x.role ≠ .erasing) →
      v.choose.store.mode = .readOnly ∧ v.choose.store.compaction = .none ∧ v.choose.store.pend = none ∧
      v.choose.store.writing = none ∧
      (∀ p, (v.choose.port p).notices = ((s.port p).takeNotice (.storeReadOnly retired)).notices) ∧
      (∀ a, v.store.pend = some a → v.choose.commit = none) ∧
      ∀ a c, v.store.pend = some a → s.commit = some c → s.CommitFailed v.choose c .storeReadOnly) := by
  intro free retired image
  obtain ⟨hvt, hvl, hvnote, hvw, hvm⟩ := hsame
  obtain ⟨-, -, -, hwm, -, -, -, -, -, hww⟩ := h.storeSame
  obtain ⟨-, hret, hfr⟩ := h.counts
  have hfill : v.store.filling = none := by rw [Store.filling, hvt]; exact h.filling
  have hvs : v.catalog.state = .sealed := by rw [hd.catalog, h.catalog, hs]
  have hvr : v.ctl.start = .ready := by rw [hd.ctl, h.ctl, hr]
  have hvn : v.ctl.supply = .normal := by rw [hd.ctl, h.ctl, hn]
  have hvmode : v.store.mode = .writable := (hvm.trans hwm).trans hm
  have himage : imageGroup v.catalog.entries v.store.durable = image := by rw [hd.catalog, hd.durable]; exact h.image
  have hvfree : v.store.count .free = free := by rw [Store.count, hvt]; exact hfr
  have hvret : v.store.count .retired = retired := by rw [Store.count, hvt]; exact hret
  refine ⟨fun hfit => ?_, fun hbig hstale => ?_, fun hbig hclean => ?_⟩
  · rw [State.choose_image hfill hvo hvs hvr hvc hvn hvmode (by rw [himage, hvfree]; exact hfit)]
    obtain ⟨hop, hcomp, ⟨x, hx, hxa, hxm⟩, -⟩ := v.startCompaction_spec b
    have hstarts := v.startCompaction_workStarts b
    obtain ⟨hc, hA, hB⟩ := h.beside (hd.trans hstarts.toStoreDiffers)
    refine ⟨hc, hA, hB, hstarts.pend, hop, hcomp, ⟨x, hx, hxa, hxm.trans himage⟩, fun j hj => ?_⟩
    have hvj : v.store.nextFree = some j := by
      rw [← h.nextFree] at hj
      rw [← hj, Store.nextFree, Store.nextFree, hvl]
      congr 1
      funext i
      rw [Store.rec?_of_table hvt]
    obtain ⟨hhead, -⟩ := State.startCompaction_opened hfill b hvj
    exact h.opened hvt (by rw [hhead, hvnote])
  · obtain ⟨j, hj⟩ := h.stale hstale
    have hvj : v.store.nextStale = some j := by rw [← hj, Store.nextStale, Store.nextStale, hvt]
    rw [State.choose_erase hfill hvo hvs hvr hvc hvn (by rw [himage, hvfree]; exact hbig) hvj]
    have hstarts := v.startErase_workStarts j
    obtain ⟨hc, hA, hB⟩ := h.beside (hd.trans hstarts.toStoreDiffers)
    exact ⟨hc, hA, hB, hstarts.pend, hvw.trans hww, rfl, hvc⟩
  · have hvclean : v.store.noStale = true := by
      rw [← h.noStale_iff] at hclean
      rw [← hclean, Store.noStale, Store.noStale, hvt]
    obtain ⟨hmode, hcomp, hp, hw, htold, hnone, hends⟩ :=
      State.choose_full hfill hvo hvs hvr hvc (by rw [himage, hvfree]; exact hbig) hvclean
    have htold := (htold.after hd.untold).after h.untold
    rw [hvret] at htold
    exact ⟨hmode, hcomp, hp, hw.trans (hvw.trans hww), fun p => (htold p).1, hnone, fun a c ha hc =>
      ((hends a c ha (hd.commit.trans (h.commit.trans hc))).after hd.linksKept).after h.linksKept⟩

end

/-- Settles O34, in the order of the statement: a failed COMMIT group, a failed image of a compaction, and the failed initial image of
SEAL. -/
theorem failedAppendLeavesTheFrame : Obligations.FailedAppendLeavesTheFrame := by
  refine ⟨fun s k g a c mapOk hop hg ho hpend hcommit hk => ?_, fun s k g mapOk hop hg ho hk hs hr hn hm => ?_,
    fun s k g q mapOk hop hg ho hq hout => ?_⟩
  case refine_1 =>
    intro usable free retired group image
    obtain ⟨u, hexec, huo, hup, h⟩ := exec_programFails hop hg mapOk
    obtain ⟨w, hw⟩ : ∃ w, w = u.groupAbandoned k mapOk := ⟨_, rfl⟩
    rw [← hw] at h
    have heq : u.groupFailed g k mapOk = w.appendFailed a := by
      rw [State.groupFailed_eq, huo, ho]
      dsimp only
      rw [hup, hpend, hw]
    obtain ⟨hwo, hwp, hwc, hwm, hwd, hwr, hwl, hwi, hwn, hww⟩ := h.storeSame
    obtain ⟨hus, hret, hfr⟩ := h.counts
    have hlim : w.store.readOnlyLimit = 2 * s.store.reserve + 4 := by rw [Store.readOnlyLimit, hwr]
    have hcom : w.commit = some c := h.commit.trans hcommit
    have hsupply : w.ctl.supply = s.ctl.supply := by rw [h.ctl]
    obtain ⟨hcat, hstack, hdur, hrec, hmap⟩ := h.kept (State.appendFailed_failureKeeps hk w a)
    refine ⟨_, hexec, ?_⟩
    rw [heq]
    refine ⟨hcat, hstack, hdur, hrec, hmap, fun ha => ?_, fun ha hsup hout => ?_, fun ha hm hroom hn hfit howed j hj => ?_,
      fun ha hm hroom hn hlack hnone hs hr => ?_, fun ha hsup hout => ⟨fun hwarn hm hroom => ?_, fun hm hfew => ?_⟩⟩
    · obtain ⟨hp, hends⟩ := State.appendFailed_again ha hcom
      have hends := hends.after h.linksKept
      exact ⟨hends.commit, hp, hends.lease⟩
    · obtain ⟨hp, hends⟩ := State.appendFailed_again ha hcom
      exact (hends.after h.linksKept).answered hsup hout
    · rw [← hlim] at hroom
      rw [State.appendFailed_rewrites ha (hwm.trans hm) (hroom.trans_eq hus.symm) (hsupply.trans hn) (by rw [hfr]; exact hfit)
        (hwi.trans howed)]
      obtain ⟨hop', -, ⟨x, hx, -, hxa, hxm⟩, -⟩ := State.startAppend_spec (w.rewriting a) { a with attempt := .second }
      have hstarts := State.startAppend_workStarts (w.rewriting a) { a with attempt := .second }
      obtain ⟨hc', hA, hB⟩ := h.beside ((w.rewriting_differs a).trans hstarts.toStoreDiffers)
      obtain ⟨hhead, hfilling⟩ := State.startAppend_opened (s := w.rewriting a) h.filling (a := { a with attempt := .second })
        (h.nextFree.trans hj)
      exact ⟨hc', hA, hB, hop', hstarts.pend, ⟨x, hx, hxa, hxm⟩, h.opened rfl hhead, hfilling⟩
    · rw [← hlim] at hroom
      have heq' := State.appendFailed_asks ha (hwm.trans hm) (hroom.trans_eq hus.symm) (hsupply.trans hn) (by rw [hfr]; exact hlack)
        (hwc.trans hnone) (by rw [h.catalog]; exact hs)
      obtain ⟨hfits, hstales, hfull⟩ := h.asked (w.rewriteAsks_differs a) ⟨rfl, rfl, rfl, rfl, rfl⟩ rfl rfl hs hr hn hm
      rw [heq']
      refine ⟨fun hfit => ?_, fun hbig hstale => ?_, fun hbig hclean => ?_⟩
      · obtain ⟨hc', hA, hB, hp, hop', hcomp, hx, hhead⟩ := hfits hfit
        exact ⟨hc', hA, hB, hp, hop', hcomp, hx, hhead⟩
      · obtain ⟨hc', hA, hB, hp, -, hop', hcomp⟩ := hstales hbig hstale
        exact ⟨hc', hA, hB, hp, hop', hcomp⟩
      · obtain ⟨hmode, hcomp, hp, -, htold, -, hends⟩ := hfull hbig hclean
        exact ⟨hmode, hcomp, hp, (hends _ c rfl hcommit).commit, htold, (hends _ c rfl hcommit).answered⟩
    · rw [← hlim] at hroom
      obtain ⟨hp, hends⟩ := State.appendFailed_warned ha (hroom.trans_eq hus.symm) (hsupply.trans hwarn) hcom
      have hends := hends.after h.linksKept
      exact ⟨hends.commit, hp, hends.answered hsup hout⟩
    · rw [← hlim] at hfew
      obtain ⟨hp, hmode, htold, hends⟩ := State.appendFailed_readOnly ha (hwm.trans hm) (hus.trans_lt hfew) hcom
      have hends := hends.after h.linksKept
      have htold := htold.after h.untold
      rw [hret] at htold
      exact ⟨hends.commit, hp, hmode, fun p => (htold p).1, hends.answered hsup hout⟩
  case refine_2 =>
    intro usable free retired image
    obtain ⟨u, hexec, huo, hup, h⟩ := exec_programFails hop hg mapOk
    obtain ⟨w, hw⟩ : ∃ w, w = u.groupAbandoned k mapOk := ⟨_, rfl⟩
    rw [← hw] at h
    have heq : u.groupFailed g k mapOk = w.imageFailed g.attempt := by
      rw [State.groupFailed_eq, huo, ho, hw]
    obtain ⟨hwo, hwp, hwc, hwm, hwd, hwr, hwl, hwi, hwn, hww⟩ := h.storeSame
    obtain ⟨hus, hret, hfr⟩ := h.counts
    have hlim : w.store.readOnlyLimit = 2 * s.store.reserve + 4 := by rw [Store.readOnlyLimit, hwr]
    have hws : w.catalog.state = .sealed := by rw [h.catalog, hs]
    have hwmode : w.store.mode = .writable := hwm.trans hm
    have hwsup : w.ctl.supply = .normal := by rw [h.ctl, hn]
    obtain ⟨hcat, hstack, hdur, hrec, hmap⟩ := h.kept (State.imageFailed_failureKeeps hk w g.attempt)
    refine ⟨_, hexec, ?_⟩
    rw [heq]
    refine ⟨hcat, hstack, hdur, hrec, hmap, fun hroom hfirst hfit j hj => ?_, fun hroom hfirst hbig => ?_, fun hroom hsecond => ?_,
      fun hfew => ?_⟩
    · have hroom : w.store.readOnlyLimit ≤ w.store.usable := hlim.trans_le (hroom.trans_eq hus.symm)
      rw [hfirst, State.imageFailed_again hws hwmode hroom hwsup h.filling (by rw [h.image, hfr]; exact hfit)]
      obtain ⟨hop', hcomp, ⟨x, hx, hxa, hxm⟩, -⟩ := w.imageGone.startCompaction_spec .second
      have hstarts := w.imageGone.startCompaction_workStarts .second
      obtain ⟨hc', hA, hB⟩ := h.beside (w.imageGone_differs.trans hstarts.toStoreDiffers)
      obtain ⟨hhead, hfilling⟩ := State.startCompaction_opened (s := w.imageGone) h.filling .second (h.nextFree.trans hj)
      exact ⟨hc', hA, hB, hstarts.pend.trans hwp, hop', hcomp, ⟨x, hx, hxa, hxm.trans h.image⟩, h.opened rfl hhead, hfilling⟩
    · have hroom : w.store.readOnlyLimit ≤ w.store.usable := hlim.trans_le (hroom.trans_eq hus.symm)
      rw [hfirst, State.imageFailed_asks hws hwmode hroom hwsup h.filling (by rw [h.image, hfr]; exact hbig)]
      obtain ⟨-, hstales, hfull⟩ := h.asked (w.imageAsked_differs .second) ⟨rfl, rfl, rfl, rfl, rfl⟩ rfl rfl hs hr hn hm
      refine ⟨fun hstale => ?_, fun hclean => ?_⟩
      · obtain ⟨hc', hA, hB, hp, hw', hop', hcomp⟩ := hstales hbig hstale
        exact ⟨hc', hA, hB, hp.trans hwp, hw', hop', hcomp⟩
      · obtain ⟨hmode, hcomp, hp, hw', htold, -⟩ := hfull hbig hclean
        exact ⟨hmode, hcomp, hp, hw', htold⟩
    · have hroom : w.store.readOnlyLimit ≤ w.store.usable := hlim.trans_le (hroom.trans_eq hus.symm)
      rw [hsecond]
      refine ⟨fun hp => ?_, fun a ha hlack => ?_⟩
      · rw [State.imageFailed_ends hws hwmode hroom hwsup (hwp.trans hp)]
        have hgp : w.imageGone.store.pend = none := hwp.trans hp
        obtain ⟨hwork, hcomp⟩ := State.choose_rests hgp (s := w.imageGone) rfl
        obtain ⟨hc', hA, hB⟩ := h.beside (w.imageGone_differs.trans hwork.toStoreDiffers)
        rcases State.choose_erasesOrRests hgp (s := w.imageGone) rfl with hrest | ⟨j, hrest⟩
        · rw [hrest] at hc' hA hB ⊢
          exact ⟨hc', hA, hB, hww, rfl, nofun⟩
        · rw [hrest] at hc' hA hB ⊢
          exact ⟨hc', hA, hB, hww, rfl, nofun⟩
      · rw [State.imageFailed_asksAgain hws hwmode hroom hwsup h.filling (hwp.trans ha) (by rw [hfr]; exact hlack)]
        obtain ⟨hfits, hstales, hfull⟩ := h.asked (w.imageAsked_differs .first) ⟨rfl, rfl, rfl, rfl, rfl⟩ rfl rfl hs hr hn hm
        have hap : (w.imageAsked .first).store.pend = some a := hwp.trans ha
        refine ⟨fun hfit => ?_, fun hbig hstale => ?_, fun hbig hclean => ?_⟩
        · obtain ⟨hc', hA, hB, hp, hop', hcomp, -⟩ := hfits hfit
          exact ⟨hc', hA, hB, hp.trans hap, hop', hcomp⟩
        · obtain ⟨hc', hA, hB, hp, -, hop', hcomp⟩ := hstales hbig hstale
          exact ⟨hc', hA, hB, hp.trans hap, hop', hcomp⟩
        · obtain ⟨hmode, hcomp, hp, -, htold, hnone, -⟩ := hfull hbig hclean
          exact ⟨hmode, hcomp, hp, hnone a hap, htold⟩
    · have hfew : w.store.usable < w.store.readOnlyLimit := hus.trans_lt (hfew.trans_eq hlim.symm)
      obtain ⟨hmode, hcomp, hp, hw', htold⟩ := State.imageFailed_readOnly (b := g.attempt) hws hwmode hfew
      have htold := htold.after h.untold
      rw [hret] at htold
      exact ⟨hmode, hcomp, hp, hw'.trans hww, fun p => (htold p).1⟩
  case refine_3 =>
    intro free image
    obtain ⟨u, hexec, huo, -, h⟩ := exec_programFails hop hg mapOk
    obtain ⟨w, hw⟩ : ∃ w, w = u.groupAbandoned k mapOk := ⟨_, rfl⟩
    rw [← hw] at h
    have heq : u.groupFailed g k mapOk = match g.attempt with
        | .first => w.beginInitialImage .second
        | .second => w.sealFails := by
      rw [State.groupFailed_eq, huo, ho, hw] <;> rfl
    obtain ⟨-, -, -, -, -, -, -, -, hnote, -⟩ := h.storeSame
    obtain ⟨-, -, hfr⟩ := h.counts
    have himage : initialImage w.catalog.entries = image := by rw [h.catalog]; exact initialImage_eq _
    have hfits : w.initialFits = true ↔ image.length ≤ 255 * free := by
      rw [State.initialFits, himage, hfr]
      exact decide_eq_true_iff
    have hfails := State.sealFails_eq (s := w) (q := q) (by rw [h.catalog]; exact hq)
    obtain ⟨r, ht, hr⟩ := h.table
    have hroles : w.store.sealFailed.table.map (fun x => (x.sector, x.role)) = s.store.table.map (fun x =>
        (x.sector, if x.sector = k then .retired else if x.role = .retired ∨ x.role = .free then x.role else .stale)) := by
      rw [Store.sealFailed_roles, ht, List.map_map]
      refine List.map_congr_left fun x _ => ?_
      obtain ⟨hsec, -, hrole⟩ := hr x
      dsimp only [Function.comp]
      rw [hsec, hrole]
      by_cases hx : x.sector = k
      · simp [hx]
      · by_cases hfill : x.role = .filling <;> simp [hx, hfill]
    have hcases : (g.attempt = .first ∧ image.length ≤ 255 * free ∧ u.groupFailed g k mapOk = w.beginInitialImage .second) ∨
        ¬ (g.attempt = .first ∧ image.length ≤ 255 * free) ∧ u.groupFailed g k mapOk = w.sealFails := by
      rw [heq]
      cases g.attempt with
      | first =>
        by_cases hfit : image.length ≤ 255 * free
        · exact .inl ⟨rfl, hfit, rfl⟩
        · refine .inr ⟨fun hboth => hfit hboth.2, ?_⟩
          exact if_neg (fun hyes => hfit (hfits.mp hyes))
      | second => exact .inr ⟨fun ⟨hfirst, _⟩ => (nomatch hfirst), rfl⟩
    refine ⟨_, hexec, ?_⟩
    rcases hcases with ⟨hfirst, hfit, heq⟩ | ⟨hnot, heq⟩
    · obtain ⟨v, hv⟩ : ∃ v, v = w.modStore (fun st => { st with
        tasks := [], writing := some (.fresh .image .second (initialImage w.catalog.entries)) }) := ⟨_, rfl⟩
      have hbegin : w.beginInitialImage .second = v.programNext := by
        rw [hv]
        exact if_pos (hfits.mpr hfit)
      have hwv : w.StoreDiffers v := by rw [hv]; exact w.modStore_storeDiffers _ rfl rfl
      have hstarts := hwv.trans v.programNext_workStarts.toStoreDiffers
      obtain ⟨more, hmore⟩ := groupSlots_eq_cons .image 0 (imageChanges (atDefaults w.catalog.entries))
      have hvg : v.store.writing = some (.fresh .image .second (initialImage w.catalog.entries)) := by rw [hv]; rfl
      obtain ⟨x, hx, -, hxa, hxm⟩ := State.programNext_writing hvg hmore
      have hret : v.programNext.store.Retires k := State.programNext_retires (by rw [hv]; exact h.retires)
      obtain ⟨_, _, _, _, _, hprog⟩ := v.programNext_eq
      obtain ⟨hcom, hA, hB⟩ := h.beside hstarts
      rw [heq, hbegin]
      refine ⟨hstarts.stack.trans h.stack, hcom, hB, hret, fun hok => by rw [hstarts.nv]; exact h.map hok,
        fun _ _ j hj => ⟨hstarts.catalog.trans h.catalog, hA, ?_, ⟨x, hx, hxa, hxm.trans himage⟩, ?_⟩, fun hend => ?_⟩
      · rw [hprog, hv]
        exact h.storeSame.1.trans ho
      · obtain ⟨hhead, -⟩ := State.programNext_openedAs (s := w) h.filling hvg hmore (by rw [hv]; rfl) (by rw [hv]; rfl)
          (by rw [hv]; rfl) (by rw [hv]; rfl) (h.nextFree.trans hj)
        rw [hnote] at hhead
        refine ⟨_, hhead, fun x hx d hxd hmax => ?_⟩
        refine State.nextGeneration_above (x := r x) (by rw [ht]; exact List.mem_map.mpr ⟨x, hx, rfl⟩) ((hr x).2.1.trans hxd) ?_
        rw [ht, List.forall_mem_map]
        exact fun y hy e hye => hmax y hy e ((hr y).2.1.symm.trans hye)
      · rcases hend with hsecond | hbig
        · rw [hfirst] at hsecond
          cases hsecond
        · omega
    · have hret : w.store.sealFailed.Retires k := by
        intro x hx hxk
        have hmem : (x.sector, x.role) ∈ w.store.sealFailed.table.map (fun x => (x.sector, x.role)) := List.mem_map.mpr ⟨x, hx, rfl⟩
        rw [hroles] at hmem
        obtain ⟨y, -, hy⟩ := List.mem_map.mp hmem
        obtain ⟨hysec, hyrole⟩ := Prod.mk.inj hy
        rw [← hyrole, if_pos (hysec.trans hxk)]
      rw [heq, hfails]
      refine ⟨h.stack, h.commit, h.portB, hret, fun hok => h.map hok, fun hfirst hfit => absurd ⟨hfirst, hfit⟩ hnot,
        fun _ => ⟨by rw [h.catalog], rfl, rfl, rfl, rfl, rfl, rfl, hroles, ?_⟩⟩
      rw [h.portA]
      exact PortState.answer_outbound _ true hout

end Sys2Proof.Machine
end

section
/-! SUPPORT. O54: what a crossing of the warning level, or of the normal level, lets go on, abandons and starts (R100, R101, R121 to
R123). -/

namespace Sys2Proof.Machine

set_option Elab.async false

open Sys2Proof

/-! ### What an abandoned image leaves (R100) -/

/-- A ring sector after a program that ended or was cut: it holds what it held, or one slot more that is no close mark. -/
def RingSector.MayHaveGrown (y z : RingSector) : Prop :=
  y.sector = z.sector ∧ (z.content = y.content ∨ ∃ d, z.content = y.content ++ [d] ∧ ∀ n v, d ≠ .closeMark n v)

theorem NonVol.modRing_mayHaveGrown {nv : NonVol} {k : Nat} {f : RingSector → RingSector} (hf : ∀ y : RingSector, y.MayHaveGrown (f y)) :
    ∀ z ∈ (nv.modRing k f).ring, ∃ y ∈ nv.ring, y.MayHaveGrown z := by
  intro z hz
  obtain ⟨y, hy, rfl⟩ := List.mem_map.mp hz
  refine ⟨y, hy, ?_⟩
  split
  · exact hf y
  · exact ⟨rfl, .inl rfl⟩

/-- No close mark is programmed in an image that is abandoned (R100). -/
theorem State.abandonImage_ring (s : State) (g : GroupWrite) (he : ∀ k, s.store.arrayOp ≠ .erase k) :
    ∀ z ∈ (s.abandonImage g).nv.ring, ∃ y ∈ s.nv.ring, y.MayHaveGrown z := by
  obtain ⟨ok, hok⟩ : ∃ ok, ok = (Config.residue s.draws 2 && !s.store.arrayOp.closes) := ⟨_, rfl⟩
  have hsame : ∀ z ∈ s.nv.ring, ∃ y ∈ s.nv.ring, y.MayHaveGrown z := fun z hz => ⟨z, hz, rfl, .inl rfl⟩
  rw [State.abandonImage_eq]
  change ∀ z ∈ (s.arraySettled _).ring, _
  rw [← hok, State.arraySettled]
  cases ha : s.store.arrayOp with
  | none => exact hsame
  | header k n f => exact NonVol.modRing_mayHaveGrown fun y => ⟨rfl, .inl rfl⟩
  | slot k c =>
    refine NonVol.modRing_mayHaveGrown fun y => ⟨rfl, .inr ⟨_, rfl, fun n v => ?_⟩⟩
    split
    · rintro rfl
      rename_i hprog
      rw [hok, ha] at hprog
      simp [ArrayOp.closes] at hprog
    · exact nofun
  | erase k => exact absurd ha (he k)
  | areaHeader k =>
    dsimp only
    rw [State.headerProgrammed, NonVol.programAreaHeader_ring]
    exact hsame
  | areaSlot k c => exact hsame
  | retireMap => exact hsame

/-- The roles that an abandoned image leaves: its sectors STALE, the one where it began FULL if it held earlier groups. -/
theorem State.abandonImage_roles (s : State) (g : GroupWrite) (hin : ∀ k c, s.store.arrayOp = .slot k c → k ∈ g.sectors) :
    (s.abandonImage g).store.table.map (fun x => (x.sector, x.role)) = s.store.table.map (fun x => (x.sector,
      if x.sector ∈ g.sectors then
        if g.begun.any (fun b => decide (b.sector = x.sector) && b.shared) = true then .full else .stale
      else x.role)) := by
  have hrole (x : SectorRec) : ((g.abandonedRole x).sector, (g.abandonedRole x).role) = (x.sector,
      if x.sector ∈ g.sectors then
        if g.begun.any (fun b => decide (b.sector = x.sector) && b.shared) = true then Role.full else .stale
      else x.role) := by
    unfold GroupWrite.abandonedRole
    by_cases hx : x.sector ∈ g.sectors
    · rw [if_pos hx, if_pos hx]
      by_cases hb : g.begun.any (fun b => decide (b.sector = x.sector) && b.shared) = true
      · rw [if_pos hb, if_pos (by exact hb)]
      · rw [if_neg hb, if_neg (by exact hb)]
    · rw [if_neg hx, if_neg hx]
  rw [State.abandonImage_eq]
  change (s.inProgressCounted.table.map g.abandonedRole).map _ = _
  rw [List.map_map, State.inProgressCounted]
  split
  · rename_i k c ha
    rw [Store.useSlot, Store.modRec, List.map_map]
    refine List.map_congr_left fun x _ => ?_
    dsimp only [Function.comp]
    rw [hrole]
    by_cases hx : x.sector = k
    · have hk : x.sector ∈ g.sectors := by rw [hx]; exact hin k c ha
      simp only [if_pos hx, if_pos hk]
    · simp only [if_neg hx]
  · exact List.map_congr_left fun x _ => hrole x

/-! ### A warning beside a group that goes on (R100) -/

theorem Store.dropRequest_eq (st : Store) : st.dropRequest = { st with compaction := match st.compaction with
    | .requested _ => .none
    | .none => .none
    | .running a => .running a } := by
  rw [Store.dropRequest]
  cases st.compaction <;> rfl

theorem State.storeWarned_goesOn {s : State} (h : s.store.operation = .appending ∨
    (s.store.pend = none ∧ (s.store.operation = .wipeErase ∨ s.store.operation = .catalogWrite ∧ s.store.writing = none))) :
    s.storeWarned = s.modStore Store.dropRequest := by
  rcases h with ho | ⟨hp, ho | ⟨ho, hw⟩⟩
  · simp only [State.storeWarned, ho]
  · rw [← State.cancelAppend_none (s := s.modStore Store.dropRequest) .supplyLow hp]
    simp only [State.storeWarned, ho]
  · rw [← State.cancelAppend_none (s := s.modStore Store.dropRequest) .supplyLow hp]
    simp only [State.storeWarned, ho, hw]

theorem State.storeWarned_seal {s : State} {g : GroupWrite} (ho : s.store.operation = .catalogWrite) (hw : s.store.writing = some g) :
    s.storeWarned = (s.abandonImage g).modStore (fun st => { st with tasks := [.image g.attempt] }) := by
  simp only [State.storeWarned, ho, hw]

/-- An erase of the list waits while the supply is WARN. -/
theorem State.runTasks_waits {s : State} {k : Nat} {ts : List Task} (ht : s.store.tasks = .erase k :: ts) (hw : s.ctl.supply = .warn) :
    s.runTasks = s := by
  rw [State.runTasks, ht]
  exact if_pos hw

/-! ### The return to NORMAL (R101, R123) -/

theorem exec_normalCrossing {s : State} (hr : s.ctl.start = .ready) (hw : s.ctl.supply = .warn) :
    exec .normalCrossing s = .next ((s.setSupply .normal).storeRestored.noticeBoth .supplyOk) := by
  change execNormalCrossing s = _
  rw [execNormalCrossing, if_pos ⟨by rw [hr]; exact nofun, hw⟩, State.recover, if_pos (by simp [State.ready, State.setSupply, hr])]

/-- What the return leaves beside the store, where only the store acts on it. -/
theorem exec_normalCrossing_storeOnly {s : State} (hr : s.ctl.start = .ready) (hw : s.ctl.supply = .warn) {u : State}
    (hu : (s.setSupply .normal).storeRestored = u) (hd : (s.setSupply .normal).StoreDiffers u) :
    ∃ t, exec .normalCrossing s = .next t ∧ t.ctl = { s.ctl with supply := .normal } ∧ t.portA = s.portA.takeNotice .supplyOk ∧
      t.portB = s.portB.takeNotice .supplyOk ∧ t.stack = s.stack ∧ t.catalog = s.catalog ∧ t.commit = s.commit ∧ t.nv = s.nv ∧
      t.store = u.store := by
  refine ⟨_, exec_normalCrossing hr hw, ?_⟩
  rw [hu]
  exact ⟨hd.ctl, congrArg (PortState.takeNotice · _) hd.portA, congrArg (PortState.takeNotice · _) hd.portB, hd.stack, hd.catalog,
    hd.commit, hd.nv, rfl⟩

/-- The compaction condition, in the words of the claims (R91). -/
theorem State.compactionTest_eq (s : State) : s.compactionTest = s.modStore (fun st => { st with compaction :=
    if s.catalog.state = .sealed ∧ s.store.mode = .writable ∧ s.store.compaction = .none ∧
      (s.store.table.filter (fun x => decide (x.role = .free))).length < s.store.reserve + 3 then .requested .first
    else s.store.compaction }) := by
  rw [State.compactionTest, Store.count_eq]
  split <;> rfl

/-- Settles O54: what goes on at a warning, what is abandoned, the return to NORMAL beside an operation, at IDLE and in SEAL or WIPE, and
the crossings that change the supply state alone or nothing. -/
theorem supplyCrossingsMoveTheState : Obligations.SupplyCrossingsMoveTheState := by
  refine ⟨fun s hr hn h => ?_, fun s g hr hn hg he hin h => ?_, fun s hr hw ho => ?_, fun s hr hw ho hs hp hc hm => ?_,
    fun s k ts ho ht => ⟨fun hw j mapOk ha hj => ?_, fun hr hw ha hg => ?_⟩, fun s hr hh hw => ?_, fun s hw => ?_, fun s hn => ?_⟩
  case refine_1 =>
    rw [exec_warnCrossing hr hn, State.storeWarned_goesOn (s := s.setSupply .warn) h, State.modStore, Store.dropRequest_eq]
    rfl
  case refine_2 =>
    obtain ⟨w, hw⟩ : ∃ w, w = s.setSupply .warn := ⟨_, rfl⟩
    have heq : w.storeWarned = (w.abandonImage g).modStore (fun st => { st with
        operation := if s.store.operation = .compacting then .idle else st.operation
        compaction := if s.store.operation = .compacting then .none else st.compaction
        tasks := if s.store.operation = .compacting then st.tasks else [.image g.attempt] }) := by
      rcases h with ⟨ho, hp, hs⟩ | ho
      · rw [State.storeWarned_image (by rw [hw]; exact ho) (by rw [hw]; exact hg) (by rw [hw]; exact hs) (by rw [hw]; rfl),
          State.imageWarned, State.cancelAppend_none (h := ?_)]
        · simp only [if_pos ho]
        · rw [State.modStore_store, State.abandonImage_pend, hw]
          exact hp
      · rw [State.storeWarned_seal (by rw [hw]; exact ho) (by rw [hw]; exact hg)]
        simp only [ho, reduceCtorEq, if_false]
    obtain ⟨hco, -, hcd, -⟩ := State.Sound.inProgressCounted_same w
    have hring := w.abandonImage_ring g (by rw [hw]; exact he)
    have hroles := w.abandonImage_roles g (by rw [hw]; exact hin)
    have hab := w.abandonImage_eq g
    have hwt : w.store.table = s.store.table := by rw [hw]; rfl
    have hwr : w.nv.ring = s.nv.ring := by rw [hw]; rfl
    rw [hwr, hab] at hring
    rw [hwt, hab] at hroles
    refine ⟨_, exec_warnCrossing hr hn, ?_⟩
    rw [← hw, heq, hab]
    refine ⟨by rw [hw]; rfl, rfl, rfl, rfl, fun ho => ?_, fun ho => ?_, ?_, ?_, ?_, ?_, ?_, ?_, ?_, ?_⟩
    · simp only [State.noticeBoth_store, State.modStore_store, if_pos ho]
      exact ⟨trivial, trivial⟩
    · simp only [State.noticeBoth_store, State.modStore_store, ho, reduceCtorEq, if_false]
      exact ⟨hco.trans (by rw [hw]; exact ho), trivial⟩
    · exact hroles
    · exact hring
    · exact hcd.trans (by rw [hw]; rfl)
    all_goals
      rw [hw]
      rfl
  case refine_3 =>
    obtain ⟨u, hu⟩ : ∃ u, u = s.setSupply .normal := ⟨_, rfl⟩
    have hrest : u.storeRestored = u.compactionTest := by
      rcases ho with ho | ho <;> simp only [State.storeRestored, hu, State.setSupply, ho]
    rw [hu] at hrest
    obtain ⟨t, ht, hctl, hA, hB, hstack, hcat, hcom, hnv, hstore⟩ :=
      exec_normalCrossing_storeOnly hr hw hrest (State.compactionTest_workStarts _).toStoreDiffers
    rw [State.compactionTest_eq, State.modStore_store] at hstore
    refine ⟨t, ht, hctl, hA, hB, hstack, hcat, hcom, hnv, ?_, fun hs hm hc => ?_⟩
    · rw [hstore]
      rfl
    · rw [hstore]
      change (if s.catalog.state = .sealed ∧ s.store.mode = .writable ∧ s.store.compaction = .none ∧ _ then _ else s.store.compaction) = _
      simp only [hs, hm, hc, true_and]
      rfl
  case refine_4 =>
    intro free hroom
    obtain ⟨u, hu⟩ : ∃ u, u = s.setSupply .normal := ⟨_, rfl⟩
    have hrest : u.storeRestored = u.compactionTest.choose := by simp only [State.storeRestored, hu, State.setSupply, ho]
    by_cases hfew : free < s.store.reserve + 3
    · obtain ⟨hfill, hfit⟩ := hroom.resolve_left (by omega)
      obtain ⟨v, hv⟩ : ∃ v, v = u.compactionTest := ⟨_, rfl⟩
      have hvstore : v.store = { s.store with compaction := .requested .first } := by
        rw [hv, State.compactionTest_eq, hu]
        exact congrArg (fun c => ({ s.store with compaction := c } : Store)) (if_pos ⟨hs, hm, hc, hfew⟩)
      have hd : u.StoreDiffers v := by rw [hv]; exact (State.compactionTest_workStarts _).toStoreDiffers
      have hvfill : v.store.filling = none := by
        rw [Store.filling_eq_none_iff, hvstore]
        exact hfill
      have himage : imageGroup v.catalog.entries v.store.durable = imageGroup s.catalog.entries s.store.durable := by
        rw [hd.catalog, hvstore, hu]
        rfl
      have hchoose : v.choose = v.startCompaction .first := by
        refine State.choose_image hvfill (by rw [hvstore]; exact ho) (by rw [hd.catalog, hu]; exact hs) (by rw [hd.ctl, hu]; exact hr)
          (by rw [hvstore]) (by rw [hd.ctl, hu]; rfl) (by rw [hvstore]; exact hm) ?_
        rw [himage, Store.count_eq, hvstore]
        exact hfit
      rw [← hv, hchoose] at hrest
      rw [hu] at hrest
      obtain ⟨hop, hcomp, ⟨x, hx, -, hxm⟩, -⟩ := v.startCompaction_spec .first
      obtain ⟨t, ht, hctl, hA, hB, hstack, hcat, hcom, hnv, hstore⟩ :=
        exec_normalCrossing_storeOnly hr hw hrest (by rw [← hu]; exact hd.trans (State.startCompaction_workStarts _ _).toStoreDiffers)
      refine ⟨t, ht, hctl, hA, hB, hstack, hcat, hcom, hnv, fun h => absurd h (by omega), fun h => absurd h (by omega), fun _ => ?_⟩
      rw [hstore]
      exact ⟨hop, hcomp, x, hx, hxm.trans himage⟩
    · have htest : u.compactionTest = u := by
        rw [State.compactionTest, Store.count_eq, hu]
        exact if_neg (fun h => hfew h.2.2.2)
      have hchoose : u.choose = u.chooseErase := by
        rw [State.choose_nothingAsked (by rw [hu]; exact hp) (by rw [hu]; exact hc), hu]
        exact if_pos ⟨ho, hs, by simp [State.ready, State.setSupply, hr]⟩
      have hnone : u.store.compaction = .none := by rw [hu]; exact hc
      have hwork : u.WorkStarts u.chooseErase := State.chooseErase_workStarts fun b hb => by rw [hnone] at hb; cases hb
      have hspec := u.store.nextStale_spec
      rw [htest, hchoose] at hrest
      rw [hu] at hrest
      obtain ⟨t, ht, hctl, hA, hB, hstack, hcat, hcom, hnv, hstore⟩ :=
        exec_normalCrossing_storeOnly hr hw hrest (by rw [← hu]; exact hwork.toStoreDiffers)
      refine ⟨t, ht, hctl, hA, hB, hstack, hcat, hcom, hnv, fun _ hclean => ?_, fun _ hstale => ?_, fun h => absurd h hfew⟩
      · have hno : u.store.nextStale = none := (Store.nextStale_eq_none_iff _).mpr (by rw [hu]; exact hclean)
        rw [hstore, ← hu, State.chooseErase, hno, State.reclaim_none hnone, ite_self, hu]
        rfl
      · obtain ⟨j, hj⟩ : ∃ j, u.store.nextStale = some j := by
          rw [← Option.isSome_iff_exists, ← Option.ne_none_iff_isSome, Ne, Store.nextStale_eq_none_iff, hu]
          obtain ⟨x, hx, hxs⟩ := hstale
          exact fun hall => hall x hx hxs
        obtain ⟨x, hx, hxj, hxs⟩ := Store.nextStale_stale hj
        rw [hstore, ← hu, State.chooseErase_stale (by rw [hu]; rfl) hj, hu]
        rw [hu] at hx
        exact ⟨x, hx, hxs, rfl, by rw [hxj]; rfl, hc⟩
  case refine_5 =>
    refine ⟨_, exec_areaErase ha hj .clean mapOk, ?_⟩
    change (State.areaEraseEnds.erased s j).store = _
    rw [State.areaErased_eq, State.runTasks_waits (s := State.modStore _ _) (by exact ht) (by exact hw)]
    rfl
  case refine_6 =>
    obtain ⟨u, hu⟩ : ∃ u, u = s.setSupply .normal := ⟨_, rfl⟩
    have hrun : u.runTasks = u.modStore (fun st =>
        { st.modRec k (fun x => { x with role := .erasing }) with tasks := ts, arrayOp := .erase k }) :=
      State.runTasks_erase (by rw [hu]; exact ht) (by rw [hu]; rfl)
    have hrest : u.storeRestored = u.runTasks := by
      rcases ho with ho | ho
      · simp only [State.storeRestored, hu, State.setSupply, ho, ha, hg, and_self, if_true]
      · simp only [State.storeRestored, hu, State.setSupply, ho, ha, if_true]
    rw [hrun, hu] at hrest
    obtain ⟨t, htt, -, hA, hB, -, hcat, -, -, hstore⟩ :=
      exec_normalCrossing_storeOnly hr hw hrest (State.modStore_storeDiffers _ _ rfl rfl)
    rw [State.modStore_store] at hstore
    exact ⟨t, htt, by rw [hstore], by rw [hstore], by rw [hstore]; rfl, hcat, hA, hB⟩
  case refine_7 =>
    change execNormalCrossing s = _
    rw [execNormalCrossing, if_pos ⟨hh, hw⟩, State.recover, if_neg (by simpa [State.ready, State.setSupply] using hr)]
    rfl
  case refine_8 =>
    change execWarnCrossing s = _
    rw [execWarnCrossing, if_neg (fun h => by rw [hw] at h; cases h.2)]
  case refine_9 =>
    change execNormalCrossing s = _
    rw [execNormalCrossing, if_neg (fun h => by rw [hn] at h; cases h.2)]

end Sys2Proof.Machine
end

section
/-! SUPPORT. O55: the catalog area as it is read, and as the programs of SEAL leave it (R23, R102, R110). -/

namespace Sys2Proof.Machine

set_option Elab.async false

open Sys2Proof

/-! ### Reading the area (R110) -/

/-- The slot of a definition, or one that a definition before it takes. -/
def areaMark : Option Definition → AreaSlot
  | some d => .definition d
  | none => .more

/-- What stands before a close mark reads as its definitions. -/
theorem readDefinitions_iff (l : List AreaSlot) (ds : List Definition) (c : Nat) (k : Word32) :
    readDefinitions l = some (ds, c, k) ↔
      ∃ (marks : List (Option Definition)) (rest : List AreaSlot), marks.filterMap id = ds ∧
        l = marks.map areaMark ++ .closeMark c k :: rest := by
  induction l generalizing ds with
  | nil => simp [readDefinitions]
  | cons x r ih =>
    constructor
    · intro h
      cases x with
      | openMark b n => cases h
      | damaged => cases h
      | closeMark c' k' =>
        cases h
        exact ⟨[], r, rfl, rfl⟩
      | more =>
        obtain ⟨marks, rest, hm, rfl⟩ := (ih ds).mp h
        exact ⟨none :: marks, rest, hm, rfl⟩
      | definition d =>
        rw [readDefinitions] at h
        cases hr : readDefinitions r with
        | none => rw [hr] at h; cases h
        | some p =>
          obtain ⟨ds', c', k'⟩ := p
          rw [hr] at h
          cases h
          obtain ⟨marks, rest, hm, rfl⟩ := (ih ds').mp hr
          exact ⟨some d :: marks, rest, by rw [← hm]; rfl, rfl⟩
    · rintro ⟨marks, rest, hm, hl⟩
      cases marks with
      | nil =>
        obtain ⟨rfl, rfl⟩ := List.cons_eq_cons.mp hl
        rw [← hm]
        rfl
      | cons m marks =>
        obtain ⟨rfl, hr⟩ := List.cons_eq_cons.mp hl
        cases m with
        | none => exact (ih ds).mpr ⟨marks, rest, hm, hr⟩
        | some d =>
          have hread := (ih (marks.filterMap id)).mpr ⟨marks, rest, rfl, hr⟩
          rw [areaMark, readDefinitions, hread, ← hm]
          rfl

/-- A valid area: an open mark, the definitions, and a close mark whose count and check agree (R110). -/
theorem NonVol.readArea_iff (nv : NonVol) (a : AreaRead) : nv.readArea = some a ↔
    ∃ (marks : List (Option Definition)) (rest : List AreaSlot), marks.filterMap id = a.definitions ∧
      nv.areaSlots = .openMark a.setup a.base :: (marks.map areaMark ++
        .closeMark a.definitions.length (areaCheck a.setup a.base a.definitions) :: rest) := by
  constructor
  · intro h
    rw [NonVol.readArea] at h
    split at h
    case h_2 => cases h
    case h_1 setup base r hslots =>
      split at h
      case h_2 => cases h
      case h_1 ds c k hread =>
        split at h
        case isFalse => cases h
        case isTrue hck =>
          cases h
          obtain ⟨marks, rest, hm, hr⟩ := (readDefinitions_iff _ _ _ _).mp hread
          exact ⟨marks, rest, hm, by rw [hslots, hr, hck.1, hck.2]⟩
  · rintro ⟨marks, rest, hm, hslots⟩
    have hread := (readDefinitions_iff _ a.definitions a.definitions.length (areaCheck a.setup a.base a.definitions)).mpr
      ⟨marks, rest, hm, rfl⟩
    rw [NonVol.readArea, hslots]
    dsimp only
    rw [hread]
    exact if_pos ⟨rfl, rfl⟩

/-! ### The area programmed slot by slot (R102) -/

/-- A slot programmed in a sector of the area after which no other holds any stands at the end of the content. -/
theorem NonVol.appendArea_areaSlots {nv : NonVol} (hsec : nv.area.map (fun z => z.sector) = [0, 1, 2, 3]) {k : Nat} (hk : k < 4)
    (hlater : ∀ z ∈ nv.area, k < z.sector → z.content = []) (d : AreaSlot) :
    (nv.appendArea k d).areaSlots = nv.areaSlots ++ [d] := by
  obtain ⟨z0, z1, z2, z3, harea⟩ : ∃ z0 z1 z2 z3, nv.area = [z0, z1, z2, z3] := by
    have hlen : nv.area.length = 4 := by simpa using congrArg List.length hsec
    exact List.length_eq_four.mp hlen
  rw [harea] at hsec hlater
  obtain ⟨h0, h1, h2, h3⟩ : z0.sector = 0 ∧ z1.sector = 1 ∧ z2.sector = 2 ∧ z3.sector = 3 := by simpa using hsec
  rw [NonVol.areaSlots, NonVol.appendArea, NonVol.modArea, NonVol.areaSlots, harea]
  interval_cases k <;> simp_all

theorem NonVol.appendArea_sectors (nv : NonVol) (k : Nat) (d : AreaSlot) :
    (nv.appendArea k d).area.map (fun z => z.sector) = nv.area.map (fun z => z.sector) := by
  rw [NonVol.appendArea, NonVol.modArea, List.map_map]
  refine List.map_congr_left fun z _ => ?_
  dsimp only [Function.comp]
  split <;> rfl

/-- Slots programmed in their order, 255 to a sector, follow each other in the area. -/
theorem NonVol.appendArea_all (ds : List AreaSlot) (i : Nat) (nv : NonVol) (hsec : nv.area.map (fun z => z.sector) = [0, 1, 2, 3])
    (hlater : ∀ z ∈ nv.area, i / 255 < z.sector → z.content = []) (hlen : i + ds.length ≤ 1020) :
    ((ds.zipIdx i).foldl (fun nv d => nv.appendArea (d.2 / 255) d.1) nv).areaSlots = nv.areaSlots ++ ds ∧
    ((ds.zipIdx i).foldl (fun nv d => nv.appendArea (d.2 / 255) d.1) nv).retireMap = nv.retireMap ∧
    ((ds.zipIdx i).foldl (fun nv d => nv.appendArea (d.2 / 255) d.1) nv).ring = nv.ring := by
  induction ds generalizing i nv with
  | nil => simp
  | cons d ds ih =>
    rw [List.length_cons] at hlen
    have hk : i / 255 < 4 := by omega
    have hnext : ∀ z ∈ (nv.appendArea (i / 255) d).area, (i + 1) / 255 < z.sector → z.content = [] := by
      intro z hz hlt
      obtain ⟨y, hy, rfl⟩ := List.mem_map.mp hz
      have hle : i / 255 ≤ (i + 1) / 255 := Nat.div_le_div_right (by omega)
      split at hlt
      · rename_i hyk
        rw [show ({ y with content := y.content ++ [d] } : AreaSector).sector = y.sector from rfl] at hlt
        omega
      · rename_i hyk
        rw [if_neg hyk]
        exact hlater y hy (by omega)
    obtain ⟨hslots, hmap, hring⟩ := ih (i + 1) (nv.appendArea (i / 255) d) (by rw [NonVol.appendArea_sectors, hsec]) hnext (by omega)
    rw [List.zipIdx_cons, List.foldl_cons]
    refine ⟨?_, hmap, hring⟩
    rw [hslots, NonVol.appendArea_areaSlots hsec hk hlater, List.append_assoc]
    rfl

/-! ### The programs of the area one after another -/

/-- The initial image begins beside the array. -/
theorem State.runTasks_image_nv {s : State} {a : Attempt} {ts : List Task} (ht : s.store.tasks = .image a :: ts) :
    s.runTasks.nv = s.nv := by
  rw [State.runTasks, ht]
  change (if s.ctl.supply = .warn then s else s.beginInitialImage a).nv = s.nv
  split
  · rfl
  · unfold State.beginInitialImage
    split
    · exact (State.programNext_workStarts _).nv
    · unfold State.sealFails
      split
      · rw [State.refuse_nv]
        rfl
      · rfl

theorem execAll_replicate_succ {c : Instr} {s t : State} (n : Nat) (h : exec c s = .next t) :
    execAll (List.replicate (n + 1) c) s = execAll (List.replicate n c) t := by
  rw [List.replicate_succ, execAll, h]

/-- The slots of the area are programmed in their order. -/
theorem execAll_areaSlots (mapOk : Bool) (ds : List (AreaSlot × Nat)) (s : State) (k : Nat) (d : AreaSlot) {a : Attempt}
    (ha : s.store.arrayOp = .areaSlot k d)
    (ht : s.store.tasks = ds.map (fun d => .areaSlot (d.2 / 255) d.1) ++ [.image a]) :
    ∃ t, execAll (List.replicate (ds.length + 1) (.slotProgramDone true mapOk)) s = .next t ∧
      t.nv = ds.foldl (fun nv d => nv.appendArea (d.2 / 255) d.1) (s.nv.appendArea k d) := by
  induction ds generalizing s k d with
  | nil =>
    refine ⟨_, by rw [List.length_nil, execAll_replicate_succ 0 (exec_areaSlot ha mapOk)]; rfl, ?_⟩
    rw [State.runTasks_image_nv (a := a) (ts := []) (by exact ht)]
    rfl
  | cons e ds ih =>
    obtain ⟨u, hu⟩ : ∃ u, u = ({ s with nv := s.nv.appendArea k d } : State).modStore (fun st => { st with arrayOp := .none }) :=
      ⟨_, rfl⟩
    have hrun : u.runTasks = u.modStore (fun st => { st with
        tasks := ds.map (fun d => .areaSlot (d.2 / 255) d.1) ++ [.image a], arrayOp := .areaSlot (e.2 / 255) e.1 }) :=
      State.runTasks_area (by rw [hu]; exact ht) (.inr ⟨_, _, rfl, rfl⟩)
    obtain ⟨t, hexec, hnv⟩ := ih u.runTasks (e.2 / 255) e.1 (by rw [hrun]; rfl) (by rw [hrun]; rfl)
    refine ⟨t, ?_, ?_⟩
    · rw [List.length_cons, execAll_replicate_succ _ (exec_areaSlot ha mapOk), ← hu]
      exact hexec
    · rw [hnv, hrun, hu]
      rfl

/-- The header of a sector of the area, with another header or slot to follow. -/
theorem execAll_areaHeader {s : State} {k : Nat} {task : Task} {op : ArrayOp} {ts : List Task} (mapOk : Bool)
    (ha : s.store.arrayOp = .areaHeader k) (ht : s.store.tasks = task :: ts)
    (h : (∃ j, task = .areaHeader j ∧ op = .areaHeader j) ∨ (∃ j d, task = .areaSlot j d ∧ op = .areaSlot j d)) :
    ∃ u : State, (∀ n, execAll (List.replicate (n + 1) (.slotProgramDone true mapOk)) s =
        execAll (List.replicate n (.slotProgramDone true mapOk)) u) ∧
      u.store.arrayOp = op ∧ u.store.tasks = ts ∧ u.store.table = s.store.table ∧
      u.nv.area.map (fun z => (z.sector, z.content)) = s.nv.area.map (fun z => (z.sector, z.content)) ∧ u.nv.ring = s.nv.ring ∧
      u.nv.retireMap = if k = 0 then (s.store.table.filter (fun x => decide (x.role = .retired))).map (fun x => x.sector)
        else s.nv.retireMap := by
  have hexec := exec_areaHeader ha mapOk
  rw [State.runTasks_area (s := State.modStore _ _) (by exact ht) h, State.headerProgrammed_true] at hexec
  refine ⟨_, fun n => execAll_replicate_succ n hexec, rfl, rfl, rfl, ?_, rfl, rfl⟩
  change (s.nv.area.map _).map _ = _
  rw [List.map_map]
  refine List.map_congr_left fun z _ => ?_
  dsimp only [Function.comp]
  split <;> rfl

/-! ### The scan loads the definitions (R23, R110) -/

theorem insertEntry_mem {e y : Entry} {es : List Entry} (h : y ∈ es) : y ∈ insertEntry e es := by
  induction es with
  | nil => cases h
  | cons x xs ih =>
    unfold insertEntry
    split
    · exact List.mem_cons_of_mem e h
    · split
      · exact h
      · rcases List.mem_cons.mp h with rfl | h
        · exact List.mem_cons_self
        · exact List.mem_cons_of_mem x (ih h)

theorem insertEntry_hasId (e : Entry) (es : List Entry) : ∃ y ∈ insertEntry e es, y.defn.id = e.defn.id := by
  induction es with
  | nil => exact ⟨e, List.mem_singleton_self e, rfl⟩
  | cons x xs ih =>
    unfold insertEntry
    split
    · exact ⟨e, List.mem_cons_self, rfl⟩
    · split
      · rename_i heq
        exact ⟨x, List.mem_cons_self, heq.symm⟩
      · obtain ⟨y, hy, hid⟩ := ih
        exact ⟨y, List.mem_cons_of_mem x hy, hid⟩

/-- Each definition is loaded under its id, and each entry loaded is one of them or stood there before. -/
theorem loaded_spec (ds : List Definition) (es : List Entry) :
    (∀ e ∈ ds.foldl (fun es d => insertEntry { defn := d, live := none } es) es, e ∈ es ∨ e.live = none ∧ e.defn ∈ ds) ∧
    (∀ e ∈ es, e ∈ ds.foldl (fun es d => insertEntry { defn := d, live := none } es) es) ∧
    (∀ d ∈ ds, ∃ e ∈ ds.foldl (fun es d => insertEntry { defn := d, live := none } es) es, e.defn.id = d.id) := by
  induction ds generalizing es with
  | nil => exact ⟨fun e he => .inl he, fun e he => he, nofun⟩
  | cons d ds ih =>
    obtain ⟨hfrom, hkept, hids⟩ := ih (insertEntry { defn := d, live := none } es)
    rw [List.foldl_cons]
    refine ⟨fun e he => ?_, fun e he => hkept e (insertEntry_mem he), fun x hx => ?_⟩
    · rcases hfrom e he with he | ⟨hlive, hmem⟩
      · rcases mem_insertEntry he with rfl | he
        · exact .inr ⟨rfl, List.mem_cons_self⟩
        · exact .inl he
      · exact .inr ⟨hlive, List.mem_cons_of_mem d hmem⟩
    · rcases List.mem_cons.mp hx with rfl | hx
      · obtain ⟨y, hy, hid⟩ := insertEntry_hasId { defn := x, live := none } es
        exact ⟨y, hkept y hy, hid⟩
      · exact hids x hx

theorem exec_scanEnd {s : State} (h : s.ctl.start = .scanning) : exec .scanEnd s = .next s.scanned := by
  change execScanEnd s = _
  rw [execScanEnd, if_pos h]

/-- The content of the area has its definitions as marks. -/
theorem areaContent_marks (ds : List Definition) :
    ∃ marks : List (Option Definition), marks.filterMap id = ds ∧
      ds.flatMap (fun d => AreaSlot.definition d :: List.replicate (d.shape.areaSlots - 1) .more) = marks.map areaMark := by
  refine ⟨ds.flatMap (fun d => some d :: List.replicate (d.shape.areaSlots - 1) none), ?_, ?_⟩
  · induction ds with
    | nil => rfl
    | cons d ds ih =>
      rw [List.flatMap_cons, List.filterMap_append, ih, List.filterMap_cons]
      simp
  · rw [List.map_flatMap]
    simp [areaMark]

/-- Settles O55: HELD is left, the scan with a valid area and without, what a valid area is, and the area that SEAL programs. -/
theorem heldExitAndScanFindTheCatalog : Obligations.HeldExitAndScanFindTheCatalog := by
  refine ⟨fun vdd s hh hv => ?_, fun s a hs ha => ?_, fun s hs ha => ?_, fun nv a => ?_, ?_⟩
  case refine_1 =>
    change execHeldExit vdd s = _
    rw [execHeldExit, if_pos ⟨hh, hv⟩]
    rfl
  case refine_2 =>
    have hscan : s.scanned = { s with
        catalog := Catalog.loaded a
        store := { s.store with reserve := imageReserve (Catalog.loaded a).entries }
        ctl := { s.ctl with start := .replaying } } := by
      rw [State.scanned, ha]
    obtain ⟨hfrom, -, hids⟩ := loaded_spec a.definitions []
    refine ⟨_, exec_scanEnd hs, ?_⟩
    rw [hscan]
    exact ⟨rfl, rfl, rfl, rfl, rfl, fun e he => (hfrom e he).resolve_left (by simp), hids, rfl⟩
  case refine_3 =>
    rw [exec_scanEnd hs, State.scanned, ha]
    rfl
  case refine_4 => exact nv.readArea_iff a
  case refine_5 =>
    intro s setup base ds mapOk slots hlen harea hop htasks
    obtain ⟨cs, hcs⟩ : ∃ cs, slots = .openMark setup base :: cs := ⟨_, rfl⟩
    rw [hcs, List.zipIdx_cons, List.map_cons] at htasks
    obtain ⟨u1, hrun1, hop1, ht1, htab1, harea1, hring1, hmap1⟩ := execAll_areaHeader mapOk hop htasks (.inl ⟨1, rfl, rfl⟩)
    obtain ⟨u2, hrun2, hop2, ht2, htab2, harea2, hring2, hmap2⟩ := execAll_areaHeader mapOk hop1 ht1 (.inl ⟨2, rfl, rfl⟩)
    obtain ⟨u3, hrun3, hop3, ht3, htab3, harea3, hring3, hmap3⟩ := execAll_areaHeader mapOk hop2 ht2 (.inl ⟨3, rfl, rfl⟩)
    obtain ⟨u, hrun, hop, ht, htab, harea', hring, hmap⟩ := execAll_areaHeader mapOk hop3 ht3 (.inr ⟨_, _, rfl, rfl⟩)
    obtain ⟨t, hexec, hnv⟩ := execAll_areaSlots mapOk (cs.zipIdx (0 + 1)) u _ _ hop ht
    have hcontent : u.nv.area.map (fun z => (z.sector, z.content)) = [(0, []), (1, []), (2, []), (3, [])] := by
      rw [harea', harea3, harea2, harea1, harea]
    have hsec : u.nv.area.map (fun z => z.sector) = [0, 1, 2, 3] := by
      have h := congrArg (List.map Prod.fst) hcontent
      rwa [List.map_map] at h
    have hempty : ∀ z ∈ u.nv.area, z.content = [] := by
      intro z hz
      have hmem : (z.sector, z.content) ∈ u.nv.area.map (fun z => (z.sector, z.content)) := List.mem_map.mpr ⟨z, hz, rfl⟩
      rw [hcontent] at hmem
      simp only [List.mem_cons, Prod.mk.injEq, List.not_mem_nil, or_false] at hmem
      rcases hmem with h | h | h | h <;> exact h.2
    have hnone : u.nv.areaSlots = [] := by
      rw [NonVol.areaSlots, List.flatMap_eq_nil_iff]
      exact hempty
    obtain ⟨hslots, hretire, hringt⟩ := u.nv.appendArea_all slots 0 hsec (fun z hz _ => hempty z hz) (by omega)
    rw [hcs, List.zipIdx_cons, List.foldl_cons] at hslots hretire hringt
    rw [← hnv] at hslots hretire hringt
    refine ⟨t, ?_, ?_, ?_, ?_⟩
    · rw [hcs, List.length_cons, show 4 + (cs.length + 1) = (cs.length + 1) + 1 + 1 + 1 + 1 by omega, hrun1, hrun2, hrun3, hrun]
      rwa [List.length_zipIdx] at hexec
    · obtain ⟨marks, hm, hmarks⟩ := areaContent_marks ds
      refine (t.nv.readArea_iff _).mpr ⟨marks, [], hm, ?_⟩
      rw [hslots, hnone, ← hcs, ← hmarks]
      rfl
    · rw [hretire, hmap, hmap3, hmap2, hmap1]
      rfl
    · rw [hringt, hring, hring3, hring2, hring1]

end Sys2Proof.Machine
end

section
/-! SUPPORT. O57: the roles that cleanup gives, the START record, and the store's first choice (R117 to R120). -/

namespace Sys2Proof.Machine

set_option Elab.async false

open Sys2Proof

/-! ### The classes of Table 6.3 and the roles of R117 -/

/-- A ring sector that counts as retired: named in the retire map, or at the erase limit. -/
def NonVol.HoldsRetired (nv : NonVol) (z : RingSector) : Prop := z.sector ∈ nv.retireMap ∨ z.eraseCount = .val 100000

/-- A ring sector that is half erased or half opened. -/
def RingSector.Half (z : RingSector) : Prop :=
  z.eraseCount = .blank ∨ z.eraseCount = .torn ∨ z.generation = .torn ∨ (z.generation = .blank ∧ z.content ≠ [])

theorem NonVol.classify_retired_iff (nv : NonVol) (z : RingSector) : nv.classify z = .retired ↔ nv.HoldsRetired z := by
  by_cases hr : nv.HoldsRetired z
  · exact iff_of_true (if_pos hr) hr
  · refine iff_of_false (fun h => ?_) hr
    rw [NonVol.classify, if_neg (by exact hr)] at h
    split at h <;> try cases h
    split at h <;> try cases h
    split at h <;> cases h

section
variable {nv : NonVol} {z : RingSector} (hr : ¬ nv.HoldsRetired z)
include hr

theorem NonVol.classify_half (hh : z.Half) : nv.classify z = .halfErased ∨ nv.classify z = .halfOpened := by
  rw [NonVol.classify, if_neg (by exact hr)]
  cases hc : z.eraseCount with
  | blank => exact .inl rfl
  | torn => exact .inl rfl
  | val n =>
    dsimp only
    cases hg : z.generation with
    | torn => exact .inr rfl
    | blank =>
      have hcontent : z.content ≠ [] := by simpa [RingSector.Half, hc, hg] using hh
      exact .inl (if_neg hcontent)
    | val g => simp [RingSector.Half, hc, hg] at hh

theorem NonVol.classify_free (hh : ¬ z.Half) (hg : z.generation = .blank) : nv.classify z = .free := by
  obtain ⟨hblank, htorn, -, hcontent⟩ : z.eraseCount ≠ .blank ∧ z.eraseCount ≠ .torn ∧ z.generation ≠ .torn ∧
      (z.generation = .blank → z.content = []) := by simpa [RingSector.Half] using hh
  rw [NonVol.classify, if_neg (by exact hr)]
  cases hc : z.eraseCount with
  | blank => exact absurd hc hblank
  | torn => exact absurd hc htorn
  | val n =>
    dsimp only
    rw [hg]
    exact if_pos (hcontent hg)

theorem NonVol.classify_opened (hh : ¬ z.Half) {g : Nat} (hg : z.generation = .val g) : nv.classify z = .opened := by
  obtain ⟨hblank, htorn, -, -⟩ : z.eraseCount ≠ .blank ∧ z.eraseCount ≠ .torn ∧ z.generation ≠ .torn ∧
      (z.generation = .blank → z.content = []) := by simpa [RingSector.Half] using hh
  rw [NonVol.classify, if_neg (by exact hr)]
  cases hc : z.eraseCount with
  | blank => exact absurd hc hblank
  | torn => exact absurd hc htorn
  | val n =>
    dsimp only
    rw [hg]

end

theorem NonVol.classify_free_iff (nv : NonVol) (z : RingSector) : nv.classify z = .free ↔
    ¬ nv.HoldsRetired z ∧ z.eraseCount ≠ .blank ∧ z.eraseCount ≠ .torn ∧ z.generation = .blank ∧ z.content = [] := by
  constructor
  · intro h
    have hr : ¬ nv.HoldsRetired z := fun hr => by
      rw [(nv.classify_retired_iff z).mpr hr] at h
      cases h
    have hh : ¬ z.Half := fun hh => by
      rcases nv.classify_half hr hh with hc | hc <;> rw [hc] at h <;> cases h
    obtain ⟨hblank, htorn, hgt, hcontent⟩ : z.eraseCount ≠ .blank ∧ z.eraseCount ≠ .torn ∧ z.generation ≠ .torn ∧
        (z.generation = .blank → z.content = []) := by simpa [RingSector.Half] using hh
    cases hg : z.generation with
    | blank => exact ⟨hr, hblank, htorn, rfl, hcontent hg⟩
    | torn => exact absurd hg hgt
    | val g =>
      rw [nv.classify_opened hr hh hg] at h
      cases h
  · rintro ⟨hr, hblank, htorn, hg, hcontent⟩
    exact nv.classify_free hr (by simp [RingSector.Half, hblank, htorn, hg, hcontent]) hg

/-- The role that cleanup gives a class of sector, given that of an opened one (R117). -/
def SectorClass.role (opened : Role) : SectorClass → Role
  | .retired => .retired
  | .free => .free
  | .halfErased => .stale
  | .halfOpened => .stale
  | .opened => opened

/-- An opened sector that keeps its groups (R117). -/
def ReplayResult.Keeps (r : ReplayResult) (z : RingSector) (g : Nat) : Prop :=
  (∃ ig, r.imageGeneration = some ig ∧ ig ≤ g) ∧ z.sector ∉ r.skipped ∧ z.sector ∉ r.later ∧ z.content ≠ []

theorem openedRole_eq (r : ReplayResult) (z : RingSector) (g : Nat) :
    (r.Keeps z g → openedRole r z.sector g z.content = .full) ∧ (¬ r.Keeps z g → openedRole r z.sector g z.content = .stale) := by
  unfold openedRole ReplayResult.Keeps
  cases r.imageGeneration with
  | none => simp
  | some ig =>
    by_cases hlt : g < ig
    · simp [hlt]
    · by_cases hs : z.sector ∈ r.skipped
      · simp [hlt, hs]
      · by_cases hl : z.sector ∈ r.later ∨ z.content = []
        · refine ⟨fun ⟨_, _, hnl, hnc⟩ => absurd hl (by simp [hnl, hnc]), fun _ => ?_⟩
          simp [hlt, hs, hl]
        · refine ⟨fun _ => by simp [hlt, hs, hl], fun hno => absurd ?_ hno⟩
          exact ⟨⟨ig, rfl, not_lt.mp hlt⟩, hs, fun h => hl (.inl h), fun h => hl (.inr h)⟩

theorem openedRole_fullOrStale (r : ReplayResult) (z : RingSector) (g : Nat) :
    openedRole r z.sector g z.content = .full ∨ openedRole r z.sector g z.content = .stale := by
  by_cases h : r.Keeps z g
  · exact .inl ((openedRole_eq r z g).1 h)
  · exact .inr ((openedRole_eq r z g).2 h)

/-- The role of a sector if it is opened. -/
def ReplayResult.roleIfOpened (r : ReplayResult) (z : RingSector) : Role :=
  match z.generation with
  | .val g => openedRole r z.sector g z.content
  | .blank => .stale
  | .torn => .stale

theorem NonVol.cleanRec_spec (nv : NonVol) (r : ReplayResult) (z : RingSector) : (nv.cleanRec r z).sector = z.sector ∧
    (nv.cleanRec r z).role = (nv.classify z).role (r.roleIfOpened z) := by
  unfold NonVol.cleanRec ReplayResult.roleIfOpened
  cases nv.classify z with
  | opened => cases z.generation <;> exact ⟨rfl, rfl⟩
  | retired => exact ⟨rfl, rfl⟩
  | free => exact ⟨rfl, rfl⟩
  | halfErased => exact ⟨rfl, rfl⟩
  | halfOpened => exact ⟨rfl, rfl⟩

theorem ReplayResult.roleIfOpened_fullOrStale (r : ReplayResult) (z : RingSector) :
    r.roleIfOpened z = .full ∨ r.roleIfOpened z = .stale := by
  unfold ReplayResult.roleIfOpened
  split
  · exact openedRole_fullOrStale r z _
  · exact .inr rfl
  · exact .inr rfl

theorem NonVol.emptyRec_spec (nv : NonVol) (z : RingSector) : (nv.emptyRec z).sector = z.sector ∧
    (nv.emptyRec z).role = (nv.classify z).role .stale := by
  unfold NonVol.emptyRec
  cases nv.classify z <;> exact ⟨rfl, rfl⟩

/-- The role of a ring sector after cleanup (R117). -/
def NonVol.RoleIs (nv : NonVol) (isSealed : Prop) (r : ReplayResult) (z : RingSector) (x : Role) : Prop :=
  (nv.HoldsRetired z → x = .retired) ∧ (¬ nv.HoldsRetired z → z.Half → x = .stale) ∧
  (¬ nv.HoldsRetired z → ¬ z.Half → z.generation = .blank → x = .free) ∧
  (¬ nv.HoldsRetired z → ¬ z.Half → ∀ g, z.generation = .val g →
    (isSealed ∧ r.Keeps z g → x = .full) ∧ (¬ (isSealed ∧ r.Keeps z g) → x = .stale))

theorem NonVol.roleIs_of_class {nv : NonVol} {isSealed : Prop} {r : ReplayResult} {z : RingSector} {x o : Role}
    (hx : x = (nv.classify z).role o)
    (ho : ∀ g, z.generation = .val g → (isSealed ∧ r.Keeps z g → o = .full) ∧ (¬ (isSealed ∧ r.Keeps z g) → o = .stale)) :
    nv.RoleIs isSealed r z x := by
  refine ⟨fun hr => ?_, fun hr hh => ?_, fun hr hh hg => ?_, fun hr hh g hg => ?_⟩
  · rw [hx, (nv.classify_retired_iff z).mpr hr]
    rfl
  · rcases nv.classify_half hr hh with h | h <;> rw [hx, h] <;> rfl
  · rw [hx, nv.classify_free hr hh hg]
    rfl
  · rw [hx, nv.classify_opened hr hh hg]
    exact ho g hg

/-! ### The store as cleanup leaves it (R117, R118) -/

/-- The record of a ring sector after cleanup. -/
def State.recAtStart (s : State) (r : ReplayResult) (z : RingSector) : SectorRec :=
  if s.catalog.state = .sealed then s.nv.cleanRec r z else s.nv.emptyRec z

section
variable (s : State) (r : ReplayResult)

theorem State.cleanedStore_table : (s.cleanedStore r).table = s.nv.ring.map (s.recAtStart r) := by
  unfold State.cleanedStore
  by_cases hs : s.catalog.state = .sealed
  · rw [if_pos hs, show s.recAtStart r = s.nv.cleanRec r from funext fun z => if_pos hs]
    rfl
  · rw [if_neg hs, show s.recAtStart r = s.nv.emptyRec from funext fun z => if_neg hs]
    rfl

theorem State.recAtStart_spec (z : RingSector) : (s.recAtStart r z).sector = z.sector ∧
    ∃ o, (o = .full ∨ o = .stale) ∧ (s.recAtStart r z).role = (s.nv.classify z).role o ∧
      ∀ g, z.generation = .val g → (s.catalog.state = .sealed ∧ r.Keeps z g → o = .full) ∧
        (¬ (s.catalog.state = .sealed ∧ r.Keeps z g) → o = .stale) := by
  unfold State.recAtStart
  by_cases hs : s.catalog.state = .sealed
  · rw [if_pos hs]
    obtain ⟨hsec, hrole⟩ := s.nv.cleanRec_spec r z
    refine ⟨hsec, _, r.roleIfOpened_fullOrStale z, hrole, fun g hg => ?_⟩
    have ho : r.roleIfOpened z = openedRole r z.sector g z.content := by rw [ReplayResult.roleIfOpened, hg]
    obtain ⟨hkeep, hdrop⟩ := openedRole_eq r z g
    exact ⟨fun hk => ho.trans (hkeep hk.2), fun hk => ho.trans (hdrop fun h => hk ⟨hs, h⟩)⟩
  · rw [if_neg hs]
    obtain ⟨hsec, hrole⟩ := s.nv.emptyRec_spec z
    exact ⟨hsec, .stale, .inr rfl, hrole, fun g _ => ⟨fun h => absurd h.1 hs, fun _ => rfl⟩⟩

theorem State.recAtStart_roleIs (z : RingSector) : s.nv.RoleIs (s.catalog.state = .sealed) r z (s.recAtStart r z).role := by
  obtain ⟨-, o, -, hrole, ho⟩ := s.recAtStart_spec r z
  exact NonVol.roleIs_of_class hrole ho

/-- RETIRED and FREE are the classes of that name; nothing is FILLING. -/
theorem State.recAtStart_role (z : RingSector) : ((s.recAtStart r z).role = .retired ↔ s.nv.HoldsRetired z) ∧
    ((s.recAtStart r z).role = .free ↔ s.nv.classify z = .free) ∧ (s.recAtStart r z).role ≠ .filling := by
  obtain ⟨-, o, ho, hrole, -⟩ := s.recAtStart_spec r z
  rw [hrole, ← NonVol.classify_retired_iff]
  rcases ho with rfl | rfl <;> cases s.nv.classify z <;> simp [SectorClass.role]

theorem State.cleanedStore_filling : (s.cleanedStore r).filling = none := by
  rw [Store.filling_eq_none_iff, State.cleanedStore_table, List.forall_mem_map]
  exact fun z _ => (s.recAtStart_role r z).2.2

theorem State.cleanedStore_retired : (s.cleanedStore r).count .retired =
    (s.nv.ring.filter (fun z => decide (z.sector ∈ s.nv.retireMap ∨ z.eraseCount = .val 100000))).length := by
  rw [Store.count_eq, State.cleanedStore_table, List.filter_map, List.length_map]
  congr 1
  refine List.filter_congr fun z _ => ?_
  exact decide_eq_decide.mpr (s.recAtStart_role r z).1

theorem State.cleanedStore_free : (s.cleanedStore r).count .free = (s.nv.ring.filter (fun z => decide (
    ¬ (z.sector ∈ s.nv.retireMap ∨ z.eraseCount = .val 100000) ∧ z.eraseCount ≠ .blank ∧ z.eraseCount ≠ .torn ∧
      z.generation = .blank ∧ z.content = []))).length := by
  rw [Store.count_eq, State.cleanedStore_table, List.filter_map, List.length_map]
  congr 1
  refine List.filter_congr fun z _ => ?_
  exact decide_eq_decide.mpr ((s.recAtStart_role r z).2.1.trans (s.nv.classify_free_iff z))

/-- Usable are the sectors of the ring that are not RETIRED. -/
theorem State.cleanedStore_usable : (s.cleanedStore r).usable + (s.cleanedStore r).count .retired = s.nv.ring.length := by
  rw [Store.usable_eq, Store.count_eq, ← s.nv.ring.length_map (f := s.recAtStart r), ← State.cleanedStore_table, add_comm,
    List.length_eq_length_filter_add (l := (s.cleanedStore r).table) (fun x => decide (x.role = .retired))]
  congr 2
  refine List.filter_congr fun x _ => ?_
  simp

end

/-- The sector opened last after a start has the highest generation; there is none where no sector has one (R118). -/
theorem Store.newestOpened_spec (st : Store) : match st.newestOpened with
    | some k => ∃ y ∈ st.table, ∃ g, y.sector = k ∧ y.generation = some g ∧ ∀ x ∈ st.table, ∀ h, x.generation = some h → h ≤ g
    | none => ∀ x ∈ st.table, x.generation = none := by
  have hspec := st.highestGeneration_spec
  unfold Store.newestOpened
  cases hg : st.highestGeneration with
  | none =>
    rw [hg] at hspec
    rw [List.find?_eq_none.mpr fun x hx => by simp [hspec x hx]]
    exact hspec
  | some g =>
    rw [hg] at hspec
    obtain ⟨⟨x, hx, hxg⟩, hmax⟩ := hspec
    cases hf : st.table.find? (fun x => x.generation.isSome && x.generation == some g) with
    | none =>
      have := List.find?_eq_none.mp hf x hx
      simp [hxg] at this
    | some y =>
      have hy := List.find?_some hf
      have hyg : y.generation = some g := by simp only [Bool.and_eq_true, beq_iff_eq] at hy; exact hy.2
      exact ⟨y, List.mem_of_find?_eq_some hf, g, rfl, hyg, hmax⟩

end Sys2Proof.Machine
end

section
/-! SUPPORT. O57: the store's first choice after a start, and the START record (R118 to R120). -/

namespace Sys2Proof.Machine

set_option Elab.async false

open Sys2Proof

/-! ### A choice with no append pending (R88, R119) -/

/-- With no append pending the store rests, erases, begins a requested image, or enters READ_ONLY for one that does not fit. -/
theorem State.choose_cases {s : State} (hp : s.store.pend = none) : s.choose = s ∨
    (s.store.operation = .idle ∧ s.catalog.state = .sealed) ∧
      ((s.ctl.supply = .normal ∧ ∃ j, s.store.nextStale = some j ∧ s.choose = s.startErase j) ∨
       (s.ctl.supply = .normal ∧ ∃ b, s.store.compaction = .requested b ∧ s.choose = s.startCompaction b) ∨
       ∃ b, s.store.compaction = .requested b ∧ s.choose = (s.modStore (fun st =>
         { st with compaction := .none, mode := .readOnly })).noticeBoth (.storeReadOnly (s.store.count .retired))) := by
  have hreclaim : s.reclaim = s ∨ ∃ b, s.store.compaction = .requested b ∧ s.reclaim = (s.modStore (fun st =>
      { st with compaction := .none, mode := .readOnly })).noticeBoth (.storeReadOnly (s.store.count .retired)) := by
    unfold State.reclaim
    split
    · rename_i b hb
      split
      · refine .inr ⟨b, hb, ?_⟩
        rw [State.enterReadOnly_none (by exact hp)]
        rfl
      · exact .inl rfl
    · exact .inl rfl
    · exact .inl rfl
  have herase : s.chooseErase = s ∨ (s.ctl.supply = .normal ∧ ∃ j, s.store.nextStale = some j ∧ s.chooseErase = s.startErase j) ∨
      ∃ b, s.store.compaction = .requested b ∧ s.chooseErase = (s.modStore (fun st =>
        { st with compaction := .none, mode := .readOnly })).noticeBoth (.storeReadOnly (s.store.count .retired)) := by
    unfold State.chooseErase
    split
    · rename_i hn
      split
      · rename_i j hj
        exact .inr (.inl ⟨hn, j, hj, rfl⟩)
      · exact hreclaim.imp_right .inr
    · exact hreclaim.imp_right .inr
  rw [State.choose_eq]
  split
  case isFalse => exact .inl rfl
  case isTrue hready =>
    obtain ⟨ho, hs, -⟩ := hready
    rw [State.roomAsked_none hp, State.chooseStart_none hp]
    unfold State.chooseWork
    split
    · rename_i b hb
      split
      · rename_i hfit
        exact .inr ⟨⟨ho, hs⟩, .inr (.inl ⟨hfit.2.1, b, hb, rfl⟩)⟩
      · exact herase.imp_right fun h => ⟨⟨ho, hs⟩, h.imp_right .inr⟩
    · exact herase.imp_right fun h => ⟨⟨ho, hs⟩, h.imp_right .inr⟩
    · exact herase.imp_right fun h => ⟨⟨ho, hs⟩, h.imp_right .inr⟩

/-- What such a choice leaves of the store, where nothing is FILLING: the table and the array's operation, the restart note and the
sector opened last, compaction and mode, and the debt of an image. -/
structure State.FirstChoice (s t : State) : Prop where
  owed : t.store.imageOwed = s.store.imageOwed
  work : (t.store.arrayOp = s.store.arrayOp ∧ t.store.table = s.store.table) ∨
    (s.catalog.state = .sealed ∧ s.ctl.supply = .normal) ∧
      ((∃ j, (∃ x ∈ s.store.table, x.sector = j ∧ x.role = .stale) ∧ t.store.arrayOp = .erase j ∧
          t.store.table = (s.store.modRec j (fun x => { x with role := .erasing })).table) ∨
       (∃ j n b, (∃ x ∈ s.store.table, x.sector = j ∧ x.role = .free) ∧ t.store.arrayOp = .header j n s.store.restartNote ∧
          s.store.compaction = .requested b ∧ t.store.compaction = .running b ∧
          t.store.table = (s.store.modRec j (fun x => { x with role := .filling, generation := some n, used := 1 })).table))
  note : (∀ k g f, t.store.arrayOp ≠ .header k g f) →
    t.store.restartNote = s.store.restartNote ∧ t.store.openedLast = s.store.openedLast
  asked : (t.store.compaction = s.store.compaction ∧ t.store.mode = s.store.mode) ∨
    ∃ b, s.store.compaction = .requested b ∧
      (t.store.compaction = .running b ∨ (t.store.compaction = .none ∧ t.store.mode = .readOnly))

theorem State.programNext_begins {s : State} {g : GroupWrite} {c : Slot} {more : List Slot} (hg : s.store.writing = some g)
    (hm : g.remaining = c :: more) (hfill : s.store.filling = none) :
    (∃ j, s.store.nextFree = some j ∧ s.programNext = s.openSector g j) ∨ s.programNext = s := by
  cases hj : s.store.nextFree with
  | some j => exact .inl ⟨j, rfl, State.programNext_opens hg hm hfill hj⟩
  | none =>
    refine .inr ?_
    rw [State.programNext, hg]
    dsimp only
    rw [hm]
    dsimp only
    rw [hfill]
    dsimp only
    rw [hj]

theorem State.startCompaction_firstChoice {s : State} {b : Attempt} (hfill : s.store.filling = none) (hs : s.catalog.state = .sealed)
    (hn : s.ctl.supply = .normal) (hb : s.store.compaction = .requested b) : s.FirstChoice (s.startCompaction b) := by
  obtain ⟨more, hmore⟩ := groupSlots_eq_cons .image s.store.durable (imageChanges s.catalog.entries)
  rw [State.startCompaction_eq]
  obtain ⟨v, hv⟩ : ∃ v, v = s.modStore (fun st => { st.imagePlace b with
    operation := .compacting, compaction := .running b
    writing := some (.fresh .image b (imageGroup s.catalog.entries st.durable)) }) := ⟨_, rfl⟩
  have hstore : v.store = { s.store with
      operation := .compacting, compaction := .running b
      writing := some (.fresh .image b (imageGroup s.catalog.entries s.store.durable)) } := by
    rw [hv, State.modStore_store, Store.imagePlace_noFilling hfill]
  rw [← hv]
  rcases State.programNext_begins (s := v) (by rw [hstore]) (by exact hmore) (by rw [hstore]; exact hfill) with ⟨j, hj, heq⟩ | heq
  · have hfree : s.store.nextFree = some j := by rw [hstore] at hj; exact hj
    rw [heq, State.openSector]
    refine ⟨by rw [State.modStore_store, hstore]; rfl, .inr ⟨⟨hs, hn⟩, .inr ⟨j, v.nextGeneration, b, Store.nextFree_free hfree,
      by rw [State.modStore_store, hstore], hb, by rw [State.modStore_store, hstore]; rfl, by rw [State.modStore_store, hstore]; rfl⟩⟩,
      fun hno => absurd rfl (hno j v.nextGeneration v.store.restartNote), .inr ⟨b, hb, .inl (by rw [State.modStore_store, hstore]; rfl)⟩⟩
  · rw [heq]
    exact ⟨by rw [hstore], .inl ⟨by rw [hstore], by rw [hstore]⟩, fun _ => ⟨by rw [hstore], by rw [hstore]⟩,
      .inr ⟨b, hb, .inl (by rw [hstore])⟩⟩

theorem State.choose_firstChoice {s : State} (hp : s.store.pend = none) (hfill : s.store.filling = none) : s.FirstChoice s.choose := by
  rcases State.choose_cases hp with h | ⟨⟨-, hs⟩, ⟨hn, j, hj, h⟩ | ⟨hn, b, hb, h⟩ | ⟨b, hb, h⟩⟩
  · rw [h]
    exact ⟨rfl, .inl ⟨rfl, rfl⟩, fun _ => ⟨rfl, rfl⟩, .inl ⟨rfl, rfl⟩⟩
  · rw [h]
    exact ⟨rfl, .inr ⟨⟨hs, hn⟩, .inl ⟨j, Store.nextStale_stale hj, rfl, rfl⟩⟩, fun _ => ⟨rfl, rfl⟩, .inl ⟨rfl, rfl⟩⟩
  · rw [h]
    exact State.startCompaction_firstChoice hfill hs hn hb
  · rw [h]
    exact ⟨rfl, .inl ⟨rfl, rfl⟩, fun _ => ⟨rfl, rfl⟩, .inr ⟨b, hb, .inr ⟨rfl, rfl⟩⟩⟩

/-! ### The entry into READY (R117 to R120) -/

/-- The part at the entry into READY, before the store's first choice. -/
def State.entered (s : State) (r : ReplayResult) : State := ({ s with store := s.cleanedStore r } : State).enterReady r

theorem exec_cleanupEnd {s : State} {r : ReplayResult} (hc : s.ctl.start = .cleanup) (hr : s.ctl.replay = some r) :
    exec .cleanupEnd s = .next (s.entered r).choose := by
  change execCleanupEnd s = _
  rw [execCleanupEnd, if_pos hc, State.cleanedUp, hr]
  rfl

/-- START fills the kept place at the head of a queue. -/
theorem PortState.fillStart_outbound {x : PortState} {q : List OutMsg} (h : x.outbound = { seq := 0, body := .kept } :: q)
    (hq : ∀ m ∈ q, m.body ≠ .kept) (r : StartRec) : (x.fillStart r).outbound = { seq := 0, body := .start r } :: q := by
  change x.outbound.map _ = _
  rw [h, List.map_cons, if_pos rfl]
  congr 1
  exact (List.map_congr_left fun m hm => if_neg (hq m hm)).trans (List.map_id _)

section
variable {s : State} {r : ReplayResult}

theorem State.cleanedStore_sealed (h : s.catalog.state = .sealed) : s.cleanedStore r =
    s.store.cleaned r (s.nv.ring.map (s.nv.cleanRec r)) := if_pos h

theorem State.cleanedStore_empty (h : s.catalog.state ≠ .sealed) : s.cleanedStore r = s.store.emptied (s.nv.ring.map s.nv.emptyRec) :=
  if_neg h

/-- What cleanup leaves of the store as it was. -/
theorem State.cleanedStore_same : (s.cleanedStore r).pend = s.store.pend ∧ (s.cleanedStore r).operation = s.store.operation ∧
    (s.cleanedStore r).arrayOp = s.store.arrayOp := by
  unfold State.cleanedStore
  split <;> exact ⟨rfl, rfl, rfl⟩

/-- The sector opened last is the newest of the table (R118). -/
theorem State.cleanedStore_openedLast : (s.cleanedStore r).openedLast = (s.cleanedStore r).newestOpened := by
  unfold State.cleanedStore
  split <;> rfl

theorem State.cleanedStore_owed : (s.cleanedStore r).imageOwed = true ↔ s.catalog.state = .sealed ∧ r.outcome = .noImage := by
  by_cases hs : s.catalog.state = .sealed
  · rw [State.cleanedStore_sealed hs]
    exact decide_eq_true_iff.trans (and_iff_right hs).symm
  · rw [State.cleanedStore_empty hs]
    exact iff_of_false nofun fun h => hs h.1

/-- Mode and compaction after cleanup with a SEALED catalog (R99, R118). -/
theorem State.cleanedStore_asks (hs : s.catalog.state = .sealed) :
    ((s.cleanedStore r).mode = .readOnly ↔ (s.cleanedStore r).usable < 2 * s.store.reserve + 4) ∧
    (s.cleanedStore r).compaction =
      if (s.cleanedStore r).mode = .writable ∧ ((s.cleanedStore r).count .free < s.store.reserve + 3 ∨ r.outcome = .noImage) then
        .requested .first else .none := by
  rw [State.cleanedStore_sealed hs]
  refine ⟨?_, rfl⟩
  change (if (s.store.cleaned r (s.nv.ring.map (s.nv.cleanRec r))).usable < 2 * s.store.reserve + 4 then StoreMode.readOnly else .writable) =
    .readOnly ↔ _
  split
  · exact iff_of_true rfl ‹_›
  · exact iff_of_false nofun ‹_›

/-- A sector's record after cleanup carries the role of R117. -/
theorem State.cleanedStore_mem {x : SectorRec} (hx : x ∈ (s.cleanedStore r).table) : ∃ z ∈ s.nv.ring, z.sector = x.sector ∧
    s.nv.RoleIs (s.catalog.state = .sealed) r z x.role := by
  rw [State.cleanedStore_table] at hx
  obtain ⟨z, hz, rfl⟩ := List.mem_map.mp hx
  exact ⟨z, hz, (s.recAtStart_spec r z).1.symm, s.recAtStart_roleIs r z⟩

end

/-- Settles O57: START in both queues, the store as cleanup leaves it, and what its first choice does to it. -/
theorem cleanupEndPlacesStart : Obligations.CleanupEndPlacesStart := by
  intro s res qa qb hc hr hp hA hB hkept
  obtain ⟨u, hu⟩ : ∃ u, u = s.entered res := ⟨_, rfl⟩
  have hustore : u.store = s.cleanedStore res := by rw [hu]; rfl
  obtain ⟨hpend, hoper, harr⟩ := State.cleanedStore_same (s := s) (r := res)
  have hup : u.store.pend = none := by rw [hustore, hpend, hp]
  have hufill : u.store.filling = none := by rw [hustore]; exact s.cleanedStore_filling res
  have hchosen := State.choose_chosen hup
  obtain ⟨hwork, -, -, ns, -, hports⟩ := hchosen.outcome hup
  have hlinks := hchosen.linksKept
  have hfirst := State.choose_firstChoice hup hufill
  have hcat : u.choose.catalog = s.catalog := hwork.catalog.trans (by rw [hu]; rfl)
  have hctl : u.choose.ctl = { s.ctl with start := .ready } := hwork.ctl.trans (by rw [hu]; rfl)
  have houtA : u.choose.portA.outbound = { seq := 0, body := .start (({ s with store := s.cleanedStore res } : State).startRec res) } :: qa :=
    (hlinks.outbound .A).trans (by
      rw [hu]
      exact PortState.fillStart_outbound hA (fun m hm => hkept m (List.mem_append_left _ hm)) _)
  have houtB : u.choose.portB.outbound = { seq := 0, body := .start (({ s with store := s.cleanedStore res } : State).startRec res) } :: qb :=
    (hlinks.outbound .B).trans (by
      rw [hu]
      exact PortState.fillStart_outbound hB (fun m hm => hkept m (List.mem_append_right _ hm)) _)
  have hcount (p : Port) : (u.choose.port p).outCount = 1 := by
    rw [hports p]
    obtain ⟨N, L, h⟩ := PortState.takeNotices_frame ns (u.port p)
    rw [h, hu]
    cases p <;> rfl
  have hretired := s.cleanedStore_retired res
  have husable := s.cleanedStore_usable res
  refine ⟨u.choose, ({ s with store := s.cleanedStore res } : State).startRec res, by rw [exec_cleanupEnd hc hr, hu], hctl, houtA, houtB,
    hcount .A, hcount .B, rfl, rfl, rfl, rfl, rfl, rfl, fun hs => ⟨?_, ?_⟩, fun hs => ⟨?_, ?_⟩, ?_, hcat, ?_, ?_, ?_, hretired, ?_,
    hwork.durable.trans (by rw [hustore]; rfl), ?_, fun ho ha => ?_⟩
  · change (s.cleanedStore res).durable = _
    rw [State.cleanedStore_sealed hs]
    rfl
  · refine (State.cleanedStore_asks hs).1.trans ?_
    change (s.cleanedStore res).usable < _ ↔ s.nv.ring.length < (s.cleanedStore res).count .retired + _
    omega
  · change (s.cleanedStore res).durable = _
    rw [State.cleanedStore_empty hs]
    rfl
  · change (s.cleanedStore res).mode = _
    rw [State.cleanedStore_empty hs]
    rfl
  · rw [hwork.rateInUse, hu]
    rfl
  · rw [hwork.stack, hu]
    rfl
  · rw [hwork.nv, hu]
    rfl
  · rw [State.attnA, State.ready, hctl, houtA]
    simp
  · rw [hfirst.owed, hustore]
    exact State.cleanedStore_owed
  · rw [hwork.reserve, hustore]
    split
    · rw [State.cleanedStore_sealed ‹_›]
      rfl
    · rw [State.cleanedStore_empty ‹_›]
      rfl
  · intro retired half kept roleIs
    have huarr : u.store.arrayOp = .none := by rw [hustore, harr, ha]
    have hmem {x : SectorRec} (hx : x ∈ u.store.table) : ∃ z ∈ s.nv.ring, z.sector = x.sector ∧ roleIs z x.role := by
      rw [hustore] at hx
      exact State.cleanedStore_mem hx
    have hucat : u.catalog = s.catalog := by rw [hu]; rfl
    have husupply : u.ctl.supply = s.ctl.supply := by rw [hu]; rfl
    have hwork' := hfirst.work
    rw [huarr, hucat, husupply] at hwork'
    have hnote (hs : s.catalog.state = .sealed) : u.store.restartNote = res.tail := by
      rw [hustore, State.cleanedStore_sealed hs]
      rfl
    refine ⟨fun y hy => ?_, fun k hk => ?_, fun k g f hk => ?_, fun hs => ?_, fun hno => ⟨fun hs => ?_, ?_⟩⟩
    · rcases hwork' with ⟨-, ht⟩ | ⟨-, ⟨j, -, hop, ht⟩ | ⟨j, n, b, -, hop, -, -, ht⟩⟩
      · rw [ht] at hy
        obtain ⟨z, hz, hzs, hzr⟩ := hmem hy
        exact ⟨z, hz, hzs, .inr (.inr hzr)⟩
      · rw [ht] at hy
        obtain ⟨x, hx, rfl⟩ := List.mem_map.mp hy
        obtain ⟨z, hz, hzs, hzr⟩ := hmem hx
        by_cases hxj : x.sector = j
        · rw [if_pos hxj]
          exact ⟨z, hz, hzs, .inl (by rw [hop, hxj])⟩
        · rw [if_neg hxj]
          exact ⟨z, hz, hzs, .inr (.inr hzr)⟩
      · rw [ht] at hy
        obtain ⟨x, hx, rfl⟩ := List.mem_map.mp hy
        obtain ⟨z, hz, hzs, hzr⟩ := hmem hx
        by_cases hxj : x.sector = j
        · rw [if_pos hxj]
          exact ⟨z, hz, hzs, .inr (.inl ⟨n, _, by rw [hop, hxj]⟩)⟩
        · rw [if_neg hxj]
          exact ⟨z, hz, hzs, .inr (.inr hzr)⟩
    · rcases hwork' with ⟨hop, -⟩ | ⟨⟨hs, hn⟩, ⟨j, ⟨x, hx, hxj, hxr⟩, hop, -⟩ | ⟨j, n, b, -, hop, -⟩⟩
      · rw [hop] at hk
        cases hk
      · rw [hop] at hk
        cases hk
        obtain ⟨z, hz, hzs, hzr⟩ := hmem hx
        rw [hxr] at hzr
        exact ⟨hs, hn, z, hz, hzs.trans hxj, hzr⟩
      · rw [hop] at hk
        cases hk
    · rcases hwork' with ⟨hop, -⟩ | ⟨⟨hs, hn⟩, ⟨j, -, hop, -⟩ | ⟨j, n, b, ⟨x, hx, hxj, hxr⟩, hop, hreq, hrun, -⟩⟩
      · rw [hop] at hk
        cases hk
      · rw [hop] at hk
        cases hk
      · rw [hop] at hk
        cases hk
        obtain ⟨z, hz, hzs, hzr⟩ := hmem hx
        rw [hxr] at hzr
        have hb : b = .first := by
          rw [hustore, (State.cleanedStore_asks hs).2] at hreq
          split at hreq <;> cases hreq
          rfl
        rw [hb] at hrun
        exact ⟨hnote hs, hs, hn, hrun, z, hz, hzs.trans hxj, hzr⟩
    · intro free wanted
      have hasks := (State.cleanedStore_asks (r := res) hs).2
      rw [s.cleanedStore_free res, ← hustore] at hasks
      refine ⟨fun hw => ?_, fun hw => ?_⟩
      · have hreq : u.store.compaction = .requested .first := hasks.trans (if_pos (by rw [hustore]; exact hw))
        rcases hfirst.asked with ⟨hcomp, -⟩ | ⟨b, hb, hrun | hfull⟩
        · exact .inl (hcomp.trans hreq)
        · rw [hreq] at hb
          cases hb
          exact .inr (.inl hrun)
        · exact .inr (.inr hfull)
      · have hnone : u.store.compaction = .none := hasks.trans (if_neg (by rw [hustore]; exact hw))
        rcases hfirst.asked with ⟨hcomp, hmode⟩ | ⟨b, hb, -⟩
        · exact ⟨hcomp.trans hnone, hmode.trans (by rw [hustore]; rfl)⟩
        · rw [hnone] at hb
          cases hb
    · rw [(hfirst.note hno).1, hnote hs]
    · obtain ⟨e, he, ht⟩ : ∃ e : SectorRec → SectorRec, (∀ x, (e x).sector = x.sector ∧ (e x).generation = x.generation) ∧
          u.choose.store.table = u.store.table.map e := by
        rcases hwork' with ⟨-, ht⟩ | ⟨-, ⟨j, -, -, ht⟩ | ⟨j, n, b, -, hop, -⟩⟩
        · exact ⟨id, fun x => ⟨rfl, rfl⟩, by rw [ht, List.map_id]⟩
        · exact ⟨_, fun x => by split <;> exact ⟨rfl, rfl⟩, ht⟩
        · exact absurd hop (hno _ _ _)
      have hlast : u.choose.store.openedLast = u.store.newestOpened := by
        rw [(hfirst.note hno).2, hustore, State.cleanedStore_openedLast]
      have hspec := u.store.newestOpened_spec
      rw [hlast, ht]
      refine ⟨fun k hk => ?_, fun hnone => ?_⟩
      · rw [hk] at hspec
        obtain ⟨y, hy, g, hys, hyg, hmax⟩ := hspec
        refine ⟨e y, List.mem_map.mpr ⟨y, hy, rfl⟩, g, (he y).1.trans hys, (he y).2.trans hyg, List.forall_mem_map.mpr fun x hx h hh => ?_⟩
        exact hmax x hx h ((he x).2.symm.trans hh)
      · rw [hnone] at hspec
        exact List.forall_mem_map.mpr fun x hx => (he x).2.trans (hspec x hx)

end Sys2Proof.Machine
end

section
/-! SUPPORT. A group of the journal reads back as what it was written from (R85, R86, R112). -/

namespace Sys2Proof.Machine

set_option Elab.async false

open Sys2Proof

/-! ### The body of a group -/

/-- The rest of a text reads up to its last byte. -/
theorem readBody_chunks (f : Nat) (bs : List Byte) (hf : bs.length ≤ f) (hne : bs ≠ []) (t : OpenText)
    (ht : t.length = t.got.length + bs.length) (r : List Slot) (acc : List Change) (ok : Bool) (n : Nat) :
    readBody ((chunks16 f bs).map Slot.textBytes ++ r) (some t) acc ok n =
      readBody r none (acc ++ [{ t with got := t.got ++ bs }.change]) ok (n + (chunks16 f bs).length) := by
  induction f generalizing bs t n with
  | zero => exact absurd (List.length_eq_zero_iff.mp (Nat.le_zero.mp hf)) hne
  | succ f ih =>
    obtain ⟨b, bs, rfl⟩ := List.exists_cons_of_ne_nil hne
    rw [chunks16, List.map_cons, List.cons_append, readBody, List.length_cons]
    dsimp only
    have hsplit : (b :: bs).take 16 ++ (b :: bs).drop 16 = b :: bs := List.take_append_drop 16 _
    have hlen : ((b :: bs).take 16).length + ((b :: bs).drop 16).length = (b :: bs).length := by
      rw [← List.length_append, hsplit]
    by_cases hrest : (b :: bs).drop 16 = []
    · have hall : (b :: bs).take 16 = b :: bs := by rw [hrest, List.append_nil] at hsplit; exact hsplit
      have hnil : chunks16 f [] = [] := by cases f <;> rfl
      rw [hall, List.length_append, if_neg (by omega), hrest, hnil, decide_eq_true ht.symm, Bool.and_true]
      rfl
    · have hpos : 0 < ((b :: bs).drop 16).length := List.length_pos_iff.mpr hrest
      have h16 : 0 < ((b :: bs).take 16).length := by simp
      rw [List.length_append, if_pos (by omega),
        ih ((b :: bs).drop 16) (by omega) hrest { t with got := t.got ++ (b :: bs).take 16 }
          (by dsimp only; rw [List.length_append]; omega) (n + 1)]
      dsimp only
      rw [List.append_assoc, hsplit, show n + 1 + (chunks16 f ((b :: bs).drop 16)).length =
        n + ((chunks16 f ((b :: bs).drop 16)).length + 1) by omega]

/-- A change entry reads back. -/
theorem readBody_change (c : Change) (r : List Slot) (acc : List Change) (ok : Bool) (n : Nat) :
    readBody (c.slots ++ r) none acc ok n = readBody r none (acc ++ [c]) ok (n + c.slots.length) := by
  obtain ⟨id, v, version⟩ := c
  cases v with
  | num v =>
    rw [Change.slots, List.cons_append, readBody, Option.isNone_none, Bool.and_true]
    rfl
  | text bs =>
    rw [Change.slots, List.cons_append, readBody, Option.isNone_none, Bool.and_true]
    by_cases hbs : bs = []
    · subst hbs
      rfl
    · rw [if_neg (fun h => hbs (List.length_eq_zero_iff.mp h)), readBody_chunks _ bs le_rfl hbs _ (by simp)]
      simp [OpenText.change, Nat.add_assoc, Nat.add_comm]

theorem readBody_changes (cs : List Change) (r : List Slot) (acc : List Change) (ok : Bool) (n : Nat) :
    readBody (cs.flatMap Change.slots ++ r) none acc ok n =
      readBody r none (acc ++ cs) ok (n + (cs.flatMap Change.slots).length) := by
  induction cs generalizing acc n with
  | nil => simp
  | cons c cs ih =>
    rw [List.flatMap_cons, List.append_assoc, readBody_change, ih, List.append_assoc, List.length_append, Nat.add_assoc]
    rfl

/-- Without a close mark reading goes on to the end. -/
theorem readBody_unclosed {l : List Slot} (h : ∀ a b, Slot.closeMark a b ∉ l) (t : Option OpenText) (acc : List Change) (ok : Bool)
    (n : Nat) : (readBody l t acc ok n).close = none ∧ (readBody l t acc ok n).slots = n + l.length := by
  induction l generalizing t acc ok n with
  | nil => exact ⟨rfl, rfl⟩
  | cons x r ih =>
    have hr : ∀ a b, Slot.closeMark a b ∉ r := fun a b hm => h a b (List.mem_cons_of_mem x hm)
    have hstep (t : Option OpenText) (acc : List Change) (ok : Bool) : (readBody r t acc ok (n + 1)).close = none ∧
        (readBody r t acc ok (n + 1)).slots = n + (x :: r).length := by
      obtain ⟨hc, hs⟩ := ih hr t acc ok (n + 1)
      exact ⟨hc, by rw [hs, List.length_cons]; omega⟩
    cases x with
    | closeMark a b => exact absurd List.mem_cons_self (h a b)
    | openMark k m => exact hstep _ _ _
    | damaged => exact hstep _ _ _
    | numEntry id v ver => exact hstep _ _ _
    | textEntry id len ver =>
      rw [readBody]
      split
      · exact hstep _ _ _
      · exact hstep _ _ _
    | textBytes bs =>
      cases t with
      | none => exact hstep _ _ _
      | some t =>
        rw [readBody]
        dsimp only
        split
        · exact hstep _ _ _
        · exact hstep _ _ _

/-! ### A whole group -/

/-- A group with its close mark reads as closed, and is good where the check agrees. -/
theorem readGroup_closed (k : GroupKind) (m : Nat) (cs : List Change) (chk : Word32) (r : List Slot) :
    readGroup (.openMark k m :: cs.flatMap Change.slots ++ .closeMark cs.length chk :: r) =
      .closed k m cs (chk == groupCheck (.openMark k m :: cs.flatMap Change.slots)) ((cs.flatMap Change.slots).length + 2) := by
  rw [List.cons_append, readGroup, readBody_changes, readBody]
  dsimp only
  rw [List.nil_append, show 0 + (cs.flatMap Change.slots).length + 1 - 1 = (cs.flatMap Change.slots).length by omega, List.take_left]
  simp

theorem groupSlots_append (k : GroupKind) (m : Nat) (cs : List Change) (r : List Slot) : groupSlots k m cs ++ r =
    .openMark k m :: cs.flatMap Change.slots ++
      .closeMark cs.length (groupCheck (.openMark k m :: cs.flatMap Change.slots)) :: r := by
  rw [groupSlots]
  simp

theorem groupSlots_length (k : GroupKind) (m : Nat) (cs : List Change) :
    (groupSlots k m cs).length = (cs.flatMap Change.slots).length + 2 := by
  rw [groupSlots]
  simp

theorem readGroup_groupSlots (k : GroupKind) (m : Nat) (cs : List Change) (r : List Slot) :
    readGroup (groupSlots k m cs ++ r) = .closed k m cs true (groupSlots k m cs).length := by
  rw [groupSlots_append, readGroup_closed, groupSlots_length, beq_self_eq_true]

theorem readGroup_unclosed {k : GroupKind} {m : Nat} {r : List Slot} (h : ∀ a b, Slot.closeMark a b ∉ r) :
    readGroup (.openMark k m :: r) = .unclosed (r.length + 1) := by
  obtain ⟨hc, hs⟩ := readBody_unclosed h none [] true 0
  rw [readGroup, hc, hs]
  simp

/-- What reads as an IMAGE group begins with its open mark. -/
theorem readGroup_image {l : List Slot} {m n : Nat} {cs : List Change} {good : Bool} (h : readGroup l = .closed .image m cs good n) :
    ∃ r, l = .openMark .image m :: r := by
  unfold readGroup at h
  split at h
  · rename_i k num r
    dsimp only at h
    split at h
    · cases h
    · cases h
      exact ⟨r, rfl⟩
  · dsimp only at h
    split at h <;> cases h
  all_goals cases h

/-- A group takes at least a slot. -/
theorem readGroup_slots_pos {l : List Slot} : (∀ k m cs good n, readGroup l = .closed k m cs good n → 0 < n) ∧
    (∀ n, readGroup l = .unclosed n → 0 < n) := by
  unfold readGroup
  constructor
  · intro k m cs good n h
    split at h
    · dsimp only at h
      split at h <;> cases h
      exact Nat.succ_pos _
    · dsimp only at h
      split at h <;> cases h
      exact Nat.succ_pos _
    all_goals cases h
  · intro n h
    split at h
    · dsimp only at h
      split at h <;> cases h
      exact Nat.succ_pos _
    · dsimp only at h
      split at h <;> cases h
      exact Nat.succ_pos _
    all_goals cases h

/-- The slots of a change are no marks. -/
theorem Change.slots_noMark (c : Change) : (∀ k m, Slot.openMark k m ∉ c.slots) ∧ ∀ a b, Slot.closeMark a b ∉ c.slots := by
  unfold Change.slots
  split <;> simp

theorem changes_noMark (cs : List Change) : (∀ k m, Slot.openMark k m ∉ cs.flatMap Change.slots) ∧
    ∀ a b, Slot.closeMark a b ∉ cs.flatMap Change.slots := by
  constructor
  · intro k m h
    obtain ⟨c, -, hc⟩ := List.mem_flatMap.mp h
    exact c.slots_noMark.1 k m hc
  · intro a b h
    obtain ⟨c, -, hc⟩ := List.mem_flatMap.mp h
    exact c.slots_noMark.2 a b hc

end Sys2Proof.Machine
end

section
/-! SUPPORT. Places in a run of sectors that are read as one, and the walk's steps from place to place (R112, R114). -/

namespace Sys2Proof.Machine

set_option Elab.async false

open Sys2Proof

/-! ### A run of sectors and the places in it -/

/-- The slots of sectors, one sector after another. -/
def slotsOf (xs : List StreamSector) : List Slot := xs.flatMap (fun x => x.slots)

theorem slotsOf_append (xs ys : List StreamSector) : slotsOf (xs ++ ys) = slotsOf xs ++ slotsOf ys := List.flatMap_append

theorem slotsOf_cons (x : StreamSector) (xs : List StreamSector) : slotsOf (x :: xs) = x.slots ++ slotsOf xs := List.flatMap_cons

/-- Sectors whose slots are read as one: full but for the last, and none but the first with the restart flag (R112). -/
structure IsRun (xs : List StreamSector) : Prop where
  full : ∀ x ∈ xs.dropLast, x.slots.length = 255
  unflagged : ∀ x ∈ xs.tail, x.flag = false

theorem IsRun.tail {x y : StreamSector} {xs : List StreamSector} (h : IsRun (x :: y :: xs)) : IsRun (y :: xs) :=
  ⟨fun z hz => h.full z (by rw [List.dropLast_cons_cons]; exact List.mem_cons_of_mem x hz),
    fun z hz => h.unflagged z (List.mem_cons_of_mem y hz)⟩

theorem IsRun.of_append {pass xs : List StreamSector} (h : IsRun (pass ++ xs)) : IsRun xs := by
  induction pass with
  | nil => exact h
  | cons x pass ih =>
    cases hxs : pass ++ xs with
    | nil =>
      have : xs = [] := (List.append_eq_nil_iff.mp hxs).2
      rw [this]
      exact ⟨nofun, nofun⟩
    | cons y ys =>
      rw [List.cons_append, hxs] at h
      exact ih (by rw [hxs]; exact h.tail)

/-- The sectors of a run before one of them are full. -/
theorem IsRun.length_pass {pass more : List StreamSector} {x : StreamSector} (h : IsRun (pass ++ x :: more)) :
    (slotsOf pass).length = 255 * pass.length := by
  have hall : ∀ y ∈ pass, y.slots.length = 255 := fun y hy => h.full y (by
    rw [List.dropLast_append_cons]
    exact List.mem_append_left _ hy)
  clear h
  induction pass with
  | nil => rfl
  | cons y pass ih =>
    rw [slotsOf_cons, List.length_append, hall y List.mem_cons_self, ih fun z hz => hall z (List.mem_cons_of_mem y hz), List.length_cons]
    omega

/-- Reading goes on past the run only where its last sector is full and the next carries no restart flag. -/
def StopsAfter (xs after : List StreamSector) : Prop :=
  (∀ x ∈ xs.getLast?, x.slots.length < 255) ∨ ∀ y ∈ after.head?, y.flag = true

/-- A place in a run: the sectors before it, the slots passed in its own, the sectors after it. -/
structure Cursor.Placed (c : Cursor) (xs after pass more : List StreamSector) (done : List Slot) : Prop where
  split : xs = pass ++ c.at0 :: more
  rest : c.rest = more ++ after
  slots : c.at0.slots = done ++ c.slots

/-- A place `p` slots into a run. -/
def Cursor.Stands (c : Cursor) (xs after : List StreamSector) (p : Nat) : Prop :=
  ∃ pass more done, c.Placed xs after pass more done ∧ (slotsOf pass).length + done.length = p

/-- A place `p` slots into a run that stands in the sector of the slot before it. -/
def Cursor.StandsBehind (c : Cursor) (xs after : List StreamSector) (p : Nat) : Prop :=
  ∃ pass more done, c.Placed xs after pass more done ∧ (slotsOf pass).length + done.length = p ∧ done ≠ []

theorem Cursor.StandsBehind.stands {c : Cursor} {xs after : List StreamSector} {p : Nat} (h : c.StandsBehind xs after p) :
    c.Stands xs after p := by
  obtain ⟨pass, more, done, hc, hp, -⟩ := h
  exact ⟨pass, more, done, hc, hp⟩

theorem Cursor.stands_start (x : StreamSector) (xs after : List StreamSector) :
    ({ at0 := x, slots := x.slots, rest := xs ++ after } : Cursor).Stands (x :: xs) after 0 := ⟨[], xs, [], ⟨rfl, rfl, rfl⟩, rfl⟩

/-- What is left of a run from a place. -/
theorem Cursor.Placed.left {c : Cursor} {xs after pass more : List StreamSector} {done : List Slot} (h : c.Placed xs after pass more done) :
    (slotsOf xs).drop ((slotsOf pass).length + done.length) = c.slots ++ slotsOf more := by
  rw [h.split, slotsOf_append, slotsOf_cons, h.slots, List.append_assoc, ← List.drop_drop, List.drop_left, List.drop_left]

theorem Cursor.Stands.slots_nil_or {c : Cursor} {xs after : List StreamSector} {p : Nat} (h : c.Stands xs after p) :
    ∃ more, c.rest = more ++ after ∧ (slotsOf xs).drop p = c.slots ++ slotsOf more := by
  obtain ⟨pass, more, done, hc, rfl⟩ := h
  exact ⟨more, hc.rest, hc.left⟩

/-! ### What is readable from a place (R112) -/

theorem readable_run (more after : List StreamSector) (cur : List Slot) (x : StreamSector) (h : IsRun (x :: more)) :
    ∃ ext, readable cur x.isFull (more ++ after) = cur ++ slotsOf more ++ ext ∧ (StopsAfter (x :: more) after → ext = []) := by
  induction more generalizing cur x with
  | nil =>
    cases after with
    | nil => exact ⟨[], by simp [readable, slotsOf], fun _ => rfl⟩
    | cons y ys =>
      rw [List.nil_append, readable]
      split
      · rename_i hgo
        refine ⟨readable y.slots y.isFull ys, by simp [slotsOf], fun hstop => ?_⟩
        obtain ⟨hfull, hflag⟩ : x.isFull = true ∧ y.flag = false := by simpa using hgo
        rcases hstop with hlast | hnext
        · exact absurd (of_decide_eq_true hfull) (not_le.mpr (hlast x rfl))
        · rw [hnext y rfl] at hflag
          cases hflag
      · exact ⟨[], by simp [slotsOf], fun _ => rfl⟩
  | cons y more ih =>
    obtain ⟨ext, hext, hstops⟩ := ih y.slots y h.tail
    have hfull : x.isFull = true := decide_eq_true (h.full x (by rw [List.dropLast_cons_cons]; exact List.mem_cons_self)).ge
    have hflag : y.flag = false := h.unflagged y List.mem_cons_self
    refine ⟨ext, ?_, fun hstop => hstops ?_⟩
    · rw [List.cons_append, readable, hfull, hflag, hext, slotsOf_cons]
      simp
    · rw [StopsAfter, List.getLast?_cons_cons] at hstop
      exact hstop

theorem Cursor.Stands.readable {c : Cursor} {xs after : List StreamSector} {p : Nat} (h : c.Stands xs after p) (hrun : IsRun xs) :
    ∃ ext, c.readable = (slotsOf xs).drop p ++ ext ∧ (StopsAfter xs after → ext = []) := by
  obtain ⟨pass, more, done, hc, rfl⟩ := h
  have hmore : IsRun (c.at0 :: more) := IsRun.of_append (pass := pass) (hc.split ▸ hrun)
  obtain ⟨ext, hext, hstop⟩ := readable_run more after c.slots c.at0 hmore
  refine ⟨ext, ?_, fun hs => hstop ?_⟩
  · rw [Cursor.readable, hc.rest, hext, hc.left]
  · rw [StopsAfter, hc.split, List.getLast?_append_of_ne_nil _ (List.cons_ne_nil _ _)] at hs
    exact hs

/-! ### The place some slots on -/

theorem advance_within {n : Nat} {cur : List Slot} (hle : n ≤ cur.length) (x : StreamSector) (rest : List StreamSector) :
    advance n x cur rest = { at0 := x, slots := cur.drop n, rest := rest } := by
  cases rest with
  | nil => rfl
  | cons y ys => exact if_pos hle

theorem advance_placed (more after : List StreamSector) (x : StreamSector) (cur : List Slot) {xs pass : List StreamSector}
    {done : List Slot} {n : Nat} (hsplit : xs = pass ++ x :: more) (hslots : x.slots = done ++ cur)
    (hn : n ≤ cur.length + (slotsOf more).length) :
    ∃ pass' more' done', (advance n x cur (more ++ after)).Placed xs after pass' more' done' ∧
      (slotsOf pass').length + done'.length = (slotsOf pass).length + done.length + n ∧ (0 < n → done' ≠ []) := by
  induction more generalizing x cur pass done n with
  | nil =>
    have hle : n ≤ cur.length := by simpa [slotsOf] using hn
    rw [advance_within hle]
    refine ⟨pass, [], done ++ cur.take n, ⟨hsplit, rfl, by rw [hslots, List.append_assoc, List.take_append_drop]⟩, ?_, fun hpos => ?_⟩
    · rw [List.length_append, List.length_take_of_le hle, Nat.add_assoc]
    · refine List.append_ne_nil_of_right_ne_nil _ (List.ne_nil_of_length_pos ?_)
      rwa [List.length_take_of_le hle]
  | cons y more ih =>
    by_cases hle : n ≤ cur.length
    · rw [advance_within hle]
      refine ⟨pass, y :: more, done ++ cur.take n, ⟨hsplit, rfl, by rw [hslots, List.append_assoc, List.take_append_drop]⟩, ?_,
        fun hpos => ?_⟩
      · rw [List.length_append, List.length_take_of_le hle, Nat.add_assoc]
      · refine List.append_ne_nil_of_right_ne_nil _ (List.ne_nil_of_length_pos ?_)
        rwa [List.length_take_of_le hle]
    · rw [slotsOf_cons, List.length_append] at hn
      obtain ⟨pass', more', done', hplaced, hlen, hdone⟩ := ih y y.slots (pass := pass ++ [x]) (done := []) (n := n - cur.length)
        (by rw [hsplit, List.append_assoc]; rfl) rfl (by omega)
      have hadv : advance n x cur (y :: more ++ after) = advance (n - cur.length) y y.slots (more ++ after) := if_neg hle
      rw [hadv]
      refine ⟨pass', more', done', hplaced, ?_, fun _ => hdone (by omega)⟩
      have hx : (slotsOf (pass ++ [x])).length = (slotsOf pass).length + (done.length + cur.length) := by
        rw [slotsOf_append, List.length_append, slotsOf_cons, hslots]
        simp [slotsOf]
      rw [hlen, hx, List.length_nil]
      omega

/-- The place `n` slots on in a run. -/
theorem Cursor.Stands.advance {c : Cursor} {xs after : List StreamSector} {p n : Nat} (h : c.Stands xs after p) (hpos : 0 < n)
    (hn : p + n ≤ (slotsOf xs).length) : (c.advance n).StandsBehind xs after (p + n) := by
  obtain ⟨pass, more, done, hc, rfl⟩ := h
  have hlen : (slotsOf xs).length = (slotsOf pass).length + (done.length + c.slots.length + (slotsOf more).length) := by
    rw [hc.split, slotsOf_append, slotsOf_cons, hc.slots, List.length_append, List.length_append, List.length_append]
  obtain ⟨pass', more', done', hplaced, hp, hdone⟩ := advance_placed more after c.at0 c.slots hc.split hc.slots (n := n) (by omega)
  rw [← hc.rest] at hplaced
  exact ⟨pass', more', done', hplaced, hp, hdone hpos⟩

/-! ### The sectors reached (R114, R117) -/

/-- A place behind a slot: the sectors of the run up to it are as many as hold a slot before it. -/
theorem Cursor.StandsBehind.reached {c : Cursor} {xs after : List StreamSector} {p : Nat} (h : c.StandsBehind xs after p)
    (hrun : IsRun xs) : (xs.take ((p + 254) / 255)).getLast? = some c.at0 ∧ c.rest = xs.drop ((p + 254) / 255) ++ after := by
  obtain ⟨pass, more, done, hc, rfl, hdone⟩ := h
  have hrun' : IsRun (pass ++ c.at0 :: more) := hc.split ▸ hrun
  have hpass := hrun'.length_pass
  have hpos : 0 < done.length := List.length_pos_iff.mpr hdone
  have hsplit : xs = (pass ++ [c.at0]) ++ more := by rw [hc.split, List.append_assoc]; rfl
  cases more with
  | nil =>
    rw [List.append_nil] at hsplit
    have hle : xs.length ≤ ((slotsOf pass).length + done.length + 254) / 255 := by
      rw [hsplit, List.length_append, List.length_singleton, hpass]
      omega
    rw [List.take_of_length_le hle, List.drop_eq_nil_of_le hle, hsplit, List.getLast?_concat]
    exact ⟨rfl, hc.rest⟩
  | cons y more =>
    have hfull : c.at0.slots.length = 255 := hrun'.full c.at0 (by
      rw [List.dropLast_append_cons, List.dropLast_cons_cons]
      exact List.mem_append_right _ List.mem_cons_self)
    have hle : done.length ≤ 255 := by
      rw [hc.slots, List.length_append] at hfull
      omega
    have hcount : ((slotsOf pass).length + done.length + 254) / 255 = (pass ++ [c.at0]).length := by
      rw [List.length_append, List.length_singleton, hpass]
      omega
    rw [hcount, hsplit, List.take_left, List.drop_left, List.getLast?_concat]
    exact ⟨rfl, hc.rest⟩

/-- A place before a slot: skipping from it leaves out the sectors of the run that hold no slot before it. -/
theorem Cursor.Stands.notReached {c : Cursor} {xs after : List StreamSector} {p : Nat} (h : c.Stands xs after p) (hrun : IsRun xs) :
    ∃ more, c.rest = more ++ after ∧
      xs.drop ((p + 254) / 255) = (if c.slots = c.at0.slots then [c.at0] else []) ++ more := by
  obtain ⟨pass, more, done, hc, rfl⟩ := h
  refine ⟨more, hc.rest, ?_⟩
  by_cases hdone : done = []
  · have hat : c.slots = c.at0.slots := by rw [hc.slots, hdone]; rfl
    have hpass := IsRun.length_pass (hc.split ▸ hrun)
    have hcount : ((slotsOf pass).length + done.length + 254) / 255 = pass.length := by
      rw [hpass, hdone, List.length_nil]
      omega
    rw [if_pos hat, hcount, hc.split, List.drop_left]
    rfl
  · have hat : c.slots ≠ c.at0.slots := fun h => by
      have := congrArg List.length h
      rw [hc.slots, List.length_append] at this
      exact hdone (List.length_eq_zero_iff.mp (by omega))
    obtain ⟨-, hrest⟩ := Cursor.StandsBehind.reached ⟨pass, more, done, hc, rfl, hdone⟩ hrun
    rw [hc.rest] at hrest
    rw [if_neg hat, List.nil_append]
    exact (List.append_cancel_right hrest).symm

/-! ### The walk and its fuel (R114) -/

/-- What a walk from a place has still to pass: slots, and sectors. -/
def Cursor.toPass (c : Cursor) : Nat := c.slots.length + (c.rest.map (fun x => x.slots.length + 1)).sum

theorem advance_toPass (rest : List StreamSector) (n : Nat) (x : StreamSector) (cur : List Slot) :
    (advance n x cur rest).toPass ≤ cur.length + (rest.map (fun x => x.slots.length + 1)).sum ∧
    (0 < n → cur ≠ [] → (advance n x cur rest).toPass < cur.length + (rest.map (fun x => x.slots.length + 1)).sum) := by
  have hdrop {n : Nat} {cur : List Slot} (hpos : 0 < n) (hcur : cur ≠ []) : (cur.drop n).length < cur.length := by
    rw [List.length_drop]
    have := List.length_pos_iff.mpr hcur
    omega
  induction rest generalizing n x cur with
  | nil =>
    refine ⟨Nat.add_le_add_right (?_ : (cur.drop n).length ≤ cur.length) _, fun hpos hcur => Nat.add_lt_add_right (hdrop hpos hcur) _⟩
    rw [List.length_drop]
    omega
  | cons y ys ih =>
    by_cases hle : n ≤ cur.length
    · rw [advance_within hle]
      refine ⟨?_, fun hpos hcur => ?_⟩
      · exact Nat.add_le_add_right (by rw [List.length_drop]; omega) _
      · exact Nat.add_lt_add_right (hdrop hpos hcur) _
    · have hadv : advance n x cur (y :: ys) = advance (n - cur.length) y y.slots ys := if_neg hle
      have hstep := (ih (n - cur.length) y y.slots).1
      rw [hadv, List.map_cons, List.sum_cons]
      exact ⟨by omega, fun _ _ => by omega⟩

theorem skipTo_toPass {rest : List StreamSector} {t : Cursor} (h : (skipTo rest).2 = some t) :
    t.toPass < (rest.map (fun x => x.slots.length + 1)).sum := by
  induction rest with
  | nil => cases h
  | cons x rest ih =>
    rw [skipTo] at h
    rw [List.map_cons, List.sum_cons]
    split at h
    · cases h
      rw [Cursor.toPass]
      dsimp only
      omega
    · have := ih h
      omega

theorem faultAt_toPass {c t : Cursor} {n : Nat} {torn : Bool} {w w' : Walk} (h : faultAt c n torn w = (w', some t)) :
    t.toPass < c.toPass := by
  unfold faultAt at h
  dsimp only at h
  split at h
  · rename_i target hskip
    cases h
    have hpast : (c.advance n).toPass ≤ c.toPass := (advance_toPass c.rest n c.at0 c.slots).1
    have hsum : ((c.advance n).rest.map (fun x => x.slots.length + 1)).sum ≤ (c.advance n).toPass := Nat.le_add_left _ _
    exact (skipTo_toPass hskip).trans_le (hsum.trans hpast)
  · cases h

/-- Each step of the walk passes a slot or a sector. -/
theorem walkStep_toPass {c t : Cursor} {w w' : Walk} (h : walkStep c w = (w', some t)) : t.toPass < c.toPass := by
  unfold walkStep at h
  split at h
  · cases h
  · rename_i x rest hslots hrest
    cases h
    rw [Cursor.toPass, Cursor.toPass, hslots, hrest, List.map_cons, List.sum_cons]
    dsimp only [List.length_nil]
    omega
  · rename_i s ss _ hslots
    have hgoes {n : Nat} (hpos : 0 < n) : (c.advance n).toPass < c.toPass :=
      (advance_toPass c.rest n c.at0 c.slots).2 hpos (by rw [hslots]; exact List.cons_ne_nil _ _)
    split at h
    · rename_i n hread
      have hpos := readGroup_slots_pos.1 _ _ _ _ _ hread
      split at h
      · cases h
        exact hgoes hpos
      · exact faultAt_toPass h
    · rename_i n hread
      have hpos := readGroup_slots_pos.1 _ _ _ _ _ hread
      split at h
      · cases h
        exact hgoes hpos
      · exact faultAt_toPass h
    · exact faultAt_toPass h
    · exact faultAt_toPass h

/-- The walk goes from a place, with what it has reached, to another. -/
inductive WalkGoes : Cursor → Walk → Cursor → Walk → Prop
  | refl (c : Cursor) (w : Walk) : WalkGoes c w c w
  | step {c d e : Cursor} {w v u : Walk} (h : walkStep c w = (v, some d)) (k : WalkGoes d v e u) : WalkGoes c w e u

theorem WalkGoes.trans {c d e : Cursor} {w v u : Walk} (h : WalkGoes c w d v) (k : WalkGoes d v e u) : WalkGoes c w e u := by
  induction h with
  | refl => exact k
  | step h _ ih => exact .step h (ih k)

theorem WalkGoes.one {c d : Cursor} {w v : Walk} (h : walkStep c w = (v, some d)) : WalkGoes c w d v := .step h (.refl d v)

/-- With fuel for what is to pass the walk ends where its steps end. -/
theorem WalkGoes.walk {c d : Cursor} {w v u : Walk} (h : WalkGoes c w d v) (hend : walkStep d v = (u, none)) {fuel : Nat}
    (hfuel : c.toPass < fuel) : walk fuel c w = u := by
  induction h generalizing fuel with
  | refl c w =>
    obtain ⟨n, rfl⟩ := Nat.exists_eq_succ_of_ne_zero (Nat.ne_of_gt (Nat.zero_lt_of_lt hfuel))
    rw [Machine.walk, hend]
  | step hstep _ ih =>
    obtain ⟨n, rfl⟩ := Nat.exists_eq_succ_of_ne_zero (Nat.ne_of_gt (Nat.zero_lt_of_lt hfuel))
    have hless := walkStep_toPass hstep
    rw [Machine.walk, hstep]
    exact ih hend (by omega)

end Sys2Proof.Machine
end

section
/-! SUPPORT. The walk through one stretch: hops between sectors, COMMIT groups, faults (R114, R115). -/

namespace Sys2Proof.Machine

set_option Elab.async false

open Sys2Proof

/-! ### Agreement with the catalog (R113, R114) -/

/-- Whether a change agrees is a matter of the definitions. -/
theorem Change.agrees_congr {es es' : List Entry} (h : es.map (fun e => e.defn) = es'.map (fun e => e.defn)) (c : Change) :
    c.Agrees es → c.Agrees es' := by
  rintro ⟨e, he, hid, hp, hk, hc⟩
  have hmem : e.defn ∈ es'.map (fun e => e.defn) := h ▸ List.mem_map.mpr ⟨e, he, rfl⟩
  obtain ⟨e', he', heq⟩ := List.mem_map.mp hmem
  exact ⟨e', he', by rw [heq, hid], by rw [heq, hp], by rw [heq, hk], by rw [heq]; exact hc⟩

theorem changeAgrees_iff {es : List Entry} (hids : IdsOrdered es) (c : Change) : changeAgrees es c = true ↔ c.Agrees es := by
  have hvalue (e : Entry) : valueAgrees e.defn c.value = true ↔
      kindTest e.defn.shape c.value = none ∧ (e.defn.constant = true → c.value = e.defn.default) := by
    rw [valueAgrees, Bool.and_eq_true, beq_iff_eq]
    cases e.defn.constant <;> simp
  constructor
  · intro h
    unfold changeAgrees at h
    split at h
    · rename_i e he
      rw [Bool.and_eq_true, hvalue] at h
      exact ⟨e, List.mem_of_find?_eq_some he, by simpa [findEntry] using List.find?_some he, h.1, h.2.1, h.2.2⟩
    · cases h
  · rintro ⟨e, he, hid, hp, hk, hc⟩
    rw [changeAgrees, ← hid, hids.findEntry_mem he]
    rw [Bool.and_eq_true, hvalue]
    exact ⟨hp, hk, hc⟩

theorem ascending_iff (l : List Nat) : ascending l = true ↔ l.Pairwise (· < ·) := by
  induction l with
  | nil => exact iff_of_true rfl List.Pairwise.nil
  | cons a l ih =>
    cases l with
    | nil => exact iff_of_true rfl (List.pairwise_singleton _ _)
    | cons b l =>
      rw [ascending, Bool.and_eq_true, decide_eq_true_iff, ih]
      refine ⟨fun ⟨hab, h⟩ => List.pairwise_cons.mpr ⟨fun x hx => ?_, h⟩,
        fun h => ⟨List.rel_of_pairwise_cons h List.mem_cons_self, h.of_cons⟩⟩
      rcases List.mem_cons.mp hx with rfl | hx
      · exact hab
      · exact hab.trans (List.rel_of_pairwise_cons h hx)

/-- A COMMIT group agrees with entries of the catalog's definitions exactly where it agrees with the catalog. -/
theorem commitAgrees_iff {es E : List Entry} (hids : IdsOrdered E) (h : es.map (fun e => e.defn) = E.map (fun e => e.defn))
    (cs : List Change) : commitAgrees es cs = true ↔ CommitGroupAgrees E cs := by
  have hes : IdsOrdered es := idsOrdered_of_defns h hids
  rw [commitAgrees, Bool.and_eq_true, ascending_iff, List.all_eq_true]
  exact and_congr_right fun _ => forall₂_congr fun c _ =>
    (changeAgrees_iff hes c).trans ⟨Change.agrees_congr h c, Change.agrees_congr h.symm c⟩

/-! ### Hops (R114) -/

section
variable {c : Cursor} {w : Walk}

theorem walkStep_hop {x : StreamSector} {rest : List StreamSector} (hs : c.slots = []) (hr : c.rest = x :: rest) :
    walkStep c w = (w, some { at0 := x, slots := x.slots, rest := rest }) := by
  rw [walkStep, hs, hr]

theorem walkStep_clean (hs : c.slots = []) (hr : c.rest = []) : walkStep c w = ({ w with outcome := .clean }, none) := by
  rw [walkStep, hs, hr]

/-- What the walk does with a group that it can read from a place before a slot. -/
theorem walkStep_read (hs : c.slots ≠ []) : walkStep c w = match readGroup c.readable with
    | .closed .commit number cs good n =>
      if good && commitAgrees w.entries cs && number == w.durable + 1 then
        ({ w with entries := applyChanges w.entries cs, durable := number, groups := w.groups + 1, ending := c.advance n },
          some (c.advance n))
      else faultAt c n false w
    | .closed .image _ _ good n => if good then (w, some (c.advance n)) else faultAt c n false w
    | .unclosed n => faultAt c n true w
    | .noGroup => faultAt c 1 false w := by
  obtain ⟨x, xs, hx⟩ := List.exists_cons_of_ne_nil hs
  rw [walkStep, hx] <;> rfl

end

section
variable {xs after : List StreamSector} {p : Nat}

/-- From a place with slots of the run left the walk hops to the sector of the next slot. -/
theorem Cursor.Stands.hop {c : Cursor} (h : c.Stands xs after p) (hp : p < (slotsOf xs).length) (w : Walk) :
    ∃ d, WalkGoes c w d w ∧ d.Stands xs after p ∧ d.slots ≠ [] := by
  obtain ⟨pass, more, done, hc, rfl⟩ := h
  induction more generalizing c pass done with
  | nil =>
    refine ⟨c, .refl c w, ⟨pass, [], done, hc, rfl⟩, fun hnil => ?_⟩
    have hleft := congrArg List.length hc.left
    rw [hnil, List.length_drop] at hleft
    have : (slotsOf ([] : List StreamSector)).length = 0 := rfl
    simp only [List.nil_append] at hleft
    omega
  | cons y more ih =>
    by_cases hs : c.slots = []
    · have hdone : done = c.at0.slots := by rw [hc.slots, hs, List.append_nil]
      have hstep := walkStep_hop (w := w) hs (hc.rest.trans (List.cons_append ..))
      have hlen : (slotsOf (pass ++ [c.at0])).length + ([] : List Slot).length = (slotsOf pass).length + done.length := by
        rw [slotsOf_append, List.length_append, hdone]
        simp [slotsOf]
      obtain ⟨d, hgo, hd, hds⟩ := ih (c := { at0 := y, slots := y.slots, rest := more ++ after }) (pass ++ [c.at0]) []
        ⟨by rw [hc.split, List.append_assoc]; rfl, rfl, rfl⟩ (by rw [hlen]; exact hp)
      rw [hlen] at hd
      exact ⟨d, .step hstep hgo, hd, hds⟩
    · exact ⟨c, .refl c w, ⟨pass, y :: more, done, hc, rfl⟩, hs⟩

/-- From the end of a run the walk hops over what holds no slot to what stands behind the run. -/
theorem Cursor.Stands.hopEnd {c : Cursor} (h : c.Stands xs after (slotsOf xs).length) (w : Walk) :
    ∃ d, WalkGoes c w d w ∧ d.slots = [] ∧ d.rest = after := by
  obtain ⟨pass, more, done, hc, hp⟩ := h
  have hleft := hc.left
  rw [hp, List.drop_length] at hleft
  obtain ⟨hs, hmore⟩ := List.append_eq_nil_iff.mp hleft.symm
  have hall : ∀ x ∈ more, x.slots = [] := List.flatMap_eq_nil_iff.mp hmore
  have hrest := hc.rest
  clear hc hleft hmore hp
  induction more generalizing c with
  | nil => exact ⟨c, .refl c w, hs, hrest⟩
  | cons y more ih =>
    obtain ⟨d, hgo, hd⟩ := ih (c := { at0 := y, slots := y.slots, rest := more ++ after }) (hall y List.mem_cons_self)
      (fun x hx => hall x (List.mem_cons_of_mem y hx)) rfl
    exact ⟨d, .step (walkStep_hop hs (hrest.trans (List.cons_append ..))) hgo, hd⟩

end

/-! ### COMMIT groups (R114) -/

theorem commitGroups_nil (n : Nat) : commitGroups n [] = [] := rfl

/-- COMMIT groups whose numbers count on from `n` and a start of the count. -/
def groupsFrom (n : Nat) (commits : List (List Change)) (i : Nat) : List Slot :=
  (commits.zipIdx i).flatMap (fun (c : List Change × Nat) => groupSlots .commit (n + 1 + c.2) c.1)

theorem groupsFrom_cons (n : Nat) (cs : List Change) (commits : List (List Change)) (i : Nat) :
    groupsFrom n (cs :: commits) i = groupSlots .commit (n + 1 + i) cs ++ groupsFrom n commits (i + 1) := by
  rw [groupsFrom, List.zipIdx_cons, List.flatMap_cons, groupsFrom]

theorem groupsFrom_nil (n i : Nat) : groupsFrom n [] i = [] := rfl

theorem groupsFrom_succ (n : Nat) (commits : List (List Change)) (i : Nat) :
    groupsFrom n commits (i + 1) = groupsFrom (n + 1) commits i := by
  induction commits generalizing i with
  | nil => rw [groupsFrom_nil, groupsFrom_nil]
  | cons cs commits ih =>
    have hnumber : n + 1 + (i + 1) = n + 1 + 1 + i := by omega
    rw [groupsFrom_cons, groupsFrom_cons, ih (i + 1), hnumber]

theorem commitGroups_cons (n : Nat) (cs : List Change) (commits : List (List Change)) :
    commitGroups n (cs :: commits) = groupSlots .commit (n + 1) cs ++ commitGroups (n + 1) commits := by
  change groupsFrom n (cs :: commits) 0 = _ ++ groupsFrom (n + 1) commits 0
  rw [groupsFrom_cons, groupsFrom_succ, Nat.add_zero]

/-- The walk with COMMIT groups replayed, and the place after the last of them. -/
def Walk.replayed (w : Walk) (commits : List (List Change)) (e : Cursor) : Walk :=
  { w with
    entries := commits.foldl applyChanges w.entries
    durable := w.durable + commits.length
    groups := w.groups + commits.length
    ending := e }

theorem foldl_applyChanges_defns (commits : List (List Change)) (es : List Entry) :
    (commits.foldl applyChanges es).map (fun e => e.defn) = es.map (fun e => e.defn) := by
  induction commits generalizing es with
  | nil => rfl
  | cons cs commits ih => rw [List.foldl_cons, ih, applyChanges_defns]

section
variable {E : List Entry} (hids : IdsOrdered E) {xs after : List StreamSector} (hrun : IsRun xs)
include hids hrun

/-- A COMMIT group of the next number that agrees is replayed. -/
theorem Cursor.Stands.commit {c : Cursor} {p : Nat} (h : c.Stands xs after p) {w : Walk} {cs : List Change} {tail : List Slot}
    (hleft : (slotsOf xs).drop p = groupSlots .commit (w.durable + 1) cs ++ tail)
    (hw : w.entries.map (fun e => e.defn) = E.map (fun e => e.defn))
    (hcs : CommitGroupAgrees E cs) : ∃ e, WalkGoes c w e (w.replayed [cs] e) ∧
      e.StandsBehind xs after (p + (groupSlots .commit (w.durable + 1) cs).length) := by
  have hlen := congrArg List.length hleft
  have hpos : 0 < (groupSlots .commit (w.durable + 1) cs).length := by rw [groupSlots_length]; omega
  rw [List.length_drop, List.length_append] at hlen
  obtain ⟨d, hgo, hd, hds⟩ := h.hop (by omega) w
  obtain ⟨ext, hread, -⟩ := hd.readable hrun
  have hstep : walkStep d w = (w.replayed [cs] (d.advance (groupSlots .commit (w.durable + 1) cs).length),
      some (d.advance (groupSlots .commit (w.durable + 1) cs).length)) := by
    rw [walkStep_read hds, hread, hleft, List.append_assoc, readGroup_groupSlots]
    dsimp only
    rw [(commitAgrees_iff hids hw cs).mpr hcs, beq_self_eq_true]
    rfl
  exact ⟨_, hgo.trans (.one hstep), hd.advance hpos (by omega)⟩

/-- COMMIT groups one after another are replayed. -/
theorem Cursor.Stands.commits {c : Cursor} {p : Nat} (h : c.Stands xs after p) {w : Walk} {commits : List (List Change)} {tail : List Slot}
    (hleft : (slotsOf xs).drop p = commitGroups w.durable commits ++ tail) (hw : w.entries.map (fun e => e.defn) = E.map (fun e => e.defn))
    (hcs : ∀ cs ∈ commits, CommitGroupAgrees E cs) : ∃ d e, WalkGoes c w d (w.replayed commits e) ∧
      d.Stands xs after (p + (commitGroups w.durable commits).length) ∧ (commits = [] → e = w.ending) ∧
      (commits ≠ [] → e.StandsBehind xs after (p + (commitGroups w.durable commits).length)) := by
  induction commits generalizing c p w with
  | nil => exact ⟨c, w.ending, .refl c w, h, fun _ => rfl, fun hno => absurd rfl hno⟩
  | cons cs commits ih =>
    rw [commitGroups_cons, List.append_assoc] at hleft
    obtain ⟨e, hgo, he⟩ := h.commit hids hrun hleft hw (hcs cs List.mem_cons_self)
    have hleft' : (slotsOf xs).drop (p + (groupSlots .commit (w.durable + 1) cs).length) =
        commitGroups (w.replayed [cs] e).durable commits ++ tail := by
      rw [← List.drop_drop, hleft, List.drop_left]
      rfl
    obtain ⟨d, e', hgo', hd, hnone, hsome⟩ := ih he.stands hleft' ((applyChanges_defns _ _).trans hw)
      (fun x hx => hcs x (List.mem_cons_of_mem cs hx))
    have hlen : p + (groupSlots .commit (w.durable + 1) cs).length + (commitGroups (w.durable + 1) commits).length =
        p + (commitGroups w.durable (cs :: commits)).length := by
      rw [commitGroups_cons, List.length_append, Nat.add_assoc]
    have hwalk : (w.replayed [cs] e).replayed commits e' = w.replayed (cs :: commits) e' := by
      simp only [Walk.replayed, List.foldl_cons, List.foldl_nil, List.length_cons, List.length_nil, Walk.mk.injEq, true_and, and_true]
      omega
    rw [hwalk] at hgo'
    refine ⟨d, e', hgo.trans hgo', hlen ▸ hd, nofun, fun _ => ?_⟩
    by_cases hc : commits = []
    · rw [hnone hc, ← hlen, hc]
      exact he
    · exact hlen ▸ hsome hc

end

/-! ### Faults (R114) -/

theorem skipTo_unflagged {us : List StreamSector} (h : ∀ x ∈ us, x.flag = false) :
    skipTo us = (us.map (fun x => x.sector), none) := by
  induction us with
  | nil => rfl
  | cons x us ih =>
    rw [skipTo, h x List.mem_cons_self, ih fun y hy => h y (List.mem_cons_of_mem x hy)]
    rfl

theorem skipTo_flagged {us : List StreamSector} (h : ∀ x ∈ us, x.flag = false) {y : StreamSector} (hy : y.flag = true)
    (ys : List StreamSector) :
    skipTo (us ++ y :: ys) = (us.map (fun x => x.sector), some { at0 := y, slots := y.slots, rest := ys }) := by
  induction us with
  | nil => exact if_pos hy
  | cons x us ih =>
    rw [List.cons_append, skipTo, h x List.mem_cons_self, ih fun y hy => h y (List.mem_cons_of_mem x hy)]
    rfl

/-- An unclosed group is no fault of another kind, and a fault of another kind no unclosed group. -/
theorem not_unclosed_of_faulty {E : List Entry} {n : Nat} {l : List Slot} (h : FaultyGroup E n l) : ¬ UnclosedGroup l := by
  rintro ⟨k, m, r, rfl, hr⟩
  obtain ⟨himage, ⟨m', cs, r', hl, -⟩ | ⟨m', cs, chk, r', -, hl⟩ | ⟨b, r', hl, -, hb⟩⟩ := h
  · rw [groupSlots_append] at hl
    obtain ⟨-, rfl⟩ := List.cons_eq_cons.mp hl
    exact hr _ _ (List.mem_append_right _ List.mem_cons_self)
  · obtain ⟨-, rfl⟩ := List.cons_eq_cons.mp hl
    exact hr _ _ (List.mem_append_right _ List.mem_cons_self)
  · obtain ⟨rfl, -⟩ := List.cons_eq_cons.mp hl
    cases k with
    | commit => exact hb m rfl
    | image => exact himage m List.mem_cons_self

section
variable {E : List Entry} (hids : IdsOrdered E) {xs after : List StreamSector} (hrun : IsRun xs)
include hids hrun

/-- The walk meets the fault that a run ends with. -/
theorem Cursor.Stands.meetsFault {d : Cursor} {p : Nat} (hd : d.Stands xs after p) (hds : d.slots ≠ []) {w : Walk}
    (hw : w.entries.map (fun e => e.defn) = E.map (fun e => e.defn)) {tail : List Slot} (hleft : (slotsOf xs).drop p = tail)
    (hstop : StopsAfter xs after) (hfault : UnclosedGroup tail ∨ FaultyGroup E (w.durable + 1) tail) :
    ∃ n torn, walkStep d w = faultAt d n torn w ∧ 0 < n ∧ n ≤ tail.length ∧ (torn = true ↔ UnclosedGroup tail) ∧
      (torn = true → n = tail.length) := by
  obtain ⟨ext, hread, hext⟩ := hd.readable hrun
  rw [hext hstop, List.append_nil, hleft] at hread
  rcases hfault with hopen | hfaulty
  · refine ⟨tail.length, true, ?_, ?_, le_rfl, iff_of_true rfl hopen, fun _ => rfl⟩
    · obtain ⟨k, m, r, rfl, hr⟩ := hopen
      rw [walkStep_read hds, hread, readGroup_unclosed hr]
      rfl
    · obtain ⟨k, m, r, rfl, -⟩ := hopen
      exact Nat.succ_pos _
  · have hno : false = true ↔ UnclosedGroup tail := iff_of_false nofun (not_unclosed_of_faulty hfaulty)
    obtain ⟨himage, ⟨m, cs, r, rfl, hdiffers⟩ | ⟨m, cs, chk, r, hchk, rfl⟩ | ⟨b, r, rfl, hb, hcommit⟩⟩ := hfaulty
    · refine ⟨(groupSlots .commit m cs).length, false, ?_, by rw [groupSlots_length]; omega, by rw [List.length_append]; omega, hno, nofun⟩
      have hcond : (true && commitAgrees w.entries cs && m == w.durable + 1) = false := by
        rw [Bool.true_and, ← Bool.not_eq_true, Bool.and_eq_true, beq_iff_eq, commitAgrees_iff hids hw]
        exact fun ⟨hagree, hm⟩ => hdiffers hm hagree
      rw [walkStep_read hds, hread, readGroup_groupSlots]
      dsimp only
      rw [hcond]
      rfl
    · refine ⟨(cs.flatMap Change.slots).length + 2, false, ?_, Nat.succ_pos _, ?_, hno, nofun⟩
      · rw [walkStep_read hds, hread, readGroup_closed, beq_eq_false_iff_ne.mpr hchk]
        rfl
      · rw [List.length_append, List.length_cons, List.length_cons]
        omega
    · refine ⟨1, false, ?_, Nat.one_pos, Nat.succ_pos _, hno, nofun⟩
      have hnone : readGroup (b :: r) = .noGroup := by
        cases b with
        | openMark k m =>
          cases k with
          | commit => exact absurd rfl (hcommit m)
          | image => exact absurd List.mem_cons_self (himage m)
        | damaged => exact absurd rfl hb
        | numEntry id v ver => rfl
        | textEntry id len ver => rfl
        | textBytes bs => rfl
        | closeMark a b => rfl
      rw [walkStep_read hds, hread, hnone]

end

/-- Past `n` slots more of a run, the sectors still to come in it carry no restart flag. -/
theorem Cursor.Stands.pastRest {d : Cursor} {xs after : List StreamSector} {p n : Nat} (hrun : IsRun xs) (hd : d.Stands xs after p)
    (hpos : 0 < n) (hn : p + n ≤ (slotsOf xs).length) : ∃ more, (d.advance n).rest = more ++ after ∧ (∀ x ∈ more, x.flag = false) ∧
      (slotsOf xs).drop (p + n) = (d.advance n).slots ++ slotsOf more := by
  obtain ⟨pass, more, done, hc, hp, -⟩ := hd.advance hpos hn
  refine ⟨more, hc.rest, fun x hx => hrun.unflagged x ?_, by rw [← hp, hc.left]⟩
  rw [hc.split]
  cases pass with
  | nil => exact hx
  | cons y pass => exact List.mem_append_right pass (List.mem_cons_of_mem _ hx)

section
variable {E : List Entry} (hids : IdsOrdered E) {xs unread : List StreamSector} (hrun : IsRun xs)
  (hunread : ∀ x ∈ unread, x.flag = false) {c : Cursor} {p : Nat} {w : Walk}
  (hw : w.entries.map (fun e => e.defn) = E.map (fun e => e.defn)) {tail : List Slot} (hleft : (slotsOf xs).drop p = tail)
  (hne : tail ≠ []) (hfault : UnclosedGroup tail ∨ FaultyGroup E (w.durable + 1) tail)
include hids hrun hunread hw hleft hne hfault

omit hids hrun hunread hw hfault in
theorem lt_slots_of_tail : p < (slotsOf xs).length := by
  by_contra hge
  rw [List.drop_eq_nil_of_le (not_lt.mp hge)] at hleft
  exact hne hleft.symm

/-- A fault is passed over to the next sector that carries the restart flag. -/
theorem Cursor.Stands.skips {y : StreamSector} {ys : List StreamSector} (h : c.Stands xs (unread ++ y :: ys) p) (hy : y.flag = true)
    (hstop : StopsAfter xs (unread ++ y :: ys)) :
    WalkGoes c w { at0 := y, slots := y.slots, rest := ys }
      { w with skipped := w.skipped ++ (xs.drop ((p + 254) / 255) ++ unread).map (fun x => x.sector) } := by
  have hp := lt_slots_of_tail hleft hne
  obtain ⟨d, hgo, hd, hds⟩ := h.hop hp w
  obtain ⟨n, torn, hstep, hpos, hn, -⟩ := hd.meetsFault hids hrun hds hw hleft hstop hfault
  have hlen : tail.length = (slotsOf xs).length - p := by rw [← hleft, List.length_drop]
  obtain ⟨more, hrest, hmore, -⟩ := hd.pastRest hrun hpos (by omega)
  obtain ⟨more', hrest', hdrop⟩ := hd.notReached hrun
  have htarget := skipTo_flagged (us := more ++ unread) (fun x hx => (List.mem_append.mp hx).elim (hmore x) (hunread x)) hy ys
  have hmore' : ∀ x ∈ more', x.flag = false := by
    intro x hx
    obtain ⟨pass, more'', done, hc, -⟩ := hd
    have heq : more'' = more' := List.append_cancel_right (hc.rest.symm.trans hrest')
    refine hrun.unflagged x ?_
    rw [hc.split, heq]
    cases pass with
    | nil => exact hx
    | cons z pass => exact List.mem_append_right pass (List.mem_cons_of_mem _ hx)
  have hskipped : skippedFrom d = (xs.drop ((p + 254) / 255) ++ unread).map (fun x => x.sector) := by
    rw [skippedFrom, hrest', ← List.append_assoc,
      skipTo_flagged (us := more' ++ unread) (fun x hx => (List.mem_append.mp hx).elim (hmore' x) (hunread x)) hy ys, hdrop]
    split <;> simp
  rw [faultAt] at hstep
  rw [hrest, ← List.append_assoc, htarget, hskipped] at hstep
  exact hgo.trans (.one hstep)

/-- With no such sector the walk ends there. -/
theorem Cursor.Stands.endsAtFault (h : c.Stands xs unread p) (hstop : StopsAfter xs unread) : ∃ d o, WalkGoes c w d w ∧
    walkStep d w = ({ w with outcome := o }, none) ∧
    (UnclosedGroup tail → (∀ x ∈ unread, x.slots = []) → o = .tornTail) ∧
    (UnclosedGroup tail → (∃ x ∈ unread, x.slots ≠ []) → o = .truncated) ∧ (¬ UnclosedGroup tail → o = .truncated) := by
  have hp := lt_slots_of_tail hleft hne
  obtain ⟨d, hgo, hd, hds⟩ := h.hop hp w
  obtain ⟨n, torn, hstep, hpos, hn, htorn, hall⟩ := hd.meetsFault hids hrun hds hw hleft hstop hfault
  have hlen : tail.length = (slotsOf xs).length - p := by rw [← hleft, List.length_drop]
  obtain ⟨more, hrest, hmore, hpast⟩ := hd.pastRest hrun hpos (by omega)
  rw [faultAt] at hstep
  rw [hrest, skipTo_unflagged fun x hx => (List.mem_append.mp hx).elim (hmore x) (hunread x)] at hstep
  refine ⟨d, _, hgo, hstep, fun hopen hnone => ?_, fun hopen hsome => ?_, fun hopen => ?_⟩
  · have ht := htorn.mpr hopen
    rw [hall ht, show p + tail.length = (slotsOf xs).length by omega, List.drop_length] at hpast
    obtain ⟨hs, hm⟩ := List.append_eq_nil_iff.mp hpast.symm
    have hm' : ∀ x ∈ more, x.slots = [] := List.flatMap_eq_nil_iff.mp hm
    have hleftover : (d.advance tail.length).anyLeft = false := by
      rw [Cursor.anyLeft, hs, ← hall ht, hrest]
      simp only [List.isEmpty_nil, Bool.not_true, Bool.false_or, List.any_eq_false]
      intro x hx
      rcases List.mem_append.mp hx with hx | hx
      · simp [hm' x hx]
      · simp [hnone x hx]
    rw [hall ht, hleftover, ht]
    rfl
  · obtain ⟨x, hx, hxs⟩ := hsome
    have hleftover : (d.advance n).anyLeft = true := by
      rw [Cursor.anyLeft, hrest, Bool.or_eq_true]
      refine .inr (List.any_eq_true.mpr ⟨x, List.mem_append_right _ hx, by simpa using hxs⟩)
    rw [hleftover, Bool.not_true, Bool.and_false]
    rfl
  · have ht : torn = false := by rw [← Bool.not_eq_true, htorn]; exact hopen
    rw [ht]
    rfl

end

end Sys2Proof.Machine
end

section
/-! SUPPORT. The walk through stretches one after another (R114, R115, R117). -/

namespace Sys2Proof.Machine

set_option Elab.async false

open Sys2Proof

/-- The sectors of stretches, in order. -/
def sectorsOf (zs : List Stretch) : List StreamSector := zs.flatMap (fun z => z.sectors)

theorem sectorsOf_cons (z : Stretch) (zs : List Stretch) : sectorsOf (z :: zs) = z.first :: (z.others ++ (z.unread ++ sectorsOf zs)) := by
  rw [sectorsOf, List.flatMap_cons, Stretch.sectors, Stretch.run, List.append_assoc]
  rfl

theorem stretchCommits_cons (z : Stretch) (zs : List Stretch) : stretchCommits (z :: zs) = z.commits ++ stretchCommits zs :=
  List.flatMap_cons

/-- The slots of a stretch's run that stand before its tail. -/
def Stretch.reads (z : Stretch) : Nat := (slotsOf z.run).length - z.tail.length

theorem Stretch.reached_eq (z : Stretch) : z.reached = (z.reads + 254) / 255 := rfl

section
variable {E : List Entry} {n : Nat} {z : Stretch} (h : z.Follows E n)
include h

theorem Stretch.Follows.slots : slotsOf z.run = z.before ++ (commitGroups n z.commits ++ z.tail) := by
  obtain ⟨hslots, -⟩ := h
  exact hslots

theorem Stretch.Follows.isRun : IsRun z.run := by
  obtain ⟨-, hfull, hflags, -⟩ := h
  exact ⟨hfull, fun x hx => hflags x (List.mem_append_left _ hx)⟩

theorem Stretch.Follows.unread_unflagged : ∀ x ∈ z.unread, x.flag = false := by
  obtain ⟨-, -, hflags, -⟩ := h
  exact fun x hx => hflags x (List.mem_append_right _ hx)

theorem Stretch.Follows.reads_eq : z.reads = z.before.length + (commitGroups n z.commits).length := by
  rw [Stretch.reads, h.slots, List.length_append, List.length_append]
  omega

/-- Behind its COMMIT groups a stretch holds its tail. -/
theorem Stretch.Follows.left : (slotsOf z.run).drop z.reads = z.tail := by
  rw [h.reads_eq, h.slots, ← List.append_assoc, ← List.length_append, List.drop_left]

theorem Stretch.Follows.fault (hne : z.tail ≠ []) :
    UnclosedGroup z.tail ∨ FaultyGroup E (n + z.commits.length + 1) z.tail := by
  obtain ⟨-, -, -, -, htail, -⟩ := h
  exact htail.resolve_left hne

theorem Stretch.Follows.unread_nil (hnil : z.tail = []) : z.unread = [] := by
  obtain ⟨-, -, -, -, -, hunread⟩ := h
  by_contra hne
  exact (hunread hne).1 hnil

/-- Reading stops behind a run that ends in a fault, where what stands behind the stretch carries the flag. -/
theorem Stretch.Follows.stops {next : List StreamSector} (hnext : ∀ y ∈ next.head?, y.flag = true) :
    StopsAfter z.run (z.unread ++ next) := by
  obtain ⟨-, -, -, -, -, hunread⟩ := h
  cases hu : z.unread with
  | nil => exact .inr (by simpa [hu] using hnext)
  | cons x us => exact .inl (hunread (by rw [hu]; exact List.cons_ne_nil _ _)).2.1

end

theorem StretchesFollow.head {E : List Entry} {n : Nat} {z : Stretch} {zs : List Stretch} (h : StretchesFollow E n (z :: zs)) :
    z.Follows E n := h.1

/-- The stretch behind another begins with its COMMIT groups, at a flagged sector where a fault stands before it. -/
theorem StretchesFollow.next {E : List Entry} {n : Nat} {z y : Stretch} {zs : List Stretch} (h : StretchesFollow E n (z :: y :: zs)) :
    y.before = [] ∧ (z.tail ≠ [] → y.first.flag = true) ∧ StretchesFollow E (n + z.commits.length) (y :: zs) :=
  ⟨(h.2.1 y rfl).1, (h.2.1 y rfl).2, h.2.2⟩

/-- What a walk over stretches has reached at its end. -/
structure Walk.Ended (w u : Walk) (zs : List Stretch) : Prop where
  entries : u.entries = (stretchCommits zs).foldl applyChanges w.entries
  durable : u.durable = w.durable + (stretchCommits zs).length
  groups : u.groups = w.groups + (stretchCommits zs).length
  skipped : u.skipped = w.skipped ++
    (zs.dropLast.flatMap (fun y => if y.tail = [] then [] else y.behind)).map (fun x => x.sector)
  outcome : ∀ y ∈ zs.getLast?, y.Ends u.outcome
  resting : stretchCommits zs = [] → u.ending = w.ending
  ending : ∀ as y bs, zs = as ++ y :: bs → y.commits ≠ [] → (∀ b ∈ bs, b.commits = []) →
    u.ending.StandsBehind y.run (y.unread ++ sectorsOf bs) y.reads

theorem stretchCommits_eq_nil {zs : List Stretch} (h : ∀ b ∈ zs, b.commits = []) : stretchCommits zs = [] :=
  List.flatMap_eq_nil_iff.mpr h

section
variable {E : List Entry} (hids : IdsOrdered E)
include hids

/-- The COMMIT groups of a stretch, from the place where they begin. -/
theorem Stretch.Follows.walkCommits {z : Stretch} {w : Walk} (h : z.Follows E w.durable) {after : List StreamSector} {c : Cursor}
    (hc : c.Stands z.run after z.before.length) (hw : w.entries.map (fun e => e.defn) = E.map (fun e => e.defn)) :
    ∃ d e, WalkGoes c w d (w.replayed z.commits e) ∧ d.Stands z.run after z.reads ∧ (z.commits = [] → e = w.ending) ∧
      (z.commits ≠ [] → e.StandsBehind z.run after z.reads) := by
  have hleft : (slotsOf z.run).drop z.before.length = commitGroups w.durable z.commits ++ z.tail := by
    rw [h.slots, List.drop_left]
  have hcommits : ∀ cs ∈ z.commits, CommitGroupAgrees E cs := by
    obtain ⟨-, -, -, hcommits, -⟩ := h
    exact hcommits
  rw [h.reads_eq]
  exact hc.commits hids h.isRun hleft hw hcommits

/-- The walk through the last stretch. -/
theorem Stretch.Follows.walkLast {z : Stretch} {w : Walk} (h : z.Follows E w.durable) {c : Cursor}
    (hc : c.Stands z.run z.unread z.before.length) (hw : w.entries.map (fun e => e.defn) = E.map (fun e => e.defn)) :
    ∃ d v u, WalkGoes c w d v ∧ walkStep d v = (u, none) ∧ w.Ended u [z] := by
  obtain ⟨d, e, hgo, hd, hnone, hsome⟩ := h.walkCommits hids hc hw
  have hleft := h.left
  have hended (o : ReplayOutcome) (ho : z.Ends o) : w.Ended { w.replayed z.commits e with outcome := o } [z] := by
    have hone : stretchCommits [z] = z.commits := by rw [stretchCommits_cons]; exact List.append_nil _
    refine ⟨by rw [hone]; rfl, by rw [hone]; rfl, by rw [hone]; rfl, (List.append_nil _).symm, fun y hy => ?_, fun hno => ?_,
      fun as y bs hsplit hy hbs => ?_⟩
    · cases hy
      exact ho
    · exact hnone (hone ▸ hno)
    · obtain ⟨rfl, hrest⟩ : as = [] ∧ y :: bs = [z] := by
        cases as with
        | nil => exact ⟨rfl, hsplit.symm⟩
        | cons a as => simp at hsplit
      obtain ⟨rfl, rfl⟩ := List.cons_eq_cons.mp hrest
      rw [sectorsOf, List.flatMap_nil, List.append_nil]
      exact hsome hy
  by_cases htail : z.tail = []
  · have hp : z.reads = (slotsOf z.run).length := by rw [Stretch.reads, htail]; rfl
    rw [hp] at hd
    obtain ⟨f, hgo', hfs, hfr⟩ := hd.hopEnd (w.replayed z.commits e)
    refine ⟨f, _, _, hgo.trans hgo', walkStep_clean hfs (hfr.trans (h.unread_nil htail)), hended .clean ?_⟩
    have hno : ¬ UnclosedGroup z.tail := by
      rintro ⟨k, m, r, hr, -⟩
      rw [htail] at hr
      cases hr
    exact ⟨fun _ => rfl, fun h => absurd h hno, fun h => absurd h hno, fun h => absurd htail h⟩
  · have hstop : StopsAfter z.run z.unread := by simpa using h.stops (next := []) nofun
    obtain ⟨f, o, hgo', hstep, htorn, htrunc, hother⟩ := hd.endsAtFault hids h.isRun h.unread_unflagged
      (w := w.replayed z.commits e) ((foldl_applyChanges_defns _ _).trans hw) hleft htail (h.fault htail) hstop
    exact ⟨f, _, _, hgo.trans hgo', hstep, hended o ⟨fun h => absurd h htail, htorn, htrunc, fun _ => hother⟩⟩

/-- The walk through a stretch and on to the first sector of the next. -/
theorem Stretch.Follows.walkOn {z y : Stretch} {w : Walk} (h : z.Follows E w.durable) (hflag : z.tail ≠ [] → y.first.flag = true)
    {next : List StreamSector} {c : Cursor} (hc : c.Stands z.run (z.unread ++ y.first :: next) z.before.length)
    (hw : w.entries.map (fun e => e.defn) = E.map (fun e => e.defn)) :
    ∃ e, WalkGoes c w { at0 := y.first, slots := y.first.slots, rest := next }
        { w.replayed z.commits e with
          skipped := w.skipped ++ (if z.tail = [] then [] else z.behind).map (fun x => x.sector) } ∧
      (z.commits = [] → e = w.ending) ∧ (z.commits ≠ [] → e.StandsBehind z.run (z.unread ++ y.first :: next) z.reads) := by
  obtain ⟨d, e, hgo, hd, hnone, hsome⟩ := h.walkCommits hids hc hw
  refine ⟨e, ?_, hnone, hsome⟩
  by_cases htail : z.tail = []
  · have hp : z.reads = (slotsOf z.run).length := by rw [Stretch.reads, htail]; rfl
    rw [hp] at hd
    obtain ⟨f, hgo', hfs, hfr⟩ := hd.hopEnd (w.replayed z.commits e)
    rw [h.unread_nil htail, List.nil_append] at hfr
    rw [if_pos htail, List.map_nil, List.append_nil]
    exact (hgo.trans hgo').trans (.one (walkStep_hop hfs hfr))
  · have hskip := hd.skips hids h.isRun h.unread_unflagged (w := w.replayed z.commits e)
      ((foldl_applyChanges_defns _ _).trans hw) (h.left) htail (h.fault htail) (hflag htail)
      (h.stops (by rintro x ⟨⟩; exact hflag htail))
    rw [if_neg htail]
    exact hgo.trans hskip

/-- The walk through stretches, from the place where the COMMIT groups of the first begin. -/
theorem walk_stretches (zs : List Stretch) (z : Stretch) (w : Walk) (h : StretchesFollow E w.durable (z :: zs)) {c : Cursor}
    (hc : c.Stands z.run (z.unread ++ sectorsOf zs) z.before.length)
    (hw : w.entries.map (fun e => e.defn) = E.map (fun e => e.defn)) :
    ∃ d v u, WalkGoes c w d v ∧ walkStep d v = (u, none) ∧ w.Ended u (z :: zs) := by
  induction zs generalizing z w c with
  | nil =>
    rw [sectorsOf, List.flatMap_nil, List.append_nil] at hc
    exact h.head.walkLast hids hc hw
  | cons y zs ih =>
    obtain ⟨hbefore, hflag, hnext⟩ := h.next
    rw [sectorsOf_cons] at hc
    obtain ⟨e, hgo, hnone, hsome⟩ := h.head.walkOn hids hflag hc hw
    obtain ⟨v, hv⟩ : ∃ v, v = ({ w.replayed z.commits e with
      skipped := w.skipped ++ (if z.tail = [] then [] else z.behind).map (fun x => x.sector) } : Walk) := ⟨_, rfl⟩
    have hvdurable : v.durable = w.durable + z.commits.length := by rw [hv]; rfl
    have hventries : v.entries = z.commits.foldl applyChanges w.entries := by rw [hv]; rfl
    have hstart : ({ at0 := y.first, slots := y.first.slots, rest := y.others ++ (y.unread ++ sectorsOf zs) } : Cursor).Stands y.run
        (y.unread ++ sectorsOf zs) y.before.length := by
      rw [hbefore]
      exact Cursor.stands_start y.first y.others _
    rw [← hv] at hgo
    obtain ⟨d, v', u, hgo', hstep, hended⟩ := ih y v (by rw [hvdurable]; exact hnext) hstart
      (by rw [hventries, foldl_applyChanges_defns, hw])
    refine ⟨d, v', u, hgo.trans hgo', hstep, ?_, ?_, ?_, ?_, ?_, fun hno => ?_, fun as x bs hsplit hx hbs => ?_⟩
    · rw [hended.entries, hventries, stretchCommits_cons z, List.foldl_append]
    · rw [hended.durable, hvdurable, stretchCommits_cons z, List.length_append, Nat.add_assoc]
    · rw [hended.groups, stretchCommits_cons z, List.length_append, ← Nat.add_assoc, hv]
      rfl
    · rw [hended.skipped, List.dropLast_cons_cons, List.flatMap_cons, List.map_append, ← List.append_assoc, hv]
    · exact fun x hx => hended.outcome x (by rwa [List.getLast?_cons_cons] at hx)
    · obtain ⟨hz, hzs⟩ := List.append_eq_nil_iff.mp ((stretchCommits_cons z _).symm.trans hno)
      rw [hended.resting hzs, hv]
      exact hnone hz
    · cases as with
      | nil =>
        obtain ⟨rfl, rfl⟩ := List.cons_eq_cons.mp hsplit
        rw [hended.resting (stretchCommits_eq_nil hbs), hv, sectorsOf_cons]
        exact hsome hx
      | cons a as =>
        obtain ⟨-, hrest⟩ := List.cons_eq_cons.mp hsplit
        exact hended.ending as x bs hrest hx hbs

end

end Sys2Proof.Machine
end

section
/-! SUPPORT. The newest image of the stream (R113). -/

namespace Sys2Proof.Machine

set_option Elab.async false

open Sys2Proof

/-! ### Where no image begins -/

/-- What is readable from a place begins with the rest of its own sector. -/
theorem Cursor.readable_eq (c : Cursor) : ∃ ext, c.readable = c.slots ++ ext := by
  rw [Cursor.readable]
  cases c.rest with
  | nil => exact ⟨[], (List.append_nil _).symm⟩
  | cons x rest =>
    rw [Machine.readable]
    split
    · exact ⟨_, rfl⟩
    · exact ⟨[], (List.append_nil _).symm⟩

/-- Slots without a close mark hold no closed group. -/
theorem readGroup_noClose {l : List Slot} (h : ∀ a b, Slot.closeMark a b ∉ l) (k : GroupKind) (m : Nat) (cs : List Change) (good : Bool)
    (n : Nat) : readGroup l ≠ .closed k m cs good n := by
  intro hread
  unfold readGroup at hread
  split at hread
  · rename_i k num r
    have hc := (readBody_unclosed (fun a b hm => h a b (List.mem_cons_of_mem _ hm)) none [] true 0 (l := r)).1
    dsimp only at hread
    rw [hc] at hread
    cases hread
  · rename_i r
    have hc := (readBody_unclosed (fun a b hm => h a b (List.mem_cons_of_mem _ hm)) none [] false 0 (l := r)).1
    dsimp only at hread
    rw [hc] at hread
    cases hread
  all_goals cases hread

section
variable {es : List Entry} {c : Cursor}

theorem imageAt_eq_none (h : ∀ m cs good n, readGroup c.readable ≠ .closed .image m cs good n) : imageAt es c = none := by
  unfold imageAt
  split
  · rename_i hread
    exact absurd hread (h _ _ _ _)
  all_goals rfl

theorem imageAt_noMark {s : Slot} {ss : List Slot} (hs : c.slots = s :: ss) (h : ∀ m, s ≠ .openMark .image m) : imageAt es c = none := by
  refine imageAt_eq_none fun m cs good n hread => ?_
  obtain ⟨r, hr⟩ := readGroup_image hread
  obtain ⟨ext, hext⟩ := c.readable_eq
  rw [hext, hs] at hr
  exact h m (List.cons_eq_cons.mp hr).1

end

/-- From place `q` of a stretch on no IMAGE group begins before its tail. -/
def Stretch.NoImageFrom (z : Stretch) (n q : Nat) : Prop :=
  ∀ m, Slot.openMark .image m ∉ (z.before ++ commitGroups n z.commits).drop q

theorem commitGroups_noImage (commits : List (List Change)) (n m : Nat) : Slot.openMark .image m ∉ commitGroups n commits := by
  induction commits generalizing n with
  | nil => exact List.not_mem_nil
  | cons cs commits ih =>
    rw [commitGroups_cons, List.mem_append, not_or]
    refine ⟨fun hmem => ?_, ih _⟩
    rw [groupSlots] at hmem
    rw [List.mem_append, List.mem_cons, List.mem_singleton] at hmem
    rcases hmem with (hmem | hmem) | hmem
    · cases hmem
    · exact (changes_noMark cs).1 _ _ hmem
    · cases hmem

section
variable {E es : List Entry} {n q : Nat} {z : Stretch} (h : z.Follows E n) {next : List StreamSector}
  (hnext : z.tail ≠ [] → ∀ y ∈ next.head?, y.flag = true) (hno : z.NoImageFrom n q)
include h hnext hno

/-- No image begins at a place of the run from `q` on. -/
theorem Stretch.Follows.noImageAt {c : Cursor} {p : Nat} (hc : c.Stands z.run (z.unread ++ next) p) (hq : q ≤ p) (hslots : c.slots ≠ []) :
    imageAt es c = none := by
  obtain ⟨s, ss, hs⟩ := List.exists_cons_of_ne_nil hslots
  obtain ⟨more, -, hleft⟩ := hc.slots_nil_or
  rw [hs, List.cons_append] at hleft
  by_cases hp : p < z.reads
  · refine imageAt_noMark hs fun m hm => hno m ?_
    have hlt : p < (z.before ++ commitGroups n z.commits).length := by rw [List.length_append, ← h.reads_eq]; exact hp
    rw [h.slots, ← List.append_assoc, List.drop_append_of_le_length hlt.le, List.drop_eq_getElem_cons hlt, List.cons_append] at hleft
    rw [← hm, ← (List.cons_eq_cons.mp hleft).1]
    refine List.mem_iff_getElem.mpr ⟨p - q, by rw [List.length_drop]; omega, ?_⟩
    rw [List.getElem_drop]
    congr 1
    omega
  · have htail : (slotsOf z.run).drop p = z.tail.drop (p - z.reads) := by
      rw [← h.left, List.drop_drop, show z.reads + (p - z.reads) = p by omega]
    have hmem : s ∈ z.tail := List.mem_of_mem_drop (i := p - z.reads) (by rw [← htail, hleft]; exact List.mem_cons_self)
    have hne : z.tail ≠ [] := List.ne_nil_of_mem hmem
    rcases h.fault hne with ⟨k, m, r, hr, hclose⟩ | ⟨himage, -⟩
    · obtain ⟨ext, hread, hext⟩ := hc.readable h.isRun
      rw [hext (h.stops (hnext hne)), List.append_nil, htail] at hread
      refine imageAt_eq_none fun m' cs good n' => ?_
      rw [hread]
      refine readGroup_noClose (fun a b hab => ?_) _ _ _ _ _
      have hab' := List.mem_of_mem_drop hab
      rw [hr] at hab'
      rcases List.mem_cons.mp hab' with hab' | hab'
      · cases hab'
      · exact hclose a b hab'
    · exact imageAt_noMark hs fun m hm => himage m (hm ▸ hmem)

end

theorem imagesInSector_eq_nil {es : List Entry} {x : StreamSector} {rest : List StreamSector} {l : List Slot}
    (h : ∀ done s ss, l = done ++ s :: ss → imageAt es { at0 := x, slots := s :: ss, rest := rest } = none) :
    imagesInSector es x rest l = [] := by
  induction l with
  | nil => rfl
  | cons s l ih =>
    rw [imagesInSector, h [] s l rfl, ih fun done t ss hl => h (s :: done) t ss (by rw [hl]; rfl)]
    rfl

/-- The images of the later places of a sector come last. -/
theorem imagesInSector_append (es : List Entry) (x : StreamSector) (rest : List StreamSector) (a b : List Slot) :
    ∃ found, imagesInSector es x rest (a ++ b) = found ++ imagesInSector es x rest b := by
  induction a with
  | nil => exact ⟨[], rfl⟩
  | cons s a ih =>
    obtain ⟨found, hfound⟩ := ih
    exact ⟨_, by rw [List.cons_append, imagesInSector, hfound, ← List.append_assoc]⟩

theorem images_append (es : List Entry) (older stream : List StreamSector) :
    ∃ found, images es (older ++ stream) = found ++ images es stream := by
  induction older with
  | nil => exact ⟨[], rfl⟩
  | cons x older ih =>
    obtain ⟨found, hfound⟩ := ih
    exact ⟨_, by rw [List.cons_append, images, hfound, ← List.append_assoc]⟩

/-- Sectors in which no IMAGE group begins add no image. -/
theorem images_noMark {es : List Entry} {us next : List StreamSector} (h : ∀ x ∈ us, ∀ m, Slot.openMark .image m ∉ x.slots) :
    images es (us ++ next) = images es next := by
  induction us with
  | nil => rfl
  | cons x us ih =>
    rw [List.cons_append, images, ih fun y hy => h y (List.mem_cons_of_mem x hy), imagesInSector_eq_nil fun done s ss hl => ?_]
    · rfl
    · refine imageAt_noMark rfl fun m hm => h x List.mem_cons_self m ?_
      rw [hl, hm]
      exact List.mem_append_right _ List.mem_cons_self

theorem Stretch.Follows.unread_noMark {E : List Entry} {n : Nat} {z : Stretch} (h : z.Follows E n) :
    ∀ x ∈ z.unread, ∀ m, Slot.openMark .image m ∉ x.slots := by
  obtain ⟨-, -, -, -, -, hunread⟩ := h
  exact fun x hx => (hunread (List.ne_nil_of_mem hx)).2.2 x hx

/-- The rest of a run, from a sector at whose start no image can begin any more, adds no image. -/
theorem Stretch.Follows.images_rest {E es : List Entry} {n q : Nat} {z : Stretch} (h : z.Follows E n) {next : List StreamSector}
    (hnext : z.tail ≠ [] → ∀ y ∈ next.head?, y.flag = true) (hno : z.NoImageFrom n q) (pass more : List StreamSector)
    (hsplit : z.run = pass ++ more) (hq : q ≤ (slotsOf pass).length) : images es (more ++ (z.unread ++ next)) = images es next := by
  induction more generalizing pass with
  | nil => exact images_noMark h.unread_noMark
  | cons x more ih =>
    have hlen : (slotsOf pass).length ≤ (slotsOf (pass ++ [x])).length := by rw [slotsOf_append, List.length_append]; omega
    rw [List.cons_append, images, ih (pass ++ [x]) (by rw [hsplit, List.append_assoc]; rfl) (hq.trans hlen),
      imagesInSector_eq_nil fun done s ss hl => ?_]
    · rfl
    · exact h.noImageAt hnext hno ⟨pass, more, done, ⟨hsplit, rfl, hl⟩, rfl⟩ (hq.trans (Nat.le_add_right _ _)) (List.cons_ne_nil s ss)

/-- What stands behind a stretch that ends in a fault carries the flag. -/
theorem StretchesFollow.flagged {E : List Entry} {n : Nat} {z : Stretch} {zs : List Stretch} (h : StretchesFollow E n (z :: zs)) :
    z.tail ≠ [] → ∀ y ∈ (sectorsOf zs).head?, y.flag = true := by
  intro hne y hy
  cases zs with
  | nil => cases hy
  | cons y' zs =>
    rw [sectorsOf_cons] at hy
    cases hy
    exact h.next.2.1 hne

/-- Stretches of COMMIT groups alone hold no image. -/
theorem StretchesFollow.images_nil {E es : List Entry} (zs : List Stretch) (n : Nat) (h : StretchesFollow E n zs)
    (hbefore : ∀ z ∈ zs.head?, z.before = []) : images es (sectorsOf zs) = [] := by
  induction zs generalizing n with
  | nil => rfl
  | cons z zs ih =>
    have hno : z.NoImageFrom n 0 := fun m => by
      rw [hbefore z rfl]
      exact commitGroups_noImage _ _ _
    have hrest := h.head.images_rest (es := es) h.flagged hno [] z.run rfl (Nat.zero_le _)
    have hcons : sectorsOf (z :: zs) = z.run ++ (z.unread ++ sectorsOf zs) := by rw [sectorsOf_cons]; rfl
    rw [hcons, hrest]
    exact ih _ h.2.2 fun y hy => (h.2.1 y hy).1

/-! ### The image where a stretch says (R113) -/

/-- The place in a stretch's first sector that its first slots lead to, with `next` behind the stretch. -/
def Stretch.placeAfter (z : Stretch) (pre : List Slot) (next : List StreamSector) : Cursor :=
  { at0 := z.first, slots := z.first.slots.drop pre.length, rest := z.others ++ (z.unread ++ next) }

/-- The image that stands there. -/
def Stretch.imageAfter (z : Stretch) (pre : List Slot) (next : List StreamSector) (n : Nat) (image : List Change) : ImageFound where
  generation := z.first.generation
  after := (z.placeAfter pre next).advance (groupSlots .image n image).length
  number := n
  entries := image

section
variable {E es : List Entry} {n : Nat} {z : Stretch} {zs : List Stretch} (h : StretchesFollow E n (z :: zs)) {pre : List Slot}
  {image : List Change} (hbefore : z.before = pre ++ groupSlots .image n image) (hpre : pre.length < z.first.slots.length)
include h hbefore hpre

omit h hbefore in
theorem Stretch.placeAfter_stands : (z.placeAfter pre (sectorsOf zs)).Stands z.run (z.unread ++ sectorsOf zs) pre.length :=
  ⟨[], z.others, z.first.slots.take pre.length, ⟨rfl, rfl, (List.take_append_drop _ _).symm⟩, by
    rw [List.length_take_of_le hpre.le]
    exact Nat.zero_add _⟩

/-- It is the newest image of a stream that ends with the stretches. -/
theorem newestImage_stretches (hagree : imageAgrees es image = true) (older : List StreamSector) :
    newestImage es (older ++ sectorsOf (z :: zs)) = some (z.imageAfter pre (sectorsOf zs) n image) := by
  obtain ⟨c, hc⟩ : ∃ c, c = z.placeAfter pre (sectorsOf zs) := ⟨_, rfl⟩
  have hstands : c.Stands z.run (z.unread ++ sectorsOf zs) pre.length := by
    rw [hc]
    exact Stretch.placeAfter_stands hpre
  have hleft : (slotsOf z.run).drop pre.length = groupSlots .image n image ++ (commitGroups n z.commits ++ z.tail) := by
    rw [h.head.slots, hbefore, List.append_assoc, List.drop_left]
  obtain ⟨ext, hread, -⟩ := hstands.readable h.head.isRun
  have hat : imageAt es c = some (z.imageAfter pre (sectorsOf zs) n image) := by
    rw [imageAt, hread, hleft, List.append_assoc, readGroup_groupSlots]
    dsimp only
    rw [hagree, hc]
    rfl
  obtain ⟨s, ss, hs⟩ := List.exists_cons_of_ne_nil (l := c.slots) (by
    rw [hc]
    refine List.ne_nil_of_length_pos ?_
    change 0 < (z.first.slots.drop pre.length).length
    rw [List.length_drop]
    omega)
  have hfirst : z.first.slots = z.first.slots.take pre.length ++ s :: ss := by
    rw [← hs, hc]
    exact (List.take_append_drop _ _).symm
  have hno : z.NoImageFrom n (pre.length + 1) := by
    intro m hm
    rw [hbefore, List.append_assoc, ← List.drop_drop, List.drop_left, groupSlots_append, List.cons_append, List.drop_one, List.tail_cons,
      List.mem_append, List.mem_cons] at hm
    rcases hm with hm | hm | hm
    · exact (changes_noMark image).1 _ _ hm
    · cases hm
    · exact commitGroups_noImage _ _ _ hm
  have hlater : imagesInSector es z.first (z.others ++ (z.unread ++ sectorsOf zs)) ss = [] := by
    refine imagesInSector_eq_nil fun done t ts hl => ?_
    refine h.head.noImageAt h.flagged hno (p := pre.length + 1 + done.length) ?_ (Nat.le_add_right _ _) (List.cons_ne_nil t ts)
    refine ⟨[], z.others, z.first.slots.take pre.length ++ s :: done, ⟨rfl, rfl, ?_⟩, ?_⟩
    · rw [List.append_assoc, List.cons_append, ← hl]
      exact hfirst
    · rw [List.length_append, List.length_cons, List.length_take_of_le hpre.le]
      have : (slotsOf ([] : List StreamSector)).length = 0 := rfl
      omega
  have hrest : images es (z.others ++ (z.unread ++ sectorsOf zs)) = [] := by
    rw [h.head.images_rest h.flagged hno [z.first] z.others rfl (by rw [slotsOf_cons, List.length_append]; omega)]
    exact StretchesFollow.images_nil zs _ h.2.2 fun y hy => (h.2.1 y hy).1
  obtain ⟨found, hfound⟩ :=
    imagesInSector_append es z.first (z.others ++ (z.unread ++ sectorsOf zs)) (z.first.slots.take pre.length) (s :: ss)
  obtain ⟨found', hfound'⟩ := images_append es older (sectorsOf (z :: zs))
  have hplace : ({ at0 := z.first, slots := s :: ss, rest := z.others ++ (z.unread ++ sectorsOf zs) } : Cursor) = c := by
    rw [← hs, hc]
    rfl
  rw [newestImage, hfound', sectorsOf_cons, images, hrest, hfirst, hfound, imagesInSector, hlater, hplace, hat,
    Option.toList_some, List.append_nil, List.append_nil, ← List.append_assoc, List.getLast?_concat]

end

end Sys2Proof.Machine
end

section
/-! SUPPORT. What a replay over stretches hands on (R113 to R116). -/

namespace Sys2Proof.Machine

set_option Elab.async false

open Sys2Proof

/-! ### The values of the entries (R113, R114) -/

/-- What replay sets an entry to for a change that names it. -/
def Change.replayed (c : Change) : Live := { working := c.value, committed := c.value, version := c.version }

/-- Among changes of distinct ids the first with an id is the last. -/
theorem find?_reverse_of_nodup {cs : List Change} (h : (cs.map (fun c => c.id)).Nodup) (i : Nat) :
    cs.reverse.find? (fun c => decide (c.id = i)) = cs.find? (fun c => c.id == i) := by
  cases hf : cs.find? (fun c => c.id == i) with
  | none =>
    rw [List.find?_eq_none] at hf ⊢
    exact fun c hc => by simpa using hf c (List.mem_reverse.mp hc)
  | some c =>
    obtain ⟨b, hb⟩ := Option.isSome_iff_exists.mp (List.find?_isSome.mpr
      ⟨c, List.mem_reverse.mpr (List.mem_of_find?_eq_some hf), by simpa using List.find?_some hf⟩ :
      (cs.reverse.find? (fun c => decide (c.id = i))).isSome = true)
    have hbid : b.id = i := by simpa using List.find?_some hb
    have hcid : c.id = i := by simpa using List.find?_some hf
    rw [hb, List.inj_on_of_nodup_map h (List.mem_reverse.mp (List.mem_of_find?_eq_some hb)) (List.mem_of_find?_eq_some hf)
      (hbid.trans hcid.symm)]

/-- After groups applied in order an entry is as the last change that names it says. -/
theorem foldl_applyChanges_live {css : List (List Change)} (h : ∀ cs ∈ css, (cs.map (fun c => c.id)).Nodup) (es : List Entry) :
    ∀ e ∈ css.foldl applyChanges es, ∀ c, css.flatten.reverse.find? (fun c => decide (c.id = e.defn.id)) = some c →
      e.live = some c.replayed := by
  induction css using List.reverseRecOn with
  | nil => exact fun e _ c hc => nomatch hc
  | append_singleton css cs ih =>
    have hnodup : (cs.map (fun c => c.id)).Nodup := h cs (List.mem_append_right _ (List.mem_singleton.mpr rfl))
    rw [List.foldl_append, List.foldl_cons, List.foldl_nil, List.flatten_append, List.flatten_singleton, List.reverse_append]
    intro e he c hc
    obtain ⟨e0, he0, rfl⟩ := List.mem_map.mp he
    rw [List.find?_append] at hc
    cases hf : cs.find? (fun c => c.id == e0.defn.id) with
    | none =>
      simp only [hf] at hc ⊢
      rw [find?_reverse_of_nodup hnodup, hf, Option.none_or] at hc
      exact ih (fun cs' hcs' => h cs' (List.mem_append_left _ hcs')) e0 he0 c hc
    | some b =>
      simp only [hf] at hc ⊢
      rw [find?_reverse_of_nodup hnodup, hf, Option.some_or] at hc
      cases hc
      rfl

theorem persistentIds_nodup {E : List Entry} (hids : IdsOrdered E) :
    ((E.filter (fun e => e.defn.persistent)).map (fun e => e.defn.id)).Nodup :=
  (List.Pairwise.sublist ((List.filter_sublist).map _) hids).imp Nat.ne_of_lt

section
variable {E : List Entry} (hids : IdsOrdered E) {image : List Change}
  (hnames : image.map (fun c => c.id) = (E.filter (fun e => e.defn.persistent)).map (fun e => e.defn.id))
include hids hnames

/-- An image and COMMIT groups after it give every persistent entry its value. -/
theorem restored_entries {es : List Entry} (hes : es.map (fun e => e.defn) = E.map (fun e => e.defn)) {commits : List (List Change)}
    (hcommits : ∀ cs ∈ commits, CommitGroupAgrees E cs) :
    ∀ e ∈ commits.foldl applyChanges (applyChanges es image), e.defn.persistent = true →
      ∃ c, (image ++ commits.flatten).reverse.find? (fun c => decide (c.id = e.defn.id)) = some c ∧ e.live = some c.replayed := by
  intro e he hpersistent
  have hdefn : e.defn ∈ E.map (fun e => e.defn) := by
    rw [← hes, ← applyChanges_defns es image, ← foldl_applyChanges_defns commits]
    exact List.mem_map_of_mem he
  obtain ⟨e0, he0, heq⟩ := List.mem_map.mp hdefn
  have hid : e.defn.id ∈ image.map (fun c => c.id) := by
    rw [hnames, ← heq]
    exact List.mem_map_of_mem (List.mem_filter.mpr ⟨he0, by rw [heq]; exact hpersistent⟩)
  obtain ⟨b, hb, hbid⟩ := List.mem_map.mp hid
  obtain ⟨c, hc⟩ := Option.isSome_iff_exists.mp (List.find?_isSome.mpr
    ⟨b, List.mem_reverse.mpr (List.mem_append_left _ hb), decide_eq_true hbid⟩ :
    ((image ++ commits.flatten).reverse.find? (fun c => decide (c.id = e.defn.id))).isSome = true)
  refine ⟨c, hc, foldl_applyChanges_live (css := image :: commits) (fun cs hcs => ?_) es e he c hc⟩
  rcases List.mem_cons.mp hcs with rfl | hcs
  · rw [hnames]
    exact persistentIds_nodup hids
  · exact (hcommits cs hcs).1.imp Nat.ne_of_lt

/-- An image with the ids of the persistent entries and agreeing values agrees with the catalog at its defaults. -/
theorem imageAgrees_atDefaults (hagree : ∀ c ∈ image, c.Agrees E) : imageAgrees (atDefaults E) image = true := by
  have hdefns := atDefaults_defns E
  have hfilter : ((atDefaults E).filter (fun e => e.defn.persistent)).map (fun e => e.defn.id) =
      (E.filter (fun e => e.defn.persistent)).map (fun e => e.defn.id) := by
    rw [atDefaults, List.filter_map, List.map_map]
    rfl
  rw [imageAgrees, Bool.and_eq_true, beq_iff_eq, List.all_eq_true, hfilter]
  exact ⟨hnames, fun c hc => (changeAgrees_iff (idsOrdered_of_defns hdefns hids) c).mpr (c.agrees_congr hdefns.symm (hagree c hc))⟩

end

/-! ### Replay after an image (R113 to R116) -/

/-- The walk as it begins after an image. -/
def ImageFound.start (im : ImageFound) (es : List Entry) : Walk where
  entries := applyChanges (atDefaults es) im.entries
  durable := im.number
  groups := 1
  ending := im.after
  skipped := []
  outcome := .clean

/-- What a walk that began after an image hands over. -/
def Walk.handed (w : Walk) (im : ImageFound) : Replayed where
  entries := w.entries
  durable := w.durable
  result :=
    { outcome := w.outcome, groups := w.groups, imageGeneration := some im.generation, endSector := some w.ending.at0.sector,
      later := w.ending.rest.map (fun x => x.sector), skipped := w.skipped, tail := w.ending.anyLeft }

theorem replay_of_image {nv : NonVol} {es : List Entry} {im : ImageFound} (h : newestImage (atDefaults es) nv.stream = some im) :
    replay nv es = (walk (streamFuel nv.stream) im.after (im.start es)).handed im := by
  unfold replay
  dsimp only
  rw [h]
  rfl

theorem streamFuel_eq (stream : List StreamSector) : streamFuel stream = (stream.map (fun x => x.slots.length + 1)).sum + 1 := by
  rw [streamFuel, List.sum_map_add, List.map_const', List.sum_replicate, smul_eq_mul, Nat.mul_one, Nat.add_comm stream.length]

theorem Cursor.anyLeft_iff (c : Cursor) : c.anyLeft = true ↔ c.slots ≠ [] ∨ ∃ x ∈ c.rest, x.slots ≠ [] := by
  rw [Cursor.anyLeft]
  simp

theorem slotsOf_ne_nil_iff (xs : List StreamSector) : slotsOf xs ≠ [] ↔ ∃ x ∈ xs, x.slots ≠ [] := by
  rw [slotsOf, ne_eq, List.flatMap_eq_nil_iff]
  simp only [not_forall, exists_prop, ne_eq]

section
variable {E : List Entry} (hids : IdsOrdered E) {n : Nat} {z : Stretch} {zs : List Stretch} (h : StretchesFollow E n (z :: zs))
  {pre : List Slot} {image : List Change} (hbefore : z.before = pre ++ groupSlots .image n image)
  (hpre : pre.length < z.first.slots.length)
include hids h hbefore hpre

omit hids in
/-- The place after the image is where the COMMIT groups begin. -/
theorem Stretch.imageAfter_standsBehind :
    (z.imageAfter pre (sectorsOf zs) n image).after.StandsBehind z.run (z.unread ++ sectorsOf zs) z.before.length := by
  have hslots := h.head.slots
  have hle : z.before.length ≤ (slotsOf z.run).length := by
    rw [hslots, List.length_append]
    omega
  rw [hbefore, List.length_append] at hle ⊢
  exact (Stretch.placeAfter_stands hpre).advance (by rw [groupSlots_length]; omega) hle

omit hids h hbefore hpre in
theorem Stretch.imageAfter_toPass (older : List StreamSector) :
    (z.imageAfter pre (sectorsOf zs) n image).after.toPass < streamFuel (older ++ sectorsOf (z :: zs)) := by
  have hle := (advance_toPass (z.others ++ (z.unread ++ sectorsOf zs)) (groupSlots .image n image).length z.first
    (z.first.slots.drop pre.length)).1
  rw [List.length_drop] at hle
  rw [streamFuel_eq, List.map_append, List.sum_append, sectorsOf_cons, List.map_cons, List.sum_cons]
  refine Nat.lt_succ_of_le (Nat.le_trans hle ?_)
  omega

/-- Replay over stretches is a walk that begins after the image and ends as the stretches say. -/
theorem replay_stretches {nv : NonVol} {older : List StreamSector} (hstream : nv.stream = older ++ sectorsOf (z :: zs))
    (hagree : imageAgrees (atDefaults E) image = true) : ∃ u, replay nv E = u.handed (z.imageAfter pre (sectorsOf zs) n image) ∧
      ((z.imageAfter pre (sectorsOf zs) n image).start E).Ended u (z :: zs) := by
  have himage := newestImage_stretches (es := atDefaults E) h hbefore hpre hagree older
  rw [← hstream] at himage
  obtain ⟨d, v, u, hgo, hend, hended⟩ := walk_stretches hids zs z ((z.imageAfter pre (sectorsOf zs) n image).start E) h
    (Stretch.imageAfter_standsBehind h hbefore hpre).stands ((applyChanges_defns _ _).trans (atDefaults_defns _))
  refine ⟨u, ?_, hended⟩
  rw [replay_of_image himage, hgo.walk hend (by rw [hstream]; exact Stretch.imageAfter_toPass older)]

omit hids in
/-- The walk's end stands behind the last group that it replayed. -/
theorem Walk.Ended.standsBehind {u : Walk} (hu : ((z.imageAfter pre (sectorsOf zs) n image).start E).Ended u (z :: zs))
    {as : List Stretch} {y : Stretch} {bs : List Stretch} (hsplit : z :: zs = as ++ y :: bs) (hy : as = [] ∨ y.commits ≠ [])
    (hbs : ∀ b ∈ bs, b.commits = []) : u.ending.StandsBehind y.run (y.unread ++ sectorsOf bs) y.reads := by
  by_cases hcommits : y.commits = []
  · obtain rfl := hy.resolve_right (not_not_intro hcommits)
    obtain ⟨rfl, rfl⟩ := List.cons_eq_cons.mp hsplit
    have hno : stretchCommits (z :: zs) = [] := by
      rw [stretchCommits_cons, hcommits, stretchCommits_eq_nil hbs]
      rfl
    rw [hu.resting hno, h.head.reads_eq, hcommits]
    exact Stretch.imageAfter_standsBehind h hbefore hpre
  · exact hu.ending as y bs hsplit hcommits hbs

end

/-- Each of stretches that follow one another follows some number. -/
theorem StretchesFollow.member {E : List Entry} {n : Nat} {zs as bs : List Stretch} {y : Stretch} (h : StretchesFollow E n zs)
    (hsplit : zs = as ++ y :: bs) : ∃ m, y.Follows E m := by
  induction as generalizing zs n with
  | nil =>
    subst hsplit
    exact ⟨n, h.head⟩
  | cons a as ih =>
    subst hsplit
    exact ih h.2.2 rfl

theorem StretchesFollow.commitsAgree {E : List Entry} {n : Nat} {zs : List Stretch} (h : StretchesFollow E n zs) :
    ∀ cs ∈ stretchCommits zs, CommitGroupAgrees E cs := by
  intro cs hcs
  obtain ⟨y, hy, hmem⟩ := List.mem_flatMap.mp hcs
  obtain ⟨as, bs, hsplit⟩ := List.append_of_mem hy
  obtain ⟨m, -, -, -, hagree, -⟩ := h.member hsplit
  exact hagree cs hmem

/-- What is handed on from a place behind the groups of a stretch (R116, R117). -/
theorem Stretch.Follows.handed {E : List Entry} {m : Nat} {y : Stretch} (h : y.Follows E m) {c : Cursor} {next : List StreamSector}
    (hc : c.StandsBehind y.run (y.unread ++ next) y.reads) :
    some c.at0.sector = (y.run.take y.reached).getLast?.map (fun x => x.sector) ∧ c.rest = y.behind ++ next ∧
      (c.anyLeft = true ↔ y.tail ≠ [] ∨ ∃ x ∈ y.unread ++ next, x.slots ≠ []) := by
  obtain ⟨hat, hrest⟩ := hc.reached h.isRun
  rw [← y.reached_eq] at hat hrest
  refine ⟨by rw [hat]; rfl, by rw [hrest, Stretch.behind, List.append_assoc], ?_⟩
  obtain ⟨more, hmore, hleft⟩ := hc.stands.slots_nil_or
  rw [c.anyLeft_iff, ← h.left, hleft, hmore, ne_eq, ne_eq, List.append_eq_nil_iff, not_and_or, or_assoc, ← ne_eq (slotsOf more),
    slotsOf_ne_nil_iff]
  simp only [List.mem_append, or_and_right, exists_or]

end Sys2Proof.Machine
end

section
/-! SUPPORT. O56: replay restores the committed values. -/

namespace Sys2Proof.Machine

set_option Elab.async false

open Sys2Proof

/-! ### The stream (R112) -/

theorem mem_insertStream {x y : StreamSector} {l : List StreamSector} : y ∈ insertStream x l ↔ y = x ∨ y ∈ l := by
  induction l with
  | nil => rw [insertStream, List.mem_singleton, or_iff_left List.not_mem_nil]
  | cons a l ih =>
    rw [insertStream]
    split
    · rw [List.mem_cons]
    · rw [List.mem_cons, ih, List.mem_cons, or_left_comm]

theorem insertStream_pairwise {x : StreamSector} {l : List StreamSector} (h : l.Pairwise (fun x y => x.generation ≤ y.generation)) :
    (insertStream x l).Pairwise (fun x y => x.generation ≤ y.generation) := by
  induction l with
  | nil => exact List.pairwise_singleton _ _
  | cons a l ih =>
    obtain ⟨ha, hl⟩ := List.pairwise_cons.mp h
    rw [insertStream]
    split
    · rename_i hlt
      refine List.pairwise_cons.mpr ⟨fun y hy => ?_, h⟩
      rcases List.mem_cons.mp hy with rfl | hy
      · exact hlt.le
      · exact hlt.le.trans (ha y hy)
    · rename_i hge
      refine List.pairwise_cons.mpr ⟨fun y hy => ?_, ih hl⟩
      rcases mem_insertStream.mp hy with rfl | hy
      · exact not_lt.mp hge
      · exact ha y hy

theorem foldl_insertStream (xs : List StreamSector) {acc : List StreamSector}
    (h : acc.Pairwise (fun x y => x.generation ≤ y.generation)) :
    (xs.foldl (fun acc x => insertStream x acc) acc).Pairwise (fun x y => x.generation ≤ y.generation) ∧
      ∀ y, y ∈ xs.foldl (fun acc x => insertStream x acc) acc ↔ y ∈ xs ∨ y ∈ acc := by
  induction xs generalizing acc with
  | nil => exact ⟨h, fun y => (or_iff_right List.not_mem_nil).symm⟩
  | cons x xs ih =>
    obtain ⟨hsorted, hmem⟩ := ih (insertStream_pairwise (x := x) h)
    refine ⟨hsorted, fun y => ?_⟩
    rw [List.foldl_cons, hmem, mem_insertStream, List.mem_cons, or_left_comm, or_assoc]

/-- A ring sector with a generation takes part in the stream: opened, or retired with content (R112). -/
theorem NonVol.classify_streams (nv : NonVol) (z : RingSector) {g : Nat} (hg : z.generation = .val g) :
    (nv.classify z = .opened ∨ (nv.classify z = .retired ∧ z.content ≠ [])) ↔
      if z.sector ∈ nv.retireMap ∨ z.eraseCount = .val 100000 then z.content ≠ []
      else z.eraseCount ≠ .blank ∧ z.eraseCount ≠ .torn := by
  have hhalf : z.Half ↔ z.eraseCount = .blank ∨ z.eraseCount = .torn := by simp [RingSector.Half, hg]
  by_cases hr : nv.HoldsRetired z
  · have hclass := (nv.classify_retired_iff z).mpr hr
    rw [if_pos (by exact hr), hclass]
    simp
  · rw [if_neg (by exact hr), ← not_or, ← hhalf]
    by_cases hh : z.Half
    · rcases NonVol.classify_half hr hh with h | h <;> simp [h, hh]
    · simp [NonVol.classify_opened hr hh hg, hh]

theorem NonVol.streamSector_eq_some (nv : NonVol) (z : RingSector) (x : StreamSector) : nv.streamSector z = some x ↔
    z.generation = .val x.generation ∧ nv.base ≤ x.generation ∧
      x = { sector := z.sector, generation := x.generation, flag := z.restart, slots := z.content } ∧
      (if z.sector ∈ nv.retireMap ∨ z.eraseCount = .val 100000 then z.content ≠ []
       else z.eraseCount ≠ .blank ∧ z.eraseCount ≠ .torn) := by
  cases hg : z.generation with
  | blank => simp [NonVol.streamSector, hg]
  | torn => simp [NonVol.streamSector, hg]
  | val g =>
    rw [← nv.classify_streams z hg, NonVol.streamSector, hg]
    dsimp only
    rw [Option.ite_none_right_eq_some, Option.some.injEq, Bool.and_eq_true, decide_eq_true_eq]
    constructor
    · rintro ⟨⟨hpart, hbase⟩, rfl⟩
      refine ⟨rfl, hbase, rfl, ?_⟩
      split at hpart
      case h_1 hclass => exact .inl hclass
      case h_2 hclass => exact .inr ⟨hclass, by simpa using hpart⟩
      all_goals cases hpart
    · rintro ⟨⟨⟩, hbase, hx, hclass⟩
      refine ⟨⟨?_, hbase⟩, hx.symm⟩
      rcases hclass with hclass | ⟨hclass, hcontent⟩
      · rw [hclass]
      · rw [hclass]
        simpa using hcontent

/-! ### The end of replay -/

theorem exec_replayEnd_sealed {s : State} (hs : s.ctl.start = .replaying) (hc : s.catalog.state = .sealed) {r : Replayed}
    (hr : replay s.nv s.catalog.entries = r) :
    exec .replayEnd s = .next
      { s with
        catalog := { s.catalog with entries := r.entries }
        store := { s.store with durable := r.durable }
        ctl := { s.ctl with start := .cleanup, replay := some r.result } } := by
  change execReplayEnd s = _
  rw [execReplayEnd, if_pos hs, State.replayed, if_pos hc, hr]

theorem replay_noImage {nv : NonVol} {es : List Entry} (h : newestImage (atDefaults es) nv.stream = none) :
    (replay nv es).durable = 0 ∧ (replay nv es).entries = atDefaults es := by
  unfold replay
  dsimp only
  rw [h]
  exact ⟨rfl, rfl⟩

/-- What replay hands over where the stream ends with stretches that follow one another. -/
theorem exec_replayEnd_stretches (s : State) (older : List StreamSector) (z : Stretch) (zs : List Stretch) (pre : List Slot) (n : Nat)
    (image : List Change) (hs : s.ctl.start = .replaying) (hc : s.catalog.state = .sealed) (hids : s.IdsAscending)
    (hstream : s.nv.stream = older ++ (z :: zs).flatMap (fun y => y.sectors)) (h : StretchesFollow s.catalog.entries n (z :: zs))
    (hbefore : z.before = pre ++ groupSlots .image n image) (hpre : pre.length < z.first.slots.length)
    (hnames : image.map (fun c => c.id) = (s.catalog.entries.filter (fun e => e.defn.persistent)).map (fun e => e.defn.id))
    (hagree : ∀ c ∈ image, c.Agrees s.catalog.entries) :
    ∃ t res, exec .replayEnd s = .next t ∧ t.ctl.replay = some res ∧
      t.store.durable = n + (stretchCommits (z :: zs)).length ∧ res.groups = (stretchCommits (z :: zs)).length + 1 ∧
      res.imageGeneration = some z.first.generation ∧ (∀ y ∈ (z :: zs).getLast?, y.Ends res.outcome) ∧
      res.skipped =
        ((z :: zs).dropLast.flatMap (fun y => if y.tail = [] then [] else y.behind)).map (fun x => x.sector) ∧
      (∀ (as : List Stretch) (y : Stretch) (bs : List Stretch), z :: zs = as ++ y :: bs → as = [] ∨ y.commits ≠ [] →
        (∀ b ∈ bs, b.commits = []) →
        res.endSector = (y.run.take y.reached).getLast?.map (fun x => x.sector) ∧
        res.later = (y.behind ++ bs.flatMap (fun b => b.sectors)).map (fun x => x.sector) ∧
        (res.tail = true ↔ y.tail ≠ [] ∨ ∃ x ∈ y.unread ++ bs.flatMap (fun b => b.sectors), x.slots ≠ [])) ∧
      ∀ e ∈ t.catalog.entries, e.defn.persistent = true →
        ∃ c, (image ++ (stretchCommits (z :: zs)).flatten).reverse.find? (fun c => decide (c.id = e.defn.id)) = some c ∧
          e.live = some { working := c.value, committed := c.value, version := c.version } := by
  have hids : IdsOrdered s.catalog.entries := hids
  obtain ⟨u, hr, hu⟩ := replay_stretches hids h hbefore hpre hstream (imageAgrees_atDefaults hids hnames hagree)
  refine ⟨_, _, exec_replayEnd_sealed hs hc hr, rfl, hu.durable, hu.groups.trans (Nat.add_comm _ _), rfl, hu.outcome,
    hu.skipped.trans (List.nil_append _), fun as y bs hsplit hy hbs => ?_, ?_⟩
  · obtain ⟨m, hfollows⟩ := h.member hsplit
    obtain ⟨hend, hlater, htail⟩ := hfollows.handed (hu.standsBehind h hbefore hpre hsplit hy hbs)
    exact ⟨hend, congrArg (List.map StreamSector.sector) hlater, htail⟩
  · change ∀ e ∈ u.entries, _
    rw [hu.entries]
    exact restored_entries hids hnames (atDefaults_defns _) h.commitsAgree

/-! ### An image and its COMMIT groups in the last sector -/

/-- A COMMIT group cut off before its close mark. -/
theorem unclosedGroup_take {m : Nat} {cs : List Change} {j : Nat} (hpos : 0 < j) (hj : j < (groupSlots .commit m cs).length) :
    UnclosedGroup ((groupSlots .commit m cs).take j) := by
  obtain ⟨i, rfl⟩ := Nat.exists_eq_succ_of_ne_zero hpos.ne'
  rw [groupSlots_length] at hj
  refine ⟨.commit, m, (cs.flatMap Change.slots).take i, ?_, fun a b hmem => (changes_noMark cs).2 a b (List.mem_of_mem_take hmem)⟩
  rw [groupSlots, List.cons_append, List.take_succ_cons, List.take_append_of_le_length (by omega)]

/-- The last sector of the stream as a stretch. -/
def lastStretch (x : StreamSector) (before : List Slot) (commits : List (List Change)) (tail : List Slot) : Stretch where
  first := x
  others := []
  unread := []
  before := before
  commits := commits
  tail := tail

section
variable {E : List Entry} {x : StreamSector} {before tail : List Slot} {n : Nat} {commits : List (List Change)}

theorem lastStretch_follows (hslots : x.slots = before ++ (commitGroups n commits ++ tail))
    (hcommits : ∀ cs ∈ commits, CommitGroupAgrees E cs) (htail : tail = [] ∨ UnclosedGroup tail) :
    StretchesFollow E n [lastStretch x before commits tail] :=
  ⟨⟨(List.append_nil _).trans hslots, nofun, nofun, hcommits, htail.imp_right .inl, fun h => absurd rfl h⟩, nofun, trivial⟩

theorem lastStretch_commits : stretchCommits [lastStretch x before commits tail] = commits := List.append_nil _

theorem lastStretch_reached (hslots : x.slots = before ++ (commitGroups n commits ++ tail)) (hpos : 0 < before.length) :
    (lastStretch x before commits tail).run.take (lastStretch x before commits tail).reached = [x] := by
  refine List.take_of_length_le ?_
  change 1 ≤ ((x.slots ++ []).length - tail.length + 254) / 255
  rw [List.append_nil, hslots, List.length_append, List.length_append]
  omega

end

/-- Settles O56: a replay over stretches is a walk from the newest image on, and the last sector is a stretch of its own. -/
theorem replayRestoresCommittedValues : Obligations.ReplayRestoresCommittedValues := by
  unfold Obligations.ReplayRestoresCommittedValues
  refine ⟨fun s hs hc hids => ?_, fun s older x pre tail n image commits hs hc hids hstream hslots hnames hagree hcommits htail => ?_,
    exec_replayEnd_stretches, fun nv => ?_, fun s hs hc => ?_⟩
  · refine ⟨_, exec_replayEnd_sealed hs hc rfl, rfl, replay_defns _ _, replay_settled _ hids, fun hnone => ?_, rfl, rfl⟩
    obtain ⟨hdurable, hentries⟩ := replay_noImage hnone
    refine ⟨hdurable, fun e he => ?_⟩
    change e ∈ (replay s.nv s.catalog.entries).entries at he
    rw [hentries] at he
    obtain ⟨e0, -, rfl⟩ := List.mem_map.mp he
    rfl
  · have hunclosed : tail = [] ∨ UnclosedGroup tail := htail.imp_right fun ⟨m, cs, j, hpos, hj, ht⟩ => ht ▸ unclosedGroup_take hpos hj
    have hslots' : x.slots = (pre ++ groupSlots .image n image) ++ (commitGroups n commits ++ tail) := by
      rw [hslots, List.append_assoc _ _ tail]
      rfl
    have hgroup : 0 < (groupSlots .image n image).length := by rw [groupSlots_length]; omega
    obtain ⟨t, res, hexec, hreplay, hdurable, hgroups, hgeneration, hends, -, hending, hvalues⟩ := exec_replayEnd_stretches s older
      (lastStretch x (pre ++ groupSlots .image n image) commits tail) [] pre n image hs hc hids hstream
      (lastStretch_follows hslots' hcommits hunclosed) rfl
      (by rw [show (lastStretch x _ commits tail).first.slots = _ from hslots', List.length_append, List.length_append]; omega)
      hnames hagree
    rw [lastStretch_commits] at hdurable hgroups hvalues
    obtain ⟨hend, -, htailIff⟩ := hending [] _ [] rfl (.inl rfl) nofun
    rw [lastStretch_reached hslots' (by rw [List.length_append]; omega)] at hend
    obtain ⟨hclean, htorn, -, -⟩ := hends _ rfl
    refine ⟨t, res, hexec, hdurable, hreplay, hgroups, ?_, htailIff.trans (or_iff_left (by rintro ⟨y, ⟨⟩, -⟩)), hend, hgeneration, hvalues⟩
    split
    · exact hclean ‹_›
    · exact htorn (hunclosed.resolve_left ‹_›) nofun
  · obtain ⟨hsorted, hmem⟩ := foldl_insertStream (nv.ring.filterMap nv.streamSector) List.Pairwise.nil
    refine ⟨hsorted, fun x => ?_⟩
    rw [NonVol.stream, hmem, or_iff_left List.not_mem_nil, List.mem_filterMap]
    exact exists_congr fun z => and_congr_right fun _ => nv.streamSector_eq_some z x
  · refine ⟨s.replayed, ?_, ?_⟩
    · change execReplayEnd s = _
      rw [execReplayEnd, if_pos hs]
    · rw [State.replayed, if_neg hc]
      exact ⟨rfl, rfl, rfl, rfl, rfl⟩

end Sys2Proof.Machine
end
